-- ==== Sys2Proof/Word.lean ====
section
/-! DEFINITION. The bit-vector words of the NJ-624: what the manual treats as bits.
Counts, sizes, addresses and times that never wrap are plain `Nat`. -/

namespace Sys2Proof

/-- One byte of the frame store, of a payload field or of a status layout. -/
abbrev Byte := BitVec 8

/-- A 16-bit field (a command's kind, its tag). -/
abbrev Half := BitVec 16

/-- A 32-bit field: frame numbers, venue time, record numbers, counts that wrap at 2^32. -/
abbrev Word := BitVec 32

/-- The 8 data bytes of one beat (R165); byte 0, at the lowest address, is the least significant. -/
abbrev Beat := BitVec 64

/-- A 24-bit colour, one byte each channel (00_scope, "Colours"). -/
structure Colour where
  red : Byte
  green : Byte
  blue : Byte
  deriving DecidableEq, Repr

end Sys2Proof
end

