-- ==== Sys2Proof/Syntax.lean ====
section
/-! DEFINITION. The commands of the block: one constructor of `Instr` for each row of spec/opcode_table.json, in the table's
order, with the operands each row needs. A row the manual gives no operand fields (its table holds none) has the operands
its rule reads: a host command carries its ring slot and the payload fields of Table 11.2 as the raw bytes of the slot; an
event carries what comes from outside the part at that moment (line levels, straps, beat data) and, where the manual says
that two things "come together" and "either may be first", which of them is first. -/

namespace Sys2Proof

/-- One of the 16 zone indices (R2). -/
abbrev ZoneIx := Fin 16

/-- One of the 64 slots of the command ring (R178). -/
abbrev RingSlot := Fin 64

/-- One of the parts of a millisecond tick whose order the manual leaves open (R92, R98): the clock unit's own
work of R66, and the sampling of one console line together with what its edge does. -/
inductive TickPart where
  | clockWork
  | line (n : Fin 8)
  deriving DecidableEq, Repr

/-- What a millisecond tick brings from outside: the raw level of each console line (bit n is line Ln, 1 is high),
and the order in which the tick's parts are decided. -/
structure TickInput where
  lines : Byte
  order : List TickPart
  deriving DecidableEq, Repr

/-- The strap levels (R175): MSIZE1-0 as a number, BORD and FRATE. -/
structure Straps where
  msize : BitVec 2
  bord : Bool
  frate : Bool
  deriving DecidableEq, Repr

/-- The four burst lengths of a host transaction (R165). -/
inductive BurstLength where
  | one
  | two
  | four
  | eight
  deriving DecidableEq, Repr

/-- The two blocks that put writes into the part write queue (R171). -/
inductive WriterBlock where
  | commandUnit
  | exposureCounter
  deriving DecidableEq, Repr

/-- What time brings to a choice of the arbiter: how many fetched 16-pixel blocks the panel link has sent since the last
choice, oldest first (R174), and whether the 200 microseconds of the start-up's first step are over (R176). -/
structure ChoiceInput where
  sent : Nat
  waitOver : Bool
  deriving DecidableEq, Repr

/-- The STAGE_ZONE payload after the index (Table 11.2). The guard colour's fourth byte is ignored. -/
structure ZonePayload where
  enable : Byte
  source : Byte
  x : Byte
  y : Byte
  w : Byte
  h : Byte
  level : Byte
  leadIn : Byte
  guard : Colour
  param : Word
  deriving DecidableEq, Repr

/-- The ROLL payload (Table 11.2). -/
structure RollPayload where
  fIn : Word
  fOut : Word
  outPresent : Byte
  direction : Byte
  endMode : Byte
  blend : Byte
  cutOnClock : Byte
  speed : Half
  rs : Half
  deriving DecidableEq, Repr

/-- The DEFINE_SPOT payload (Table 11.2). -/
structure SpotPayload where
  id : Byte
  artW : Byte
  artH : Byte
  minVisible : Byte
  spotClass : Byte
  artBase : Word
  contract : Word
  dwell : Half
  deriving DecidableEq, Repr

/-- The POST_MESSAGE payload (Table 11.2); `text` holds the payload bytes from offset 24 on. -/
structure MessagePayload where
  tag : Half
  priority : Byte
  repeats : Byte
  lifetime : Half
  stoppageOnly : Byte
  length : Byte
  text : List Byte
  deriving DecidableEq, Repr

/-- The commands and events of the NJ-624, one constructor per row of the opcode table. -/
inductive Instr where
  /-- POWER_ON -/
  | powerOn
  /-- RESET_LINE_LOW -/
  | resetLineLow
  /-- RESET_RELEASE, with the levels on the straps -/
  | resetRelease (straps : Straps)
  /-- START_UP_COMPLETE -/
  | startUpComplete
  /-- MILLISECOND_TICK -/
  | millisecondTick (tick : TickInput)
  /-- PERIOD_END: the millisecond tick in which the period ends -/
  | periodEnd (tick : TickInput)
  /-- MARK_FIRES: the millisecond tick in which a mark fires -/
  | markFires (tick : TickInput)
  /-- SHOT_CLOCK_END: the millisecond tick in which the shot clock runs out -/
  | shotClockEnd (tick : TickInput)
  /-- HORN_TIMER_RUNS_OUT: the millisecond tick in which the horn timer reaches 0 -/
  | hornTimerRunsOut (tick : TickInput)
  /-- LINE_EDGE: the millisecond tick in which an edge of the line is accepted -/
  | lineEdge (line : Fin 8) (tick : TickInput)
  /-- FRAME_END; the operand says whether the intake's retry comes before the roller's step -/
  | frameEnd (retryFirst : Bool)
  /-- FRAME_START -/
  | frameStart
  /-- LEAD_IN_END: the FRAME_START at which the zone's lead-in counter reaches 0 -/
  | leadInEnd (zone : ZoneIx)
  /-- UNDERRUN of the wall cell in column cx and row cy -/
  | underrun (cx cy : Nat)
  /-- INTAKE_RETRY -/
  | intakeRetry
  /-- DWELL_DONE: the FRAME_END at which the zone's showing ends with DWELL_DONE -/
  | dwellDone (zone : ZoneIx) (retryFirst : Bool)
  /-- COVER_LIMIT: the FRAME_END at which the zone's showing ends with COVER_LIMIT -/
  | coverLimit (zone : ZoneIx) (retryFirst : Bool)
  /-- MESSAGE_EXPIRY: the FRAME_END at which an entry is found expired -/
  | messageExpiry (retryFirst : Bool)
  /-- PASS_END: the FRAME_END at which a pass of the showing message ends -/
  | passEnd (retryFirst : Bool)
  /-- HOST_WRITE_ARRIVAL -/
  | hostWriteArrival (addr : Word) (length : BurstLength)
  /-- WRITE_BEAT: the next beat of the WRITE in progress; mask bit j set means byte j is written -/
  | writeBeat (data : Beat) (mask : Byte)
  /-- HOST_WRITE_END; the line levels are those a SET_LINE taken at this end reads, and the second operand says
  whether an intake retry held over to this end comes before the end-of-burst events -/
  | hostWriteEnd (lines : Byte) (retryFirst : Bool)
  /-- HOST_READ -/
  | hostRead (addr : Word) (length : BurstLength)
  /-- COMPLETION -/
  | completion
  /-- WATCHED_WRITE of a value to the log read word -/
  | watchedWrite (value : Word)
  /-- REFRESH_DUE -/
  | refreshDue
  /-- ACCESS_END; `joinFirst` names the block whose waiting write joins first if both wait -/
  | accessEnd (choice : ChoiceInput) (joinFirst : WriterBlock)
  /-- QUEUE_JOIN -/
  | queueJoin (joinFirst : WriterBlock)
  /-- UNKNOWN_KIND: a closed slot with the kind, tag and closing word given -/
  | unknownKind (slot : RingSlot) (kind tag : Half) (closing : Word)
  /-- NOP -/
  | nop (slot : RingSlot)
  /-- ACK_FLAGS -/
  | ackFlags (slot : RingSlot) (mask : Word)
  /-- SET_ATTN_MASK -/
  | setAttnMask (slot : RingSlot) (mask : Word)
  /-- ACK_CAUSES -/
  | ackCauses (slot : RingSlot)
  /-- RESTART -/
  | restart (slot : RingSlot)
  /-- SET_SCREEN -/
  | setScreen (slot : RingSlot) (w h : Byte)
  /-- STAGE_ZONE -/
  | stageZone (slot : RingSlot) (index : Byte) (zone : ZonePayload)
  /-- APPLY_PLAN -/
  | applyPlan (slot : RingSlot)
  /-- CANCEL_STAGE -/
  | cancelStage (slot : RingSlot)
  /-- SET_OUTPUT_MODE -/
  | setOutputMode (slot : RingSlot) (mode : Byte)
  /-- SET_HOUSE_SLATE -/
  | setHouseSlate (slot : RingSlot) (present : Byte) (base : Word)
  /-- SET_FONT -/
  | setFont (slot : RingSlot) (present : Byte) (base : Word)
  /-- SET_RING -/
  | setRing (slot : RingSlot) (ringBase aliasBase : Word) (w h count : Byte)
  /-- HOLD_FRAMES -/
  | holdFrames (slot : RingSlot) (first last : Word)
  /-- RELEASE_FRAMES -/
  | releaseFrames (slot : RingSlot) (first last : Word)
  /-- DISCARD_FRAMES -/
  | discardFrames (slot : RingSlot) (first last : Word)
  /-- ROLL -/
  | roll (slot : RingSlot) (payload : RollPayload)
  /-- SET_SPEED -/
  | setSpeed (slot : RingSlot) (speed : Half) (direction : Byte)
  /-- STOP_REPLAY -/
  | stopReplay (slot : RingSlot)
  /-- SET_GAME_CLOCK -/
  | setGameClock (slot : RingSlot) (value limit : Word) (direction tenths : Byte)
  /-- START_CLOCK -/
  | startClock (slot : RingSlot)
  /-- STOP_CLOCK -/
  | stopClock (slot : RingSlot)
  /-- ADJUST_CLOCK; the delta is signed -/
  | adjustClock (slot : RingSlot) (delta : Word)
  /-- SET_MARK -/
  | setMark (slot : RingSlot) (mark present actions : Byte) (value : Word)
  /-- SET_SHOT_CLOCK -/
  | setShotClock (slot : RingSlot) (preset : Word) (follow startOnGame shotHorn : Byte)
  /-- SHOT_RESET -/
  | shotReset (slot : RingSlot)
  /-- SHOT_START -/
  | shotStart (slot : RingSlot)
  /-- SHOT_STOP -/
  | shotStop (slot : RingSlot)
  /-- SHOT_BLANK -/
  | shotBlank (slot : RingSlot)
  /-- SET_HORN -/
  | setHorn (slot : RingSlot) (periodTime shotTime : Half) (endHorn : Byte)
  /-- SOUND_HORN -/
  | soundHorn (slot : RingSlot) (duration : Half)
  /-- SET_LINE, with the raw line levels at the moment the command is taken -/
  | setLine (slot : RingSlot) (line function activeLevel filter : Byte) (lines : Byte)
  /-- SET_CAPTURE -/
  | setCapture (slot : RingSlot) (channel source line edge : Byte)
  /-- SET_SCORE; the value is signed -/
  | setScore (slot : RingSlot) (field : Byte) (value : Word)
  /-- ADD_SCORE; the delta is signed -/
  | addScore (slot : RingSlot) (field : Byte) (delta : Word)
  /-- SET_FLASH -/
  | setFlash (slot : RingSlot) (frames : Half)
  /-- DEFINE_SPOT -/
  | defineSpot (slot : RingSlot) (payload : SpotPayload)
  /-- WITHDRAW_SPOT -/
  | withdrawSpot (slot : RingSlot) (id : Byte)
  /-- SET_ROTATION; `ids` holds the payload bytes from offset 18 on -/
  | setRotation (slot : RingSlot) (zone count : Byte) (ids : List Byte)
  /-- SET_STING -/
  | setSting (slot : RingSlot) (zone id : Byte)
  /-- SET_CONTRACT -/
  | setContract (slot : RingSlot) (id : Byte) (seconds : Word)
  /-- RESET_TOTALS -/
  | resetTotals (slot : RingSlot) (id : Byte)
  /-- POST_MESSAGE -/
  | postMessage (slot : RingSlot) (payload : MessagePayload)
  /-- CANCEL_MESSAGE -/
  | cancelMessage (slot : RingSlot) (tag : Half)
  /-- CLEAR_MESSAGES -/
  | clearMessages (slot : RingSlot)
  /-- SET_TICKER -/
  | setTicker (slot : RingSlot) (speed : Byte) (gap : Half)
  deriving DecidableEq, Repr

end Sys2Proof
end

