-- ==== Sys2Proof/Config.lean ====
section
/-! DEFINITION. The capacities of Table 0.1 and the model's free values: values the manual leaves open.
A free value is an opaque constant, so nothing can be proved of it and every claim holds whatever it is. -/

namespace Sys2Proof

/-- Free value (R177, "After power-on the contents of the frame store are unknown"): the byte found at frame-store
address `addr` when nothing has written it since the `powerOns`-th power-on. DESIGN CHOICE, notes/assumptions/1. -/
opaque Config.powerOnByte (powerOns addr : Nat) : Byte

/-- Free value: a byte of the status block whose contents the manual does not state for the state at hand (for instance
the crawl position when no entry is showing), by the frame number and the block offset. DESIGN CHOICE, notes/assumptions/2. -/
opaque Config.statusFill (frame offset : Nat) : Byte

/-- Bytes of the control area: the top 64 KiB of the frame store (R164). -/
def Config.controlBytes : Nat := 65536

/-- Bytes of one 32 x 32 cell (00_scope, "Cells"). -/
def Config.cellBytes : Nat := 4096

/-- Bytes of a font: 128 glyphs of 2,048 bytes (R10). -/
def Config.fontBytes : Nat := 262144

/-- Entries of the part write queue (R171). -/
def Config.queueCapacity : Nat := 64

/-- Queue length from which the queue takes turns with the host (R172, row 3). -/
def Config.queueTurn : Nat := 48

/-- Records of the proof-of-play log (R140, R141). -/
def Config.logRecords : Nat := 1024

/-- Spots in the spot table (R110). -/
def Config.spotPlaces : Nat := 48

/-- Crowd messages held, waiting and showing together (R147). -/
def Config.messagePlaces : Nat := 32

/-- Chunks of the text pool (R149). -/
def Config.poolChunks : Nat := 128

/-- The largest clock value, 99 minutes and 59 seconds, in milliseconds (R67). -/
def Config.clockMax : Nat := 5999000

/-- q8 ticks in one second of exposure (R132). -/
def Config.q8PerSecond : Nat := 76800

/-- Refreshes in step 3 of the start-up (R176). -/
def Config.startUpRefreshes : Nat := 8

/-- Pixels the composer's line buffer can hold: two wall lines of the largest screen (R174). -/
def Config.lineBufferPixels : Nat := 8192

end Sys2Proof
end

