-- ==== Sys2Proof/WellFormed.lean ====
section
/-! DEFINITION. What makes a command well formed: the bounds its own operand types cannot say.
The machine gives a meaning to every command, well formed or not (a short list is read as zero bytes, an incomplete order
is completed, R92); these checks say which commands a sender can really send. -/

namespace Sys2Proof

/-- The nine parts of a tick, each of which a well-formed order names exactly once (R92). -/
def tickParts : List TickPart :=
  [.clockWork, .line 0, .line 1, .line 2, .line 3, .line 4, .line 5, .line 6, .line 7]

/-- A tick input whose order is a permutation of the tick's parts. -/
def TickInput.wellFormed (t : TickInput) : Bool :=
  t.order.length == tickParts.length && tickParts.all fun p => t.order.contains p

/-- Table 11.2: the slot's payload runs from byte 16 to byte 251, so at most 234 ids can stand from byte 18 on, and a
count that is taken is covered by the ids given. -/
def rotationWellFormed (count : Byte) (ids : List Byte) : Bool :=
  decide (ids.length ≤ 234) && decide (min count.toNat 16 ≤ ids.length)

/-- Table 11.2: at most 228 characters can stand from byte 24 on, and a length that can be taken is covered. -/
def MessagePayload.wellFormed (p : MessagePayload) : Bool :=
  decide (p.text.length ≤ 228) && decide (min p.length.toNat 200 ≤ p.text.length)

/-- A cell of the largest wall (00_scope, "Screen"). -/
def cellWellFormed (cx cy : Nat) : Bool := decide (cx < 128) && decide (cy < 48)

/-- R174: no more blocks of 16 pixels are sent between two choices than the line buffer can hold. -/
def ChoiceInput.wellFormed (i : ChoiceInput) : Bool := decide (16 * i.sent ≤ Config.lineBufferPixels)

/-- R179: the closing word that submits a slot of this kind and tag. -/
def closingWord (kind tag : Half) : Word := kind ++ tag

/-- The checks on one command. -/
def Instr.wellFormed : Instr → Bool
  | .powerOn => true
  | .resetLineLow => true
  | .resetRelease _ => true
  | .startUpComplete => true
  | .millisecondTick t => t.wellFormed
  | .periodEnd t => t.wellFormed
  | .markFires t => t.wellFormed
  | .shotClockEnd t => t.wellFormed
  | .hornTimerRunsOut t => t.wellFormed
  | .lineEdge _ t => t.wellFormed
  | .frameEnd _ => true
  | .frameStart => true
  | .leadInEnd _ => true
  | .underrun cx cy => cellWellFormed cx cy
  | .intakeRetry => true
  | .dwellDone _ _ => true
  | .coverLimit _ _ => true
  | .messageExpiry _ => true
  | .passEnd _ => true
  | .hostWriteArrival _ _ => true
  | .writeBeat _ _ => true
  | .hostWriteEnd _ _ => true
  | .hostRead _ _ => true
  | .completion => true
  | .watchedWrite _ => true
  | .refreshDue => true
  | .accessEnd i _ => i.wellFormed
  | .queueJoin _ => true
  | .unknownKind _ _ _ _ => true
  | .nop _ => true
  | .ackFlags _ _ => true
  | .setAttnMask _ _ => true
  | .ackCauses _ => true
  | .restart _ => true
  | .setScreen _ _ _ => true
  | .stageZone _ _ _ => true
  | .applyPlan _ => true
  | .cancelStage _ => true
  | .setOutputMode _ _ => true
  | .setHouseSlate _ _ _ => true
  | .setFont _ _ _ => true
  | .setRing _ _ _ _ _ _ => true
  | .holdFrames _ _ _ => true
  | .releaseFrames _ _ _ => true
  | .discardFrames _ _ _ => true
  | .roll _ _ => true
  | .setSpeed _ _ _ => true
  | .stopReplay _ => true
  | .setGameClock _ _ _ _ _ => true
  | .startClock _ => true
  | .stopClock _ => true
  | .adjustClock _ _ => true
  | .setMark _ _ _ _ _ => true
  | .setShotClock _ _ _ _ _ => true
  | .shotReset _ => true
  | .shotStart _ => true
  | .shotStop _ => true
  | .shotBlank _ => true
  | .setHorn _ _ _ _ => true
  | .soundHorn _ _ => true
  | .setLine _ _ _ _ _ _ => true
  | .setCapture _ _ _ _ _ => true
  | .setScore _ _ _ => true
  | .addScore _ _ _ => true
  | .setFlash _ _ => true
  | .defineSpot _ _ => true
  | .withdrawSpot _ _ => true
  | .setRotation _ _ count ids => rotationWellFormed count ids
  | .setSting _ _ _ => true
  | .setContract _ _ _ => true
  | .resetTotals _ _ => true
  | .postMessage _ p => p.wellFormed
  | .cancelMessage _ _ => true
  | .clearMessages _ => true
  | .setTicker _ _ _ => true

end Sys2Proof
end

