-- ==== Sys2Proof/Decode.lean ====
section
/-! DEFINITION. Decoding. The opcode table gives no row any bits, so `decodeTableWord` reads none. What the NJ-624 itself decodes is a
command slot (R178-R180): `decodeSlot` reads the bytes of a slot, and `slotImage` writes the slot that submits a command, both from
Tables 11.1 and 11.2. -/

namespace Sys2Proof

/-- The command a word spells by the table's bits: no row has any, so none does (notes/assumptions/6). -/
def decodeTableWord (_nbits _w : Nat) : Option Instr := none

/-! ### Fields of a slot, given as its bytes by slot offset (R180: little-endian) -/

/-- A 2-byte field. -/
def halfAt (b : Nat → Byte) (o : Nat) : Half := b (o + 1) ++ b o

/-- A 4-byte field. -/
def wordAt (b : Nat → Byte) (o : Nat) : Word := (b (o + 3) ++ b (o + 2)) ++ (b (o + 1) ++ b o)

/-- A run of `n` one-byte fields. -/
def bytesAt (b : Nat → Byte) (o n : Nat) : List Byte := (List.range n).map fun i => b (o + i)

/-- The STAGE_ZONE payload after the index. -/
def zoneAt (b : Nat → Byte) : ZonePayload :=
  { enable := b 17, source := b 18, x := b 19, y := b 20, w := b 21, h := b 22, level := b 23, leadIn := b 24,
    guard := ⟨b 28, b 29, b 30⟩, param := wordAt b 32 }

/-- The ROLL payload. -/
def rollAt (b : Nat → Byte) : RollPayload :=
  { fIn := wordAt b 16, fOut := wordAt b 20, outPresent := b 24, direction := b 25, endMode := b 26, blend := b 27,
    cutOnClock := b 28, speed := halfAt b 30, rs := halfAt b 32 }

/-- The DEFINE_SPOT payload. -/
def spotAt (b : Nat → Byte) : SpotPayload :=
  { id := b 16, artW := b 17, artH := b 18, minVisible := b 19, spotClass := b 20, artBase := wordAt b 24,
    contract := wordAt b 28, dwell := halfAt b 32 }

/-- The POST_MESSAGE payload; only characters that a length within range covers are read. -/
def messageAt (b : Nat → Byte) : MessagePayload :=
  { tag := halfAt b 16, priority := b 18, repeats := b 19, lifetime := halfAt b 20, stoppageOnly := b 22, length := b 23,
    text := bytesAt b 24 (min (b 23).toNat 200) }

/-- The command of a kind, its payload read from the slot's bytes (Table 11.2); none for a kind the table does not have.
`lines` is what the console lines' raw levels are at that moment, which a SET_LINE reads (R94). -/
def decodeCommand (slot : RingSlot) (lines : Byte) (kind : Nat) (b : Nat → Byte) : Option Instr :=
  match kind with
  | 0x00 => some (.nop slot)
  | 0x01 => some (.ackFlags slot (wordAt b 16))
  | 0x02 => some (.setAttnMask slot (wordAt b 16))
  | 0x03 => some (.ackCauses slot)
  | 0x04 => some (.restart slot)
  | 0x10 => some (.setScreen slot (b 16) (b 17))
  | 0x11 => some (.stageZone slot (b 16) (zoneAt b))
  | 0x12 => some (.applyPlan slot)
  | 0x13 => some (.cancelStage slot)
  | 0x14 => some (.setOutputMode slot (b 16))
  | 0x15 => some (.setHouseSlate slot (b 16) (wordAt b 20))
  | 0x16 => some (.setFont slot (b 16) (wordAt b 20))
  | 0x20 => some (.setRing slot (wordAt b 16) (wordAt b 20) (b 24) (b 25) (b 26))
  | 0x21 => some (.holdFrames slot (wordAt b 16) (wordAt b 20))
  | 0x22 => some (.releaseFrames slot (wordAt b 16) (wordAt b 20))
  | 0x23 => some (.discardFrames slot (wordAt b 16) (wordAt b 20))
  | 0x24 => some (.roll slot (rollAt b))
  | 0x25 => some (.setSpeed slot (halfAt b 16) (b 18))
  | 0x26 => some (.stopReplay slot)
  | 0x30 => some (.setGameClock slot (wordAt b 16) (wordAt b 20) (b 24) (b 25))
  | 0x31 => some (.startClock slot)
  | 0x32 => some (.stopClock slot)
  | 0x33 => some (.adjustClock slot (wordAt b 16))
  | 0x34 => some (.setMark slot (b 16) (b 17) (b 18) (wordAt b 20))
  | 0x35 => some (.setShotClock slot (wordAt b 16) (b 20) (b 21) (b 22))
  | 0x36 => some (.shotReset slot)
  | 0x37 => some (.shotStart slot)
  | 0x38 => some (.shotStop slot)
  | 0x39 => some (.shotBlank slot)
  | 0x3A => some (.setHorn slot (halfAt b 16) (halfAt b 18) (b 20))
  | 0x3B => some (.soundHorn slot (halfAt b 16))
  | 0x40 => some (.setLine slot (b 16) (b 17) (b 18) (b 19) lines)
  | 0x41 => some (.setCapture slot (b 16) (b 17) (b 18) (b 19))
  | 0x50 => some (.setScore slot (b 16) (wordAt b 20))
  | 0x51 => some (.addScore slot (b 16) (wordAt b 20))
  | 0x52 => some (.setFlash slot (halfAt b 16))
  | 0x60 => some (.defineSpot slot (spotAt b))
  | 0x61 => some (.withdrawSpot slot (b 16))
  | 0x62 => some (.setRotation slot (b 16) (b 17) (bytesAt b 18 (min (b 17).toNat 16)))
  | 0x63 => some (.setSting slot (b 16) (b 17))
  | 0x64 => some (.setContract slot (b 16) (wordAt b 20))
  | 0x65 => some (.resetTotals slot (b 16))
  | 0x70 => some (.postMessage slot (messageAt b))
  | 0x71 => some (.cancelMessage slot (halfAt b 16))
  | 0x72 => some (.clearMessages slot)
  | 0x73 => some (.setTicker slot (b 16) (halfAt b 18))
  | _ => none

/-- What a closed slot is (R179). -/
inductive SlotReading where
  | malformed
  | unknownKind
  | command (i : Instr)
  deriving DecidableEq, Repr

/-- The three steps of R179 on the bytes of a closed slot. -/
def decodeSlot (slot : RingSlot) (lines : Byte) (b : Nat → Byte) : SlotReading :=
  if wordAt b 252 ≠ closingWord (halfAt b 0) (halfAt b 2) then .malformed
  else
    match decodeCommand slot lines (halfAt b 0).toNat b with
    | some i => .command i
    | none => .unknownKind

/-! ### Writing a slot (Tables 11.1, 11.2) -/

/-- The bytes of a 2-byte field. -/
def halfBytes (v : Half) : List Byte := [v.extractLsb' 0 8, v.extractLsb' 8 8]

/-- The bytes of a 4-byte field. -/
def wordBytes (v : Word) : List Byte := [v.extractLsb' 0 8, v.extractLsb' 8 8, v.extractLsb' 16 8, v.extractLsb' 24 8]

/-- The STAGE_ZONE payload after the index. -/
def zoneBytes (p : ZonePayload) : List Byte :=
  [p.enable, p.source, p.x, p.y, p.w, p.h, p.level, p.leadIn, 0, 0, 0, p.guard.red, p.guard.green, p.guard.blue, 0] ++
  wordBytes p.param

/-- The ROLL payload. -/
def rollBytes (p : RollPayload) : List Byte :=
  wordBytes p.fIn ++ wordBytes p.fOut ++ [p.outPresent, p.direction, p.endMode, p.blend, p.cutOnClock, 0] ++
  halfBytes p.speed ++ halfBytes p.rs

/-- The DEFINE_SPOT payload. -/
def spotBytes (p : SpotPayload) : List Byte :=
  [p.id, p.artW, p.artH, p.minVisible, p.spotClass, 0, 0, 0] ++ wordBytes p.artBase ++ wordBytes p.contract ++ halfBytes p.dwell

/-- The POST_MESSAGE payload. -/
def messageBytes (p : MessagePayload) : List Byte :=
  halfBytes p.tag ++ [p.priority, p.repeats] ++ halfBytes p.lifetime ++ [p.stoppageOnly, p.length] ++ p.text

/-- The kind of a host command (Table 11.2); an event has none. -/
def commandKind : Instr → Option Half
  | .powerOn => none
  | .resetLineLow => none
  | .resetRelease _ => none
  | .startUpComplete => none
  | .millisecondTick _ => none
  | .periodEnd _ => none
  | .markFires _ => none
  | .shotClockEnd _ => none
  | .hornTimerRunsOut _ => none
  | .lineEdge _ _ => none
  | .frameEnd _ => none
  | .frameStart => none
  | .leadInEnd _ => none
  | .underrun _ _ => none
  | .intakeRetry => none
  | .dwellDone _ _ => none
  | .coverLimit _ _ => none
  | .messageExpiry _ => none
  | .passEnd _ => none
  | .hostWriteArrival _ _ => none
  | .writeBeat _ _ => none
  | .hostWriteEnd _ _ => none
  | .hostRead _ _ => none
  | .completion => none
  | .watchedWrite _ => none
  | .refreshDue => none
  | .accessEnd _ _ => none
  | .queueJoin _ => none
  | .unknownKind _ _ _ _ => none
  | .nop _ => some 0x00
  | .ackFlags _ _ => some 0x01
  | .setAttnMask _ _ => some 0x02
  | .ackCauses _ => some 0x03
  | .restart _ => some 0x04
  | .setScreen _ _ _ => some 0x10
  | .stageZone _ _ _ => some 0x11
  | .applyPlan _ => some 0x12
  | .cancelStage _ => some 0x13
  | .setOutputMode _ _ => some 0x14
  | .setHouseSlate _ _ _ => some 0x15
  | .setFont _ _ _ => some 0x16
  | .setRing _ _ _ _ _ _ => some 0x20
  | .holdFrames _ _ _ => some 0x21
  | .releaseFrames _ _ _ => some 0x22
  | .discardFrames _ _ _ => some 0x23
  | .roll _ _ => some 0x24
  | .setSpeed _ _ _ => some 0x25
  | .stopReplay _ => some 0x26
  | .setGameClock _ _ _ _ _ => some 0x30
  | .startClock _ => some 0x31
  | .stopClock _ => some 0x32
  | .adjustClock _ _ => some 0x33
  | .setMark _ _ _ _ _ => some 0x34
  | .setShotClock _ _ _ _ _ => some 0x35
  | .shotReset _ => some 0x36
  | .shotStart _ => some 0x37
  | .shotStop _ => some 0x38
  | .shotBlank _ => some 0x39
  | .setHorn _ _ _ _ => some 0x3A
  | .soundHorn _ _ => some 0x3B
  | .setLine _ _ _ _ _ _ => some 0x40
  | .setCapture _ _ _ _ _ => some 0x41
  | .setScore _ _ _ => some 0x50
  | .addScore _ _ _ => some 0x51
  | .setFlash _ _ => some 0x52
  | .defineSpot _ _ => some 0x60
  | .withdrawSpot _ _ => some 0x61
  | .setRotation _ _ _ _ => some 0x62
  | .setSting _ _ _ => some 0x63
  | .setContract _ _ _ => some 0x64
  | .resetTotals _ _ => some 0x65
  | .postMessage _ _ => some 0x70
  | .cancelMessage _ _ => some 0x71
  | .clearMessages _ => some 0x72
  | .setTicker _ _ _ => some 0x73

/-- The payload bytes of a host command from slot offset 16 on (Table 11.2). -/
def payloadBytes : Instr → List Byte
  | .powerOn => []
  | .resetLineLow => []
  | .resetRelease _ => []
  | .startUpComplete => []
  | .millisecondTick _ => []
  | .periodEnd _ => []
  | .markFires _ => []
  | .shotClockEnd _ => []
  | .hornTimerRunsOut _ => []
  | .lineEdge _ _ => []
  | .frameEnd _ => []
  | .frameStart => []
  | .leadInEnd _ => []
  | .underrun _ _ => []
  | .intakeRetry => []
  | .dwellDone _ _ => []
  | .coverLimit _ _ => []
  | .messageExpiry _ => []
  | .passEnd _ => []
  | .hostWriteArrival _ _ => []
  | .writeBeat _ _ => []
  | .hostWriteEnd _ _ => []
  | .hostRead _ _ => []
  | .completion => []
  | .watchedWrite _ => []
  | .refreshDue => []
  | .accessEnd _ _ => []
  | .queueJoin _ => []
  | .unknownKind _ _ _ _ => []
  | .nop _ => []
  | .ackFlags _ x0 => wordBytes x0
  | .setAttnMask _ x0 => wordBytes x0
  | .ackCauses _ => []
  | .restart _ => []
  | .setScreen _ x0 x1 => [x0] ++ [x1]
  | .stageZone _ index p => index :: zoneBytes p
  | .applyPlan _ => []
  | .cancelStage _ => []
  | .setOutputMode _ x0 => [x0]
  | .setHouseSlate _ x0 x1 => [x0] ++ [0, 0, 0] ++ wordBytes x1
  | .setFont _ x0 x1 => [x0] ++ [0, 0, 0] ++ wordBytes x1
  | .setRing _ x0 x1 x2 x3 x4 => wordBytes x0 ++ wordBytes x1 ++ [x2] ++ [x3] ++ [x4]
  | .holdFrames _ x0 x1 => wordBytes x0 ++ wordBytes x1
  | .releaseFrames _ x0 x1 => wordBytes x0 ++ wordBytes x1
  | .discardFrames _ x0 x1 => wordBytes x0 ++ wordBytes x1
  | .roll _ p => rollBytes p
  | .setSpeed _ x0 x1 => halfBytes x0 ++ [x1]
  | .stopReplay _ => []
  | .setGameClock _ x0 x1 x2 x3 => wordBytes x0 ++ wordBytes x1 ++ [x2] ++ [x3]
  | .startClock _ => []
  | .stopClock _ => []
  | .adjustClock _ x0 => wordBytes x0
  | .setMark _ x0 x1 x2 x3 => [x0] ++ [x1] ++ [x2] ++ [0] ++ wordBytes x3
  | .setShotClock _ x0 x1 x2 x3 => wordBytes x0 ++ [x1] ++ [x2] ++ [x3]
  | .shotReset _ => []
  | .shotStart _ => []
  | .shotStop _ => []
  | .shotBlank _ => []
  | .setHorn _ x0 x1 x2 => halfBytes x0 ++ halfBytes x1 ++ [x2]
  | .soundHorn _ x0 => halfBytes x0
  | .setLine _ x0 x1 x2 x3 _ => [x0, x1, x2, x3]
  | .setCapture _ x0 x1 x2 x3 => [x0] ++ [x1] ++ [x2] ++ [x3]
  | .setScore _ x0 x1 => [x0] ++ [0, 0, 0] ++ wordBytes x1
  | .addScore _ x0 x1 => [x0] ++ [0, 0, 0] ++ wordBytes x1
  | .setFlash _ x0 => halfBytes x0
  | .defineSpot _ p => spotBytes p
  | .withdrawSpot _ x0 => [x0]
  | .setRotation _ zone count ids => [zone, count] ++ ids
  | .setSting _ x0 x1 => [x0] ++ [x1]
  | .setContract _ x0 x1 => [x0] ++ [0, 0, 0] ++ wordBytes x1
  | .resetTotals _ x0 => [x0]
  | .postMessage _ p => messageBytes p
  | .cancelMessage _ x0 => halfBytes x0
  | .clearMessages _ => []
  | .setTicker _ x0 x1 => [x0] ++ [0] ++ halfBytes x1

/-- The ring slot of a host command; an event has none. -/
def commandSlot : Instr → Option RingSlot
  | .powerOn => none
  | .resetLineLow => none
  | .resetRelease _ => none
  | .startUpComplete => none
  | .millisecondTick _ => none
  | .periodEnd _ => none
  | .markFires _ => none
  | .shotClockEnd _ => none
  | .hornTimerRunsOut _ => none
  | .lineEdge _ _ => none
  | .frameEnd _ => none
  | .frameStart => none
  | .leadInEnd _ => none
  | .underrun _ _ => none
  | .intakeRetry => none
  | .dwellDone _ _ => none
  | .coverLimit _ _ => none
  | .messageExpiry _ => none
  | .passEnd _ => none
  | .hostWriteArrival _ _ => none
  | .writeBeat _ _ => none
  | .hostWriteEnd _ _ => none
  | .hostRead _ _ => none
  | .completion => none
  | .watchedWrite _ => none
  | .refreshDue => none
  | .accessEnd _ _ => none
  | .queueJoin _ => none
  | .unknownKind _ _ _ _ => none
  | .nop slot => some slot
  | .ackFlags slot _ => some slot
  | .setAttnMask slot _ => some slot
  | .ackCauses slot => some slot
  | .restart slot => some slot
  | .setScreen slot _ _ => some slot
  | .stageZone slot _ _ => some slot
  | .applyPlan slot => some slot
  | .cancelStage slot => some slot
  | .setOutputMode slot _ => some slot
  | .setHouseSlate slot _ _ => some slot
  | .setFont slot _ _ => some slot
  | .setRing slot _ _ _ _ _ => some slot
  | .holdFrames slot _ _ => some slot
  | .releaseFrames slot _ _ => some slot
  | .discardFrames slot _ _ => some slot
  | .roll slot _ => some slot
  | .setSpeed slot _ _ => some slot
  | .stopReplay slot => some slot
  | .setGameClock slot _ _ _ _ => some slot
  | .startClock slot => some slot
  | .stopClock slot => some slot
  | .adjustClock slot _ => some slot
  | .setMark slot _ _ _ _ => some slot
  | .setShotClock slot _ _ _ _ => some slot
  | .shotReset slot => some slot
  | .shotStart slot => some slot
  | .shotStop slot => some slot
  | .shotBlank slot => some slot
  | .setHorn slot _ _ _ => some slot
  | .soundHorn slot _ => some slot
  | .setLine slot _ _ _ _ _ => some slot
  | .setCapture slot _ _ _ _ => some slot
  | .setScore slot _ _ => some slot
  | .addScore slot _ _ => some slot
  | .setFlash slot _ => some slot
  | .defineSpot slot _ => some slot
  | .withdrawSpot slot _ => some slot
  | .setRotation slot _ _ _ => some slot
  | .setSting slot _ _ => some slot
  | .setContract slot _ _ => some slot
  | .resetTotals slot _ => some slot
  | .postMessage slot _ => some slot
  | .cancelMessage slot _ => some slot
  | .clearMessages slot => some slot
  | .setTicker slot _ _ => some slot

/-- The raw line levels that come with a command: a SET_LINE's, and none of any other. -/
def commandLines : Instr → Byte
  | .setLine _ _ _ _ _ lines => lines
  | _ => 0

/-- The bytes of a slot that submits a command under a tag: result fields and ignored bytes 0, the payload, bytes beyond it 0,
and the closing word (Table 11.1). -/
def slotImage (kind tag : Half) (payload : List Byte) (o : Nat) : Byte :=
  if o < 2 then (halfBytes kind).getD o 0
  else if o < 4 then (halfBytes tag).getD (o - 2) 0
  else if o < 16 then 0
  else if o < 252 then payload.getD (o - 16) 0
  else (wordBytes (closingWord kind tag)).getD (o - 252) 0

/-- A host command whose lists hold exactly the bytes its length field counts (so that a slot says all of it), with a length
its payload has room for. -/
def Instr.exact : Instr → Bool
  | .setRotation _ _ count ids => ids.length == min count.toNat 16
  | .postMessage _ p => p.text.length == min p.length.toNat 200
  | i => (commandKind i).isSome

end Sys2Proof
end

