-- ==== Sys2Proof/Machine/State.lean ====
section
/-! DEFINITION. The state of the NJ-624, block by block, and its value right after reset.
Every field's docstring names the rule of the spec that gives the item. Values the status block reports as codes are
inductive types here; `Machine/StatusBlock.lean` gives their codes. -/

namespace Sys2Proof.Machine

/-! ### Memory and pins -/

/-- A sparse byte store: (address, byte) pairs, addresses strictly rising. What an unlisted address reads as is said where
the store is used: the frame store's unlisted bytes are unknown (R177), the ring shadow's are zero (R178). -/
abbrev Memory := List Host.Cell

/-- Where the part stands with respect to reset (R64, R166, R175, R176, R177). -/
inductive Phase where
  /-- powered, reset not yet released for the first time -/
  | powerOnReset
  /-- RESET* is low -/
  | resetLow
  /-- reset released, the SDRAM being brought up, WAIT* active -/
  | startUp
  /-- start-up complete -/
  | running
  deriving DecidableEq, Repr

/-! ### Composer (Chapter 1) -/

/-- The source kinds of Table 1.1. A disabled descriptor may hold any source byte (R1, R3 check 2): `unknown` keeps it. -/
inductive ZoneSource where
  | fill
  | slate
  | sponsor
  | replay
  | scorebug
  | ticker
  | unknown (code : Byte)
  deriving DecidableEq, Repr

/-- The source parameter of Table 1.1. `raw` is what a disabled descriptor of an unknown source kind was given. -/
inductive SourceParam where
  | absent
  | colour (c : Colour)
  | base (b : Word)
  | raw (w : Word)
  deriving DecidableEq, Repr

/-- A zone descriptor (R1, Table 1.1). The rectangle fields are kept as the bytes given, since a disabled descriptor may
hold any values. -/
structure ZoneDesc where
  enable : Bool
  source : ZoneSource
  x : Byte
  y : Byte
  w : Byte
  h : Byte
  level : Byte
  leadIn : Byte
  guard : Colour
  param : SourceParam
  deriving DecidableEq, Repr

/-- A plan: 16 zone descriptors (R2). -/
abbrev Plan := Vector ZoneDesc 16

/-- The output modes (R8, Table 1.3). -/
inductive OutputMode where
  | normal
  | black
  | white
  | slateOnly
  deriving DecidableEq, Repr

/-- A sponsor's art as the composer samples it (R17, R120). -/
structure ArtImage where
  base : Nat
  w : Nat
  h : Nat
  deriving DecidableEq, Repr

/-- A frame of the show plan with the slot that holds it (R17, R21). -/
structure ShownFrame where
  frame : Word
  slot : Nat
  deriving DecidableEq, Repr

/-- What a REPLAY zone draws (R17): the show plan's frames and weight. -/
structure ReplayDraw where
  a : ShownFrame
  b : Option ShownFrame
  w16 : Nat
  deriving DecidableEq, Repr

/-- The content of one scorebug glyph position that holds a character (R106). -/
structure ScoreGlyph where
  code : Byte
  reversed : Bool
  deriving DecidableEq, Repr

/-- The rendering of the scorebug: 3 rows of 32 glyph positions, position 32 * r + p (R106). -/
abbrev ScorebugImage := Vector (Option ScoreGlyph) 96

/-- What a TICKER zone draws (R17, R161). -/
structure TickerDraw where
  text : List Byte
  position : Int
  priority : Nat
  deriving DecidableEq, Repr

/-- The draw state of an active zone (R17). `nothing` is that of a source kind the manual does not name, which no enabled
zone of a staged plan has. -/
inductive DrawState where
  | fill (c : Colour)
  | slate (base : Nat)
  | sponsor (art : Option ArtImage)
  | replay (shown : Option ReplayDraw)
  | scorebug (image : ScorebugImage)
  | ticker (draw : TickerDraw)
  | nothing
  deriving DecidableEq, Repr

/-- The per-zone contents of the frame record (R16, Table 1.5). -/
structure ZoneRecord where
  desc : ZoneDesc
  active : Bool
  inLeadIn : Bool
  changed : Bool
  resized : Bool
  visible : Nat
  draw : Option DrawState
  deriving DecidableEq, Repr

/-- The frame record (R16). -/
structure FrameRecord where
  frame : Word
  mode : OutputMode
  w : Nat
  h : Nat
  slate : Option Word
  font : Option Word
  zones : Vector ZoneRecord 16
  deriving DecidableEq, Repr

/-- The composer's own state (R2, R7-R10, R14, R16, R21). -/
structure Composer where
  /-- screen width W in cells (R7) -/
  screenW : Nat
  /-- screen height H in cells (R7) -/
  screenH : Nat
  /-- the live plan (R2) -/
  live : Plan
  /-- the staged plan (R2) -/
  staged : Plan
  /-- the apply request (R2, R4) -/
  applyRequest : Bool
  /-- the requested mode (R8) -/
  requestedMode : OutputMode
  /-- the house slate declaration (R9) -/
  slate : Option Word
  /-- the font declaration (R10) -/
  font : Option Word
  /-- the lead-in counters (R14) -/
  leadIn : Vector Nat 16
  /-- the replay slots pinned at the last FRAME_START (R21) -/
  pins : List Nat
  /-- the frame record; its mode is the mode in force (R8, R16) -/
  record : FrameRecord
  deriving DecidableEq, Repr

/-- A fetched 64-byte block waiting in the line buffer (R174): its address and its bytes. -/
structure LineBlock where
  addr : Nat
  bytes : List Byte
  deriving DecidableEq, Repr

/-- The panel side of the scan (R22, R174). -/
structure PanelScan where
  /-- fetched blocks not yet sent, oldest first (R174) -/
  lineBuffer : List LineBlock
  /-- the fetch point from which on the frame's blocks are still to be fetched (R174) -/
  fetchAt : Nat
  /-- the wall cells (column, row) that underran in the frame being scanned (R22) -/
  late : List (Nat × Nat)
  deriving DecidableEq, Repr

/-- Frame timing (R11): the frame number, and whether the next frame event is a FRAME_START (blanking) or a FRAME_END. -/
structure FrameTiming where
  frameNumber : Word
  blanking : Bool
  deriving DecidableEq, Repr

/-! ### Replay intake (Chapter 2) -/

/-- A ring declaration (R26). -/
structure RingDecl where
  ringBase : Nat
  aliasBase : Nat
  w : Nat
  h : Nat
  count : Nat
  deriving DecidableEq, Repr

/-- The slot states of Table 2.4; frame number and completion sequence are present exactly in READY and HELD (Table 2.3). -/
inductive SlotState where
  | free
  | filling
  | ready (frame seq : Word)
  | held (frame seq : Word)
  deriving DecidableEq, Repr

/-- A slot record (R29, Table 2.3). -/
structure SlotRecord where
  state : SlotState
  pins : Nat
  deriving DecidableEq, Repr

/-- The replay intake's state (R26, R29, R31, R34, R36). -/
structure Intake where
  /-- the ring declaration, or none (R26) -/
  ring : Option RingDecl
  /-- the slot records, indexed 0 to count - 1 (R29) -/
  slots : List SlotRecord
  /-- the intake slot, or NONE (R28, R35) -/
  intakeSlot : Option Nat
  /-- the completion counter (R34) -/
  completions : Word
  /-- the trailer shadow (R31) -/
  trailer : Vector Byte 32
  /-- a FRAME_END's retry is held over until the host WRITE in progress ends (R36) -/
  retryDue : Bool
  deriving DecidableEq, Repr

/-! ### Replay roller (Chapter 3) -/

/-- The roller states (Table 3.2). -/
inductive RollerState where
  | idle
  | rolling
  | starved
  | holding
  deriving DecidableEq, Repr

/-- Roll directions (Table 3.1). -/
inductive RollDirection where
  | forward
  | reverse
  deriving DecidableEq, Repr

/-- End modes (Table 3.1). -/
inductive EndMode where
  | hold
  | release
  deriving DecidableEq, Repr

/-- Why the most recent roll ended (Table 3.1). -/
inductive RollEnd where
  | none
  | outPoint
  | frameGone
  | stopped
  | clock
  | zoneRemoved
  | restart
  deriving DecidableEq, Repr

/-- A show plan that is not NONE (R46). -/
structure ShowPlan where
  a : Word
  b : Option Word
  w16 : Nat
  deriving DecidableEq, Repr

/-- The roller's state (R45, Table 3.1). -/
structure Roller where
  state : RollerState
  fIn : Word
  outPoint : Option Word
  speed : Nat
  direction : RollDirection
  rs : Nat
  endMode : EndMode
  blend : Bool
  cutOnClock : Bool
  pInt : Nat
  pFrac : Nat
  rem : Nat
  showPlan : Option ShowPlan
  lastEnd : RollEnd
  gapCount : Nat
  starvedCount : Nat
  deriving DecidableEq, Repr

/-! ### Clock unit (Chapter 4) -/

/-- Game clock directions (Table 4.1). -/
inductive ClockDirection where
  | down
  | up
  deriving DecidableEq, Repr

/-- Game clock states (Table 4.2). -/
inductive GameState where
  | stopped
  | running
  | ended
  deriving DecidableEq, Repr

/-- Shot clock states (Table 4.5). -/
inductive ShotState where
  | blank
  | stopped
  | running
  | ended
  deriving DecidableEq, Repr

/-- The game clock (R67, Table 4.1). -/
structure GameClock where
  value : Nat
  direction : ClockDirection
  limit : Nat
  tenths : Bool
  state : GameState
  deriving DecidableEq, Repr

/-- A mark (R74): its value or off, and its actions. -/
structure Mark where
  value : Option Nat
  flag : Bool
  horn : Bool
  stop : Bool
  deriving DecidableEq, Repr

/-- The shot clock (R76, Table 4.4). -/
structure ShotClock where
  value : Nat
  preset : Nat
  state : ShotState
  follow : Bool
  startOnGame : Bool
  shotHorn : Bool
  deriving DecidableEq, Repr

/-- The horn settings and timer (R82). -/
structure Horn where
  periodTime : Nat
  shotTime : Nat
  endHorn : Bool
  timer : Nat
  deriving DecidableEq, Repr

/-- The clock unit (R64-R87). -/
structure ClockUnit where
  /-- venue time in milliseconds (R65) -/
  venue : Word
  game : GameClock
  /-- marks 0 and 1 (R74) -/
  mark0 : Mark
  mark1 : Mark
  shot : ShotClock
  horn : Horn
  deriving DecidableEq, Repr

/-! ### Console interface (Chapter 5) -/

/-- Line functions (Table 5.1). -/
inductive LineFunction where
  | none
  | start
  | stop
  | run
  | shotReset
  | shotToggle
  | horn
  deriving DecidableEq, Repr

/-- A console line's settings and filter state (R88, Table 5.1); levels are true for high. -/
structure ConsoleLine where
  function : LineFunction
  activeHigh : Bool
  filter : Nat
  accepted : Bool
  diff : Nat
  deriving DecidableEq, Repr

/-- Capture edges (R95). -/
inductive CaptureEdge where
  | rising
  | falling
  | any
  deriving DecidableEq, Repr

/-- Capture sources (R95). -/
inductive CaptureSource where
  | off
  | line (n : Fin 8) (edge : CaptureEdge)
  | gcStart
  | gcStop
  | gcEnd
  | scEnd
  | scoreChange
  | mark
  deriving DecidableEq, Repr

/-- A filled capture record (R95, Table 5.3). -/
structure CaptureRecord where
  venue : Word
  gameValue : Nat
  gameState : GameState
  shotValue : Nat
  shotState : ShotState
  sequence : Half
  deriving DecidableEq, Repr

/-- A capture channel (R95). -/
structure CaptureChannel where
  source : CaptureSource
  latest : Option CaptureRecord
  previous : Option CaptureRecord
  sequence : Half
  deriving DecidableEq, Repr

/-- The console interface (R88, R89, R95). The horn indication of R93 is computed from the lines. -/
structure Console where
  lines : Vector ConsoleLine 8
  /-- the first tick after the release of reset has seeded the lines (R89) -/
  seeded : Bool
  channels : Vector CaptureChannel 4
  deriving DecidableEq, Repr

/-! ### Score unit (Chapter 6) -/

/-- The score unit (R100). `fields` holds the record of Table 6.1 by field number, choice fields by their codes. -/
structure ScoreUnit where
  fields : Vector Nat 10
  flashLength : Nat
  homeFlash : Nat
  guestFlash : Nat
  deriving DecidableEq, Repr

/-! ### Rotation unit and exposure counter (Chapters 7 and 8) -/

/-- Spot classes (Table 7.1). -/
inductive SpotClass where
  | any
  | runningOnly
  | stoppedOnly
  deriving DecidableEq, Repr

/-- A spot record (R110, Table 7.1). -/
structure Spot where
  id : Nat
  artBase : Nat
  artW : Nat
  artH : Nat
  contract : Nat
  dwell : Nat
  minVisible : Nat
  spotClass : SpotClass
  delivered : Nat
  showings : Nat
  saturated : Bool
  contractMet : Bool
  withdrawing : Bool
  deriving DecidableEq, Repr

/-- A showing record (R120, Table 7.4). -/
structure Showing where
  spotId : Nat
  startVenue : Word
  gameValue : Nat
  period : Nat
  framesOnAir : Nat
  countedFrames : Nat
  credit : Nat
  sting : Bool
  overrun : Bool
  deriving DecidableEq, Repr

/-- The sponsor zone state (R115, Table 7.3). -/
structure SponsorZone where
  rotation : List Nat
  cursor : Int
  sting : Option Nat
  stingPending : Bool
  showing : Option Showing
  deriving DecidableEq, Repr

/-- The rotation unit: the spot table in ascending id (R110) and the 16 sponsor zone states (R115). -/
structure RotationUnit where
  spots : List Spot
  zones : Vector SponsorZone 16
  deriving DecidableEq, Repr

/-- Why a showing ended (R124, Table 8.4). -/
inductive ShowingEnd where
  | dwellDone
  | coverLimit
  | clockClass
  | sting
  | withdrawn
  | planChange
  | outputMode
  | restart
  deriving DecidableEq, Repr

/-- The exposure counter's log counters (R131, Table 8.1). -/
structure ExposureCounter where
  nextRecord : Word
  readMark : Word
  missed : Nat
  deriving DecidableEq, Repr

/-! ### Ticker unit (Chapter 9) -/

/-- Removal reasons (R155, Table 9.4). -/
inductive RemovalReason where
  | done
  | expired
  | cancelled
  | cleared
  deriving DecidableEq, Repr

/-- An entry's fields, waiting or showing (R148, Table 9.2). `repeats` 0 is continuous. -/
structure TickerEntry where
  tag : Nat
  priority : Nat
  repeats : Nat
  expiry : Option Word
  stoppageOnly : Bool
  order : Word
  text : List Byte
  passes : Nat
  deriving DecidableEq, Repr

/-- What the cancel-pending field of the showing entry holds when it is not off (R148). -/
inductive CancelReason where
  | cancelled
  | cleared
  deriving DecidableEq, Repr

/-- The showing entry with the fields only it has (R148, Table 9.2). -/
structure ShowingEntry where
  entry : TickerEntry
  position : Int
  lastPass : Bool
  cancel : Option CancelReason
  deriving DecidableEq, Repr

/-- The ticker unit (R147, Table 9.1). Which chunks an entry holds is not visible (R149): the pool is its free count. -/
structure TickerUnit where
  waiting : List TickerEntry
  showing : Option ShowingEntry
  freeChunks : Nat
  speed : Nat
  gap : Nat
  nextOrder : Word
  lastRemoved : Option (Nat × RemovalReason)
  deriving DecidableEq, Repr

/-! ### Memory controller and playout port (Chapter 10) -/

/-- A part write (R171): the control-area offset of its first byte, and its bytes. -/
structure PartWrite where
  offset : Nat
  data : List Byte
  deriving DecidableEq, Repr

/-- A part write the command unit is keeping because the queue was full (R171), and how many of the exposure counter's waiting
writes must join before it (R184: a RESTART's result joins after the records that RESTART formed). -/
structure WaitingResult where
  write : PartWrite
  behind : Nat
  deriving DecidableEq, Repr

/-- The step of the SDRAM's start-up in hand, 1 to 4 (R176). -/
inductive StartUpStep where
  /-- step 1: the wait of 200 microseconds -/
  | wait
  /-- step 2: a precharge of every bank -/
  | precharge
  /-- step 3: eight refreshes, of which `made` have been made -/
  | refreshes (made : Nat)
  /-- step 4: the setting of the SDRAM's mode -/
  | modeSet
  /-- steps 1 to 4 have ended -/
  | done
  deriving DecidableEq, Repr

/-- The SDRAM access in progress (R172): a refresh, a scan-out access for a fetch point (R174), a queue entry, the current host
transaction's memory request, or what the start-up step in hand asks of the SDRAM (R176). -/
inductive Access where
  | refresh
  | scan (point addr : Nat)
  | queueEntry (write : PartWrite)
  | playout
  | startUp
  deriving DecidableEq, Repr

/-- The memory controller (R171-R174, R176). -/
structure MemoryController where
  /-- the part write queue, front first (R171) -/
  queue : List PartWrite
  /-- writes the command unit keeps while the queue is full (R171) -/
  waitCommand : List WaitingResult
  /-- writes the exposure counter keeps while the queue is full (R141, R171) -/
  waitExposure : List PartWrite
  /-- refreshes due and not yet granted (R173) -/
  refreshDue : Nat
  /-- whether the more recent of the last playout grant and the last queue grant was a playout grant (R172, row 3) -/
  lastPlayout : Bool
  /-- the access in progress, if any (R172) -/
  access : Option Access
  /-- the step of the start-up in hand (R176) -/
  startUp : StartUpStep
  /-- whether step 3 of a start-up has been reached since power-on: the refresh deadline runs from there (R176) -/
  deadlineBegun : Bool
  deriving DecidableEq, Repr

/-- A host transaction's address and length as presented (R165), the address already reduced (R164). -/
structure HostRequest where
  isWrite : Bool
  addr : Nat
  length : BurstLength
  deriving DecidableEq, Repr

/-- A write beat on its way to memory: its memory address, its bytes and mask, and whether it was remapped (R167, R169). -/
structure ForwardBeat where
  addr : Nat
  data : Beat
  mask : Byte
  remapped : Bool
  deriving DecidableEq, Repr

/-- Where the memory request of a host transaction stands (R166). -/
inductive RequestState where
  /-- no request has been made -/
  | none
  /-- the request waits for the arbiter -/
  | waiting
  /-- the request is granted and the SDRAM is serving it -/
  | granted
  /-- the SDRAM has taken the last byte -/
  | served
  deriving DecidableEq, Repr

/-- The host transaction in progress (R166): its request, the beats received so far, the beats that go to memory, what
its beats have completed for the end of the burst, and the memory address of a READ's block. -/
structure HostTransaction where
  request : HostRequest
  beats : Nat
  forward : List ForwardBeat
  closing : Option RingSlot
  completion : Bool
  watched : Option Word
  readBase : Nat
  state : RequestState
  deriving DecidableEq, Repr

/-- The playout port (R166): the transaction in progress, a transaction the host presents while WAIT* holds it off, and the
data beats of the last READ as they were returned. -/
structure PlayoutPort where
  transaction : Option HostTransaction
  presented : Option HostRequest
  readData : List Beat
  deriving DecidableEq, Repr

/-! ### Command unit (Chapter 11) -/

/-- The set of reset causes (R183). -/
structure ResetCauses where
  powerOn : Bool
  resetLine : Bool
  restart : Bool
  deriving DecidableEq, Repr

/-- The command unit (R178, R181, R182, R183, R185). -/
structure CommandUnit where
  /-- the ring shadow by ring offset; an unlisted byte is zero (R178) -/
  shadow : Memory
  taken : Word
  refused : Word
  /-- bit n is flag n of Table 11.5 (R182) -/
  flags : BitVec 24
  attnMask : BitVec 24
  causes : ResetCauses
  /-- a status write-back is in flight (R185) -/
  statusInFlight : Bool
  deriving DecidableEq, Repr

/-! ### The whole machine -/

/-- The state of the NJ-624. `pending` and `powerOns` are the model's own fields: the queue of commands that wait, and the
number of power-ons so far, which the free value of unwritten memory is applied to. -/
structure State where
  pending : List Instr
  powerOns : Nat
  phase : Phase
  /-- the strap levels as last sampled (R175) -/
  straps : Straps
  timing : FrameTiming
  composer : Composer
  panel : PanelScan
  intake : Intake
  roller : Roller
  clock : ClockUnit
  console : Console
  score : ScoreUnit
  rotation : RotationUnit
  exposure : ExposureCounter
  ticker : TickerUnit
  command : CommandUnit
  memctl : MemoryController
  port : PlayoutPort
  /-- the frame store (R164): bytes written since power-on; an unlisted byte is unknown (R177) -/
  mem : Memory
  deriving DecidableEq, Repr

/-- Reasons a step can stop with a fault. There is none: the manual names no condition at which the part stops, so no
meaning faults. Safe: nothing can be concluded from a fault. -/
inductive Fault where
  deriving DecidableEq, Repr

/-- Reasons a step can refuse a command. -/
inductive Refusal where
  /-- Raised by `exec` alone, for a command the model does not give a meaning (none is left so). Safe: the machine stops. -/
  | notModelled (mnemonic : String)
  deriving DecidableEq, Repr

/-! ### Reset values -/

/-- A descriptor with every field zero and the zone disabled (R24). Source code 0 is FILL, whose parameter is a colour. -/
def ZoneDesc.zero : ZoneDesc :=
  { enable := false, source := .fill, x := 0, y := 0, w := 0, h := 0, level := 0, leadIn := 0, guard := ⟨0, 0, 0⟩,
    param := .colour ⟨0, 0, 0⟩ }

/-- A plan with every zone disabled (R24). -/
def Plan.empty : Plan := Vector.replicate 16 ZoneDesc.zero

/-- The record of a disabled, dormant zone (R16). -/
def ZoneRecord.zero : ZoneRecord :=
  { desc := ZoneDesc.zero, active := false, inLeadIn := false, changed := false, resized := false, visible := 0,
    draw := none }

/-- The frame record until the first FRAME_START (R16). -/
def FrameRecord.reset : FrameRecord :=
  { frame := 0, mode := .black, w := 64, h := 18, slate := none, font := none,
    zones := Vector.replicate 16 ZoneRecord.zero }

/-- The composer after power-on and RESET* (R24). -/
def Composer.reset : Composer :=
  { screenW := 64, screenH := 18, live := Plan.empty, staged := Plan.empty, applyRequest := false,
    requestedMode := .black, slate := none, font := none, leadIn := Vector.replicate 16 0, pins := [],
    record := FrameRecord.reset }

/-- No block fetched and no cell late. -/
def PanelScan.reset : PanelScan := { lineBuffer := [], fetchAt := 0, late := [] }

/-- The frame number is 0 and the first frame event is a FRAME_START (R11). -/
def FrameTiming.reset : FrameTiming := { frameNumber := 0, blanking := true }

/-- No ring is declared (R44). -/
def Intake.reset : Intake :=
  { ring := none, slots := [], intakeSlot := none, completions := 0, trailer := Vector.replicate 32 0, retryDue := false }

/-- Table 3.1, "After reset". -/
def Roller.reset : Roller :=
  { state := .idle, fIn := 0, outPoint := none, speed := 0, direction := .forward, rs := 1, endMode := .release,
    blend := false, cutOnClock := false, pInt := 0, pFrac := 0, rem := 0, showPlan := none, lastEnd := .none, gapCount := 0,
    starvedCount := 0 }

/-- Table 4.1, "After reset". -/
def GameClock.reset : GameClock :=
  { value := 0, direction := .down, limit := 5999000, tenths := true, state := .ended }

/-- R74: off with no actions. -/
def Mark.reset : Mark := { value := none, flag := false, horn := false, stop := false }

/-- Table 4.4, "After reset". -/
def ShotClock.reset : ShotClock :=
  { value := 24000, preset := 24000, state := .blank, follow := true, startOnGame := false, shotHorn := true }

/-- R82. -/
def Horn.reset : Horn := { periodTime := 2000, shotTime := 1000, endHorn := true, timer := 0 }

/-- The clock unit after power-on and RESET* (R65, R67, R74, R76, R82). -/
def ClockUnit.reset : ClockUnit :=
  { venue := 0, game := GameClock.reset, mark0 := Mark.reset, mark1 := Mark.reset, shot := ShotClock.reset,
    horn := Horn.reset }

/-- Table 5.1, "After reset". -/
def ConsoleLine.reset : ConsoleLine :=
  { function := .none, activeHigh := true, filter := 8, accepted := false, diff := 0 }

/-- R95: source OFF, both records empty, sequence count 0. -/
def CaptureChannel.reset : CaptureChannel := { source := .off, latest := none, previous := none, sequence := 0 }

/-- The console interface after power-on and RESET* (R88, R95). -/
def Console.reset : Console :=
  { lines := Vector.replicate 8 ConsoleLine.reset, seeded := false, channels := Vector.replicate 4 CaptureChannel.reset }

/-- R100: all fields 0 (NONE, off), flash length 48, counters 0. -/
def ScoreUnit.reset : ScoreUnit :=
  { fields := Vector.replicate 10 0, flashLength := 48, homeFlash := 0, guestFlash := 0 }

/-- Table 7.3, "After reset". -/
def SponsorZone.reset : SponsorZone :=
  { rotation := [], cursor := -1, sting := none, stingPending := false, showing := none }

/-- R128: no spot, every zone at its reset values. -/
def RotationUnit.reset : RotationUnit := { spots := [], zones := Vector.replicate 16 SponsorZone.reset }

/-- R145: all counters 0. -/
def ExposureCounter.reset : ExposureCounter := { nextRecord := 0, readMark := 0, missed := 0 }

/-- Table 9.1, "After reset". -/
def TickerUnit.reset : TickerUnit :=
  { waiting := [], showing := none, freeChunks := 128, speed := 4, gap := 256, nextOrder := 0, lastRemoved := none }

/-- The command unit after reset (R178, R181, R182, R185) with the given set of causes (R183). -/
def CommandUnit.reset (causes : ResetCauses) : CommandUnit :=
  { shadow := [], taken := 0, refused := 0, flags := 0, attnMask := 0, causes := causes, statusInFlight := false }

/-- R171, R172, R176: the queue is empty, no grant has been made (row 3 counts the last as a queue grant), and the start-up begins
with its first step, the refresh deadline not yet running. -/
def MemoryController.reset : MemoryController :=
  { queue := [], waitCommand := [], waitExposure := [], refreshDue := 0, lastPlayout := false, access := none,
    startUp := .wait, deadlineBegun := false }

/-- No host transaction (R166). -/
def PlayoutPort.reset : PlayoutPort := { transaction := none, presented := none, readData := [] }

/-- The straps before anything has sampled them: all at level 0. DESIGN CHOICE, notes/assumptions/3. -/
def Straps.unsampled : Straps := { msize := 0, bord := false, frate := false }

/-- The machine right after the reset that follows power-on has been released: every item at its reset value, the reset
causes {POWER_ON} (R183), WAIT* active and the start-up of the frame store under way (R166, R176). -/
def State.reset : State :=
  { pending := [], powerOns := 1, phase := .startUp, straps := Straps.unsampled, timing := FrameTiming.reset,
    composer := Composer.reset, panel := PanelScan.reset, intake := Intake.reset, roller := Roller.reset,
    clock := ClockUnit.reset, console := Console.reset, score := ScoreUnit.reset, rotation := RotationUnit.reset,
    exposure := ExposureCounter.reset, ticker := TickerUnit.reset,
    command := CommandUnit.reset { powerOn := true, resetLine := false, restart := false },
    memctl := MemoryController.reset, port := PlayoutPort.reset, mem := [] }

end Sys2Proof.Machine
end

