-- ==== Sys2Proof/Machine/Flags.lean ====
section
/-! DEFINITION. The sticky flags and the ATTN mask (R182, Table 11.5), and the result codes (R181, Table 11.4). -/

namespace Sys2Proof.Machine

/-- The 24 sticky flags of Table 11.5. -/
inductive Flag where
  | cmdRefused
  | planApplied
  | modeChanged
  | underrun
  | filteredWrite
  | intakeBlocked
  | frameDuplicate
  | trailerBad
  | replayEnded
  | replayStarved
  | gcEnded
  | scEnded
  | mark0
  | mark1
  | capture0
  | capture1
  | capture2
  | capture3
  | consoleRefused
  | contractMet
  | creditSaturated
  | logFull
  | logReadHeld
  | messageDone
  deriving DecidableEq, Repr

/-- The number of a flag (Table 11.5). -/
def Flag.number : Flag → Nat
  | .cmdRefused => 0
  | .planApplied => 1
  | .modeChanged => 2
  | .underrun => 3
  | .filteredWrite => 4
  | .intakeBlocked => 5
  | .frameDuplicate => 6
  | .trailerBad => 7
  | .replayEnded => 8
  | .replayStarved => 9
  | .gcEnded => 10
  | .scEnded => 11
  | .mark0 => 12
  | .mark1 => 13
  | .capture0 => 14
  | .capture1 => 15
  | .capture2 => 16
  | .capture3 => 17
  | .consoleRefused => 18
  | .contractMet => 19
  | .creditSaturated => 20
  | .logFull => 21
  | .logReadHeld => 22
  | .messageDone => 23

/-- The flag of capture channel n (R97 step 4). -/
def captureFlag (n : Fin 4) : Flag :=
  match n with
  | 0 => .capture0
  | 1 => .capture1
  | 2 => .capture2
  | 3 => .capture3

/-- The flag word with the one flag's bit set. -/
def Flag.bit (f : Flag) : BitVec 24 := 1#24 <<< f.number

/-- A flag raised stays raised (R182). -/
def State.raise (f : Flag) (s : State) : State :=
  { s with command := { s.command with flags := s.command.flags ||| f.bit } }

/-- A flag raised if a condition holds. -/
def State.raiseIf (c : Bool) (f : Flag) (s : State) : State := if c then s.raise f else s

/-- Whether a flag is raised. -/
def State.flagged (s : State) (f : Flag) : Bool := s.command.flags.getLsbD f.number

/-- ACK_FLAGS clears the flags whose bits are set in the mask; bits 24-31 are ignored (R182). -/
def acknowledged (flags : BitVec 24) (mask : Word) : BitVec 24 := flags &&& ~~~(mask.setWidth 24)

/-- ATTN* is active while any flag is raised whose bit is set in the ATTN mask (R182). -/
def State.attnActive (s : State) : Bool := s.command.flags &&& s.command.attnMask != 0

/-- The result codes of Table 11.4, but for code 0, which the part never writes. -/
inductive ResultCode where
  | ok
  | clamped
  | unknownKind
  | malformed
  | outOfRange
  | wrongState
  | wrongMode
  | notFound
  | alreadyExists
  | full
  | overlap
  | noZone
  | sizeMismatch
  | limit
  | bound
  deriving DecidableEq, Repr

/-- The code of a result (Table 11.4). -/
def ResultCode.code : ResultCode → Nat
  | .ok => 1
  | .clamped => 2
  | .unknownKind => 3
  | .malformed => 4
  | .outOfRange => 5
  | .wrongState => 6
  | .wrongMode => 7
  | .notFound => 8
  | .alreadyExists => 9
  | .full => 10
  | .overlap => 11
  | .noZone => 12
  | .sizeMismatch => 13
  | .limit => 14
  | .bound => 15

/-- A code of OK or CLAMPED counts the command as taken (R181). -/
def ResultCode.counted (c : ResultCode) : Bool := c == .ok || c == .clamped

/-- What the owning block answers: the code, the detail (0 except where its rule gives another value), and whether the result
joins the part write queue only after the proof-of-play records that wait (R184: a RESTART some of whose own records wait). -/
structure Result where
  code : ResultCode
  detail : Nat := 0
  afterRecords : Bool := false
  deriving DecidableEq, Repr

/-- The plain results without detail. -/
def Result.plain (c : ResultCode) : Result := { code := c }

end Sys2Proof.Machine
end

