-- ==== Sys2Proof/Machine/Captures.lean ====
section
/-! DEFINITION. Capture channels (R95-R98): how a channel takes a capture. -/

namespace Sys2Proof.Machine

/-- What fires a capture source (R96). -/
inductive CaptureEvent where
  /-- an edge of a line, rising (true) or falling -/
  | line (n : Fin 8) (rising : Bool)
  | gcStart
  | gcStop
  | gcEnd
  | scEnd
  | scoreChange
  | mark
  deriving DecidableEq, Repr

/-- Whether an edge choice covers an edge (R96). -/
def CaptureEdge.covers (e : CaptureEdge) (rising : Bool) : Bool :=
  match e with
  | .rising => rising
  | .falling => !rising
  | .any => true

/-- Whether a source fires on an event (R96, Table 5.4). -/
def CaptureSource.firesOn (src : CaptureSource) (ev : CaptureEvent) : Bool :=
  match src, ev with
  | .line n e, .line m rising => n == m && e.covers rising
  | .gcStart, .gcStart => true
  | .gcStop, .gcStop => true
  | .gcEnd, .gcEnd => true
  | .scEnd, .scEnd => true
  | .scoreChange, .scoreChange => true
  | .mark, .mark => true
  | _, _ => false

/-- A capture record of the clocks as they stand, with a sequence (R97 step 3, R98). -/
def captureNow (c : ClockUnit) (seq : Half) : CaptureRecord :=
  { venue := c.venue, gameValue := c.game.value, gameState := c.game.state, shotValue := c.shot.value,
    shotState := c.shot.state, sequence := seq }

/-- A channel takes a capture (R97). -/
def CaptureChannel.take (c : ClockUnit) (ch : CaptureChannel) : CaptureChannel :=
  { ch with previous := ch.latest, sequence := ch.sequence + 1, latest := some (captureNow c (ch.sequence + 1)) }

/-- One channel captures an event if it is its source's, raising its flag (R96, R97). -/
def captureOn (ev : CaptureEvent) (n : Fin 4) (s : State) : State :=
  let ch := s.console.channels[n]
  if ch.source.firesOn ev then
    { s with console := { s.console with channels := s.console.channels.set n.val (ch.take s.clock) n.isLt } }.raise
      (captureFlag n)
  else s

/-- An event fires its capture source: every channel with that source takes its own capture (R97). -/
def fireCapture (ev : CaptureEvent) (s : State) : State :=
  captureOn ev 3 (captureOn ev 2 (captureOn ev 1 (captureOn ev 0 s)))

/-- An event that fires its capture source if it came about. -/
def fireCaptureIf (c : Bool) (ev : CaptureEvent) (s : State) : State := if c then fireCapture ev s else s

end Sys2Proof.Machine
end

