-- ==== Sys2Proof/Machine/Ops.lean ====
section
/-! DEFINITION. The shared operations over memory, the ring shadow and the part write queue, the byte order of the layouts,
and the delivery of a command's result. The block has no exception entry: raising a flag or driving a line is its answer. -/

namespace Sys2Proof.Machine

/-! ### Bytes -/

/-- The `n` bytes of `v`, least significant first (00_scope, "Byte order"). -/
def leBytes : Nat → Nat → List Byte
  | 0, _ => []
  | n + 1, v => BitVec.ofNat 8 v :: leBytes n (v / 256)

/-- The value of little-endian bytes. -/
def ofLeBytes : List Byte → Nat
  | [] => 0
  | b :: rest => b.toNat + 256 * ofLeBytes rest

/-- Byte `j` of a beat, j from 0 at the beat's lowest address (R165). -/
def beatByte (d : Beat) (j : Nat) : Byte := d.extractLsb' (8 * j) 8

/-- Bytes `j` to `j + 3` of a beat as a little-endian word. -/
def beatWord (d : Beat) (j : Nat) : Word := d.extractLsb' (8 * j) 32

/-- Whether the byte at position `j` of a beat is written: a mask bit of 1 means it is (R165). -/
def maskWrites (mask : Byte) (j : Nat) : Bool := mask.getLsbD j

/-- Whether bytes `j` to `j + 3` of a beat are all written. -/
def maskWritesWord (mask : Byte) (j : Nat) : Bool :=
  maskWrites mask j && maskWrites mask (j + 1) && maskWrites mask (j + 2) && maskWrites mask (j + 3)

/-! ### Sparse memory -/

/-- The byte listed for an address, if any. -/
def Memory.find : Memory → Nat → Option Byte
  | [], _ => none
  | (a, b) :: rest, x => if x = a then some b else Memory.find rest x

/-- List a byte for an address, in place. -/
def Memory.put : Memory → Nat → Byte → Memory
  | [], x, v => [(x, v)]
  | (a, b) :: rest, x, v =>
    if x < a then (x, v) :: (a, b) :: rest
    else if x = a then (x, v) :: rest
    else (a, b) :: Memory.put rest x v

/-- Remove an address's entry. -/
def Memory.erase : Memory → Nat → Memory
  | [], _ => []
  | (a, b) :: rest, x => if x = a then rest else (a, b) :: Memory.erase rest x

/-- Write a byte into a store whose unlisted bytes read as `unlisted` (none: unknown). A byte equal to that is not listed. -/
def Memory.write (unlisted : Option Byte) (m : Memory) (x : Nat) (v : Byte) : Memory :=
  if unlisted = some v then m.erase x else m.put x v

/-- Every entry lies at an address above `low`, addresses rise strictly, and no entry is what an unlisted address reads as. -/
def Memory.wfFrom (unlisted : Option Byte) : Memory → Nat → Bool
  | [], _ => true
  | (a, b) :: rest, low => decide (low ≤ a) && (unlisted != some b) && Memory.wfFrom unlisted rest (a + 1)

/-- The canonical form of a store. -/
def Memory.wf (unlisted : Option Byte) (m : Memory) : Bool := m.wfFrom unlisted 0

/-! ### The frame store -/

/-- The frame-store size for the sampled MSIZE straps (R164, Table 10.1). -/
def State.memSize (s : State) : Nat :=
  match s.straps.msize.toNat with
  | 0 => 0x08000000
  | 1 => 0x10000000
  | _ => 0x20000000

/-- The first address of the control area (R164). -/
def State.controlBase (s : State) : Nat := s.memSize - Config.controlBytes

/-- The byte the frame store holds at an address: what was written last, or an unknown byte (R177). -/
def State.memByte (s : State) (a : Nat) : Byte := (s.mem.find a).getD (Config.powerOnByte s.powerOns a)

/-- A byte written into the frame store. -/
def State.putByte (a : Nat) (v : Byte) (s : State) : State := { s with mem := s.mem.write none a v }

/-- Bytes written into the frame store from an address on. -/
def State.putBytes : Nat → List Byte → State → State
  | _, [], s => s
  | a, b :: rest, s => State.putBytes (a + 1) rest (s.putByte a b)

/-- `n` bytes read from the frame store. -/
def State.memBytes (s : State) (a : Nat) : Nat → List Byte
  | 0 => []
  | n + 1 => s.memByte a :: s.memBytes (a + 1) n

/-- A number of whole cells beginning at `base` lies wholly below the control area (R3). -/
def State.belowControl (s : State) (base bytes : Nat) : Bool := decide (base + bytes ≤ s.controlBase)

/-- The bytes of an image of w x h cells (00_scope, "Cells"). -/
def imageBytes (w h : Nat) : Nat := w * h * Config.cellBytes

/-! ### The ring shadow -/

/-- A byte of the ring shadow, zero where the host has not written (R178). -/
def State.shadowByte (s : State) (offset : Nat) : Byte := (s.command.shadow.find offset).getD 0

/-- A host byte copied into the ring shadow (R178). -/
def State.putShadow (offset : Nat) (v : Byte) (s : State) : State :=
  { s with command := { s.command with shadow := s.command.shadow.write (some 0) offset v } }

/-! ### The part write queue (R171) -/

/-- Whether a write could join the queue now. -/
def MemoryController.hasRoom (m : MemoryController) : Bool := decide (m.queue.length < Config.queueCapacity)

/-- The command unit offers a write; with `behind` above 0, or while earlier ones of its own wait, it waits. -/
def MemoryController.offerCommand (w : PartWrite) (behind : Nat) (m : MemoryController) : MemoryController :=
  if m.waitCommand.isEmpty && behind == 0 && m.hasRoom then { m with queue := m.queue ++ [w] }
  else { m with waitCommand := m.waitCommand ++ [{ write := w, behind := behind }] }

/-- The exposure counter offers a write; while earlier ones of its own wait, it waits. -/
def MemoryController.offerExposure (w : PartWrite) (m : MemoryController) : MemoryController :=
  if m.waitExposure.isEmpty && m.hasRoom then { m with queue := m.queue ++ [w] }
  else { m with waitExposure := m.waitExposure ++ [w] }

/-- One of the writes ahead of a waiting result has joined. -/
def WaitingResult.oneJoined (r : WaitingResult) : WaitingResult := { r with behind := r.behind - 1 }

/-- The exposure counter's first waiting write joins the queue. -/
def MemoryController.joinExposure (m : MemoryController) : MemoryController :=
  match m.waitExposure with
  | [] => m
  | w :: rest =>
    { m with queue := m.queue ++ [w], waitExposure := rest, waitCommand := m.waitCommand.map WaitingResult.oneJoined }

/-- Whether the command unit's first waiting write may join. -/
def MemoryController.commandReady (m : MemoryController) : Bool :=
  match m.waitCommand with
  | [] => false
  | r :: _ => r.behind == 0

/-- The command unit's first waiting write joins the queue. -/
def MemoryController.joinCommand (m : MemoryController) : MemoryController :=
  match m.waitCommand with
  | [] => m
  | r :: rest => { m with queue := m.queue ++ [r.write], waitCommand := rest }

/-- When the queue has room, one waiting write joins it; if both blocks wait, the named one's (R171: "either may join
first"). -/
def MemoryController.join (first : WriterBlock) (m : MemoryController) : MemoryController :=
  if m.hasRoom then
    match first with
    | .commandUnit => if m.commandReady then m.joinCommand else m.joinExposure
    | .exposureCounter => if m.waitExposure.isEmpty then (if m.commandReady then m.joinCommand else m) else m.joinExposure
  else m

/-! ### A command's result (R181) -/

/-- The write of a slot's result fields: code and detail in slot bytes 4-7. -/
def resultWrite (slot : RingSlot) (r : Result) : PartWrite :=
  { offset := 256 * slot.val + 4, data := leBytes 2 r.code.code ++ leBytes 2 r.detail }

/-- The counts and CMD_REFUSED (R181). -/
def CommandUnit.count (c : ResultCode) (u : CommandUnit) : CommandUnit :=
  if c.counted then { u with taken := u.taken + 1 }
  else { u with refused := u.refused + 1, flags := u.flags ||| Flag.cmdRefused.bit }

/-- The command unit counts a decided command and puts its result into the part write queue (R181, R184). -/
def finishCommand (slot : RingSlot) (r : Result) (s : State) : State :=
  { s with
    command := s.command.count r.code
    memctl := s.memctl.offerCommand (resultWrite slot r) (if r.afterRecords then s.memctl.waitExposure.length else 0) }

/-- The rule by which the owning block takes or refuses a command (R179 step 3). -/
abbrev CommandRule := State → State × Result

/-- A command is taken by its owner's rule and its result delivered. -/
def takeCommand (slot : RingSlot) (rule : CommandRule) (s : State) : State :=
  finishCommand slot (rule s).2 (rule s).1

/-- The result of the first failing check of a table of checks, in order (R3, R27, R48, R69, R111, R151 and others). -/
def firstFailing : List (Bool × ResultCode) → Option ResultCode
  | [] => none
  | (fails, code) :: rest => if fails then some code else firstFailing rest

/-- A command whose rule makes checks in order: the first that fails refuses it and changes nothing. -/
def checked (checks : List (Bool × ResultCode)) (s : State) (taken : State × Result) : State × Result :=
  match firstFailing checks with
  | some code => (s, Result.plain code)
  | none => taken

/-- A refusal, which changes nothing. -/
def refuse (code : ResultCode) (s : State) : State × Result := (s, Result.plain code)

/-- A host command can be taken only after start-up is complete (R176: "The command unit takes no command, since no host write
can arrive"); otherwise it does not come about and nothing changes. -/
def hostCommand (slot : RingSlot) (rule : CommandRule) (s : State) : Host.Outcome State Fault Refusal :=
  if s.phase = .running then .next (takeCommand slot rule s) else .next s

/-! ### Small helpers -/

/-- The byte at a position of a payload list; bytes not given read as zero. -/
def payloadByte (l : List Byte) (i : Nat) : Byte := l.getD i 0

/-- The first `n` bytes of a payload list, zero where none is given. -/
def payloadTake : List Byte → Nat → List Byte
  | _, 0 => []
  | [], n + 1 => 0 :: payloadTake [] n
  | b :: rest, n + 1 => b :: payloadTake rest n

/-- A count that stays at its largest value (R45, R110, R131, R148). -/
def saturating (limit n : Nat) : Nat := min limit (n + 1)

/-- All zone indices in ascending order. -/
def allZones : List ZoneIx := [0, 1, 2, 3, 4, 5, 6, 7, 8, 9, 10, 11, 12, 13, 14, 15]

/-- The zone index a byte names, if it is one. -/
def zoneIx (b : Byte) : Option ZoneIx := if h : b.toNat < 16 then some ⟨b.toNat, h⟩ else none

end Sys2Proof.Machine
end

