-- ==== Sys2Proof/Machine/Operands.lean ====
section
/-! DEFINITION. The operand forms: the codes of Table 11.3 read into the types of the state, and the field ranges that more
than one rule uses. A byte that is none of a choice's codes reads as `none`, and the owning rule refuses it. -/

namespace Sys2Proof.Machine

/-- Every on/off, present, enable and yes/no field: 0 off, 1 on. -/
def onOff (b : Byte) : Option Bool :=
  match b.toNat with
  | 0 => some false
  | 1 => some true
  | _ => none

/-- Zone sources; a code of none of the six kinds is kept as given (R1, R3 check 2). -/
def zoneSource (b : Byte) : ZoneSource :=
  match b.toNat with
  | 0 => .fill
  | 1 => .slate
  | 2 => .sponsor
  | 3 => .replay
  | 4 => .scorebug
  | 5 => .ticker
  | _ => .unknown b

/-- Output modes. -/
def outputMode (b : Byte) : Option OutputMode :=
  match b.toNat with
  | 0 => some .normal
  | 1 => some .black
  | 2 => some .white
  | 3 => some .slateOnly
  | _ => none

/-- Roll directions. -/
def rollDirection (b : Byte) : Option RollDirection :=
  match b.toNat with
  | 0 => some .forward
  | 1 => some .reverse
  | _ => none

/-- End modes. -/
def endMode (b : Byte) : Option EndMode :=
  match b.toNat with
  | 0 => some .hold
  | 1 => some .release
  | _ => none

/-- Game clock directions. -/
def clockDirection (b : Byte) : Option ClockDirection :=
  match b.toNat with
  | 0 => some .down
  | 1 => some .up
  | _ => none

/-- Line functions. -/
def lineFunction (b : Byte) : Option LineFunction :=
  match b.toNat with
  | 0 => some .none
  | 1 => some .start
  | 2 => some .stop
  | 3 => some .run
  | 4 => some .shotReset
  | 5 => some .shotToggle
  | 6 => some .horn
  | _ => none

/-- Filter times in milliseconds (R88, R94). -/
def filterTime (b : Byte) : Option Nat :=
  match b.toNat with
  | 0 => some 0
  | 2 => some 2
  | 4 => some 4
  | 8 => some 8
  | 16 => some 16
  | 32 => some 32
  | _ => none

/-- Capture edges. -/
def captureEdge (b : Byte) : Option CaptureEdge :=
  match b.toNat with
  | 0 => some .rising
  | 1 => some .falling
  | 2 => some .any
  | _ => none

/-- A line number. -/
def lineNumber (b : Byte) : Option (Fin 8) := if h : b.toNat < 8 then some ⟨b.toNat, h⟩ else none

/-- Capture sources; the line and edge fields are examined for source LINE alone (R95). -/
def captureSource (source line edge : Byte) : Option CaptureSource :=
  match source.toNat with
  | 0 => some .off
  | 1 =>
    match lineNumber line, captureEdge edge with
    | some n, some e => some (.line n e)
    | _, _ => none
  | 2 => some .gcStart
  | 3 => some .gcStop
  | 4 => some .gcEnd
  | 5 => some .scEnd
  | 6 => some .scoreChange
  | 7 => some .mark
  | _ => none

/-- Spot classes. -/
def spotClass (b : Byte) : Option SpotClass :=
  match b.toNat with
  | 0 => some .any
  | 1 => some .runningOnly
  | 2 => some .stoppedOnly
  | _ => none

/-- A colour carried as three bytes R, G, B in the low bytes of a word, the fourth ignored (Table 11.2). -/
def wordColour (w : Word) : Colour :=
  { red := w.extractLsb' 0 8, green := w.extractLsb' 8 8, blue := w.extractLsb' 16 8 }

/-- The source parameter a descriptor stores: present for FILL and SLATE, absent for the other four kinds (R1), and kept as given
for a source code that is none of the six (possible in a disabled descriptor alone). -/
def sourceParam (src : ZoneSource) (w : Word) : SourceParam :=
  match src with
  | .fill => .colour (wordColour w)
  | .slate => .base w
  | .sponsor => .absent
  | .replay => .absent
  | .scorebug => .absent
  | .ticker => .absent
  | .unknown _ => .raw w

/-- The descriptor a STAGE_ZONE payload stores, with the enable already read (R1, R3). -/
def zoneDescriptor (enable : Bool) (p : ZonePayload) : ZoneDesc :=
  { enable := enable, source := zoneSource p.source, x := p.x, y := p.y, w := p.w, h := p.h, level := p.level,
    leadIn := p.leadIn, guard := p.guard, param := sourceParam (zoneSource p.source) p.param }

/-- A base address that is 4 KiB aligned. -/
def aligned4K (a : Nat) : Bool := a % 4096 == 0

end Sys2Proof.Machine
end

