-- ==== Sys2Proof/Machine/Intake.lean ====
section
/-! DEFINITION. The replay intake (Chapter 2): the ring and its slots, completions, reclaim and retry, and the commands
SET_RING, HOLD_FRAMES, RELEASE_FRAMES and DISCARD_FRAMES. -/

namespace Sys2Proof.Machine

/-! ### Quantities of a declaration (R26, Table 2.1) -/

/-- Offset of the trailer cell within a slot. -/
def RingDecl.trailerOffset (r : RingDecl) : Nat := r.w * r.h * Config.cellBytes

/-- Slot size in bytes. -/
def RingDecl.slotBytes (r : RingDecl) : Nat := (r.w * r.h + 1) * Config.cellBytes

/-- Base address of slot k. -/
def RingDecl.slotBase (r : RingDecl) (k : Nat) : Nat := r.ringBase + k * r.slotBytes

/-- Size of the ring region in bytes. -/
def RingDecl.ringBytes (r : RingDecl) : Nat := r.count * r.slotBytes

/-- The hold limit. -/
def RingDecl.holdLimit (r : RingDecl) : Nat := r.count - 3

/-- Whether two ranges of bytes, each given by base and length, share a byte. -/
def rangesOverlap (a la b lb : Nat) : Bool := decide (a < b + lb) && decide (b < a + la)

/-- Whether an address lies in a range of bytes. -/
def inRange (base len a : Nat) : Bool := decide (base ≤ a) && decide (a < base + len)

/-! ### Slots (R29) -/

/-- The frame number of a READY or HELD slot. -/
def SlotState.frame : SlotState → Option Word
  | .free => none
  | .filling => none
  | .ready f _ => some f
  | .held f _ => some f

/-- The completion sequence of a READY slot. -/
def SlotState.readySeq : SlotState → Option Word
  | .free => none
  | .filling => none
  | .ready _ q => some q
  | .held _ _ => none

/-- The slot records from index `i` on, each with its index. -/
def indexedFrom : Nat → List SlotRecord → List (Nat × SlotRecord)
  | _, [] => []
  | i, r :: rest => (i, r) :: indexedFrom (i + 1) rest

/-- The slot records with their indices. -/
def Intake.indexed (n : Intake) : List (Nat × SlotRecord) := indexedFrom 0 n.slots

/-- The slot that holds a frame: the READY or HELD slot that carries its number (R29). -/
def Intake.slotOf (n : Intake) (f : Word) : Option Nat :=
  (n.indexed.find? fun p => p.2.state.frame == some f).map Prod.fst

/-- A frame is present when a READY or HELD slot carries its number (R29). -/
def Intake.present (n : Intake) (f : Word) : Bool := n.slots.any fun r => r.state.frame == some f

/-- Whether a slot is HELD. -/
def SlotState.isHeld : SlotState → Bool
  | .free => false
  | .filling => false
  | .ready _ _ => false
  | .held _ _ => true

/-- The held count: the number of HELD slots (R29). -/
def Intake.heldCount (n : Intake) : Nat := (n.slots.filter fun r => r.state.isHeld).length

/-- The hold limit of the present ring. -/
def Intake.holdLimit (n : Intake) : Nat :=
  match n.ring with
  | some r => r.holdLimit
  | none => 0

/-- A slot's age (R34). -/
def Intake.age (n : Intake) (seq : Word) : Nat := (n.completions - seq).toNat

/-- Whether the roller's show plan names a frame as A or B (R46). -/
def Roller.names (r : Roller) (f : Word) : Bool :=
  match r.showPlan with
  | some p => p.a == f || p.b == some f
  | none => false

/-- Whether the show plan names the frame of a slot. -/
def Roller.namesSlot (r : Roller) (st : SlotState) : Bool :=
  match st.frame with
  | some f => r.names f
  | none => false

/-- A slot record replaced. -/
def Intake.setSlot (n : Intake) (k : Nat) (r : SlotRecord) : Intake := { n with slots := n.slots.set k r }

/-- A slot's state replaced, its pin count kept. -/
def Intake.setState (n : Intake) (k : Nat) (st : SlotState) : Intake :=
  { n with slots := n.slots.modify k fun r => { r with state := st } }

/-- 32 zero bytes (R31). -/
def trailerZero : Vector Byte 32 := Vector.replicate 32 0

/-- A slot becomes FILLING and is the intake slot, the trailer shadow is cleared (R31, R35). -/
def Intake.startFilling (n : Intake) (k : Nat) : Intake :=
  { n.setState k .filling with intakeSlot := some k, trailer := trailerZero }

/-! ### Choosing the next intake slot (R35, R36) -/

/-- Step 1: the lowest-index FREE slot. -/
def Intake.freeSlot (n : Intake) : Option Nat :=
  (n.indexed.find? fun p => p.2.state == .free).map Prod.fst

/-- Whether a slot may be reclaimed: READY, not pinned, not named in the show plan, not the excluded one (R35 step 2). -/
def reclaimable (r : Roller) (excluded : Option Nat) (p : Nat × SlotRecord) : Bool :=
  p.2.state.readySeq.isSome && p.2.pins == 0 && !r.namesSlot p.2.state && excluded != some p.1

/-- The better of two reclaim candidates: the older. Of two of equal age, whose completions lie 2^32 apart, R34 and R35 name none; the
one of lower index is taken (DESIGN CHOICE, notes/assumptions/30). -/
def older (n : Intake) (best : Option (Nat × Word)) (k : Nat) (seq : Word) : Option (Nat × Word) :=
  match best with
  | none => some (k, seq)
  | some (k0, s0) => if n.age s0 < n.age seq then some (k, seq) else some (k0, s0)

/-- Step 2: the oldest slot that may be reclaimed. -/
def Intake.oldestReclaimable (n : Intake) (r : Roller) (excluded : Option Nat) : Option Nat :=
  (n.indexed.foldl
    (fun best p =>
      match p.2.state.readySeq with
      | some seq => if reclaimable r excluded p then older n best p.1 seq else best
      | none => best)
    none).map Prod.fst

/-- The intake takes a new intake slot: a FREE slot, a reclaimed one, or none (R35). -/
def Intake.takeSlot (r : Roller) (excluded : Option Nat) (n : Intake) : Intake :=
  match n.freeSlot with
  | some k => n.startFilling k
  | none =>
    match n.oldestReclaimable r excluded with
    | some k => n.startFilling k
    | none => { n with intakeSlot := none }

/-- Whether a host WRITE is in progress (R166). -/
def State.writeInProgress (s : State) : Bool :=
  match s.port.transaction with
  | some t => t.request.isWrite
  | none => false

/-- Whether the intake is waiting for a slot: a ring is declared and the intake slot is NONE. -/
def Intake.blocked (n : Intake) : Bool := n.ring.isSome && n.intakeSlot.isNone

/-- The retry itself, with every READY slot a candidate (R36). -/
def retryNow (s : State) : State :=
  if s.intake.blocked then { s with intake := { s.intake.takeSlot s.roller none with retryDue := false } }
  else { s with intake := { s.intake with retryDue := false } }

/-- The intake's retry at a FRAME_END; one that falls while a host WRITE is in progress is held over to its end (R36). -/
def retryIntake (s : State) : State :=
  if s.intake.blocked then
    if s.writeInProgress then { s with intake := { s.intake with retryDue := true } } else retryNow s
  else s

/-- A retry held over is made when the WRITE ends (R36). -/
def retryHeldOver (s : State) : State := if s.intake.retryDue then retryNow s else s

/-! ### Completion (R32, R33) -/

/-- Four bytes of the trailer shadow as a little-endian word. -/
def trailerWord (t : Vector Byte 32) (at4 : Fin 8) : Word :=
  (t[4 * at4.val + 3]) ++ (t[4 * at4.val + 2]) ++ (t[4 * at4.val + 1]) ++ (t[4 * at4.val])

/-- The frame number field of the trailer shadow (Table 11.6). -/
def Intake.trailerFrame (n : Intake) : Word := trailerWord n.trailer 0

/-- The completion word of the trailer shadow (Table 11.6). -/
def Intake.completionWord (n : Intake) : Word := trailerWord n.trailer 7

/-- The keep byte of the trailer shadow (Table 11.6): 1 for keep. -/
def Intake.keeps (n : Intake) : Bool := n.trailer[8] == 1

/-- A good completion of slot k (R33 step 3, R34). -/
def Intake.complete (r : Roller) (k : Nat) (n : Intake) : Intake :=
  let seq := n.completions + 1
  let st := if n.keeps && decide (n.heldCount < n.holdLimit) then SlotState.held n.trailerFrame seq
    else SlotState.ready n.trailerFrame seq
  { n.setState k st with completions := seq }.takeSlot r (some k)

/-- The examination of the trailer shadow at a completion (R33). Without an intake slot there is no completion (R32). -/
def examineTrailer (s : State) : State :=
  match s.intake.ring, s.intake.intakeSlot with
  | some _, some k =>
    if s.intake.completionWord != ~~~s.intake.trailerFrame then s.raise .trailerBad
    else if s.intake.present s.intake.trailerFrame then
      { s with intake := { s.intake with trailer := trailerZero } }.raise .frameDuplicate
    else { s with intake := s.intake.complete s.roller k }
  | _, _ => s

/-! ### SET_RING (R27, R28) -/

/-- The declaration a SET_RING carries. -/
def ringOf (ringBase aliasBase : Word) (w h count : Byte) : RingDecl :=
  { ringBase := ringBase.toNat, aliasBase := aliasBase.toNat, w := w.toNat, h := h.toNat, count := count.toNat }

/-- The checks of Table 2.2, in order. -/
def ringChecks (s : State) (r : RingDecl) : List (Bool × ResultCode) :=
  [ (decide (r.w < 1) || decide (128 < r.w) || decide (r.h < 1) || decide (48 < r.h) || decide (3072 < r.w * r.h) ||
      decide (r.count < 4) || decide (64 < r.count), .outOfRange),
    (!aligned4K r.ringBase || !aligned4K r.aliasBase, .outOfRange),
    (decide (s.memSize < r.ringBase + r.ringBytes) || decide (s.memSize < r.aliasBase + r.slotBytes), .outOfRange),
    (rangesOverlap r.ringBase r.ringBytes s.controlBase Config.controlBytes ||
      rangesOverlap r.aliasBase r.slotBytes s.controlBase Config.controlBytes, .overlap),
    (rangesOverlap r.ringBase r.ringBytes r.aliasBase r.slotBytes, .overlap),
    (s.roller.state != .idle || s.intake.slots.any fun x => decide (0 < x.pins), .wrongState) ]

/-- The intake of a ring just declared (R28): slot 0 FILLING, the others FREE. -/
def Intake.declare (r : RingDecl) : Intake :=
  { ring := some r, slots := { state := .filling, pins := 0 } :: List.replicate (r.count - 1) { state := .free, pins := 0 },
    intakeSlot := some 0, completions := 0, trailer := trailerZero, retryDue := false }

/-- SET_RING (R27, R28). -/
def ruleSetRing (ringBase aliasBase : Word) (w h count : Byte) : CommandRule := fun s =>
  let r := ringOf ringBase aliasBase w h count
  checked (ringChecks s r) s ({ s with intake := Intake.declare r }, Result.plain .ok)

/-! ### Holding, releasing and discarding (R38-R41) -/

/-- The refusals of the three commands (R38). Where both apply R38 gives no order; NO_ZONE comes first (DESIGN CHOICE,
notes/assumptions/29). -/
def rangeChecks (s : State) (first last : Word) : List (Bool × ResultCode) :=
  [ (s.intake.ring.isNone, .noZone), (decide (last.toNat < first.toNat), .outOfRange) ]

/-- A frame number in the range (R38). -/
def frameInRange (first last f : Word) : Bool := decide (first.toNat ≤ f.toNat) && decide (f.toNat ≤ last.toNat)

/-- Insert a (frame, slot) pair in ascending order of frame number. -/
def insertByFrame (p : Word × Nat) : List (Word × Nat) → List (Word × Nat)
  | [] => [p]
  | q :: rest => if p.1.toNat < q.1.toNat then p :: q :: rest else q :: insertByFrame p rest

/-- The READY slots in a range, in ascending order of frame number. -/
def Intake.readyInRange (n : Intake) (first last : Word) : List (Word × Nat) :=
  n.indexed.foldl
    (fun acc p =>
      match p.2.state with
      | .ready f _ => if frameInRange first last f then insertByFrame (f, p.1) acc else acc
      | .free => acc
      | .filling => acc
      | .held _ _ => acc)
    []

/-- A READY slot made HELD. -/
def SlotState.hold : SlotState → SlotState
  | .ready f q => .held f q
  | .free => .free
  | .filling => .filling
  | .held f q => .held f q

/-- A HELD slot made READY. -/
def SlotState.release : SlotState → SlotState
  | .held f q => .ready f q
  | .free => .free
  | .filling => .filling
  | .ready f q => .ready f q

/-- The listed slots made HELD. -/
def Intake.holdSlots : List (Word × Nat) → Intake → Intake
  | [], n => n
  | (_, k) :: rest, n =>
    Intake.holdSlots rest { n with slots := n.slots.modify k fun r => { r with state := r.state.hold } }

/-- HOLD_FRAMES (R39). -/
def ruleHoldFrames (first last : Word) : CommandRule := fun s =>
  let all := s.intake.readyInRange first last
  let room := s.intake.holdLimit - s.intake.heldCount
  let chosen := all.take room
  checked (rangeChecks s first last) s
    ({ s with intake := s.intake.holdSlots chosen },
      { code := if chosen.length < all.length then .clamped else .ok, detail := chosen.length })

/-- Whether a slot is HELD with a frame in the range. -/
def heldInRange (first last : Word) (r : SlotRecord) : Bool :=
  match r.state with
  | .held f _ => frameInRange first last f
  | .free => false
  | .filling => false
  | .ready _ _ => false

/-- RELEASE_FRAMES (R40). -/
def ruleReleaseFrames (first last : Word) : CommandRule := fun s =>
  checked (rangeChecks s first last) s
    ({ s with
        intake := { s.intake with
          slots := s.intake.slots.map fun r =>
            if heldInRange first last r then { r with state := r.state.release } else r } },
      { code := .ok, detail := (s.intake.slots.filter (heldInRange first last)).length })

/-- Whether a slot is freed by DISCARD_FRAMES: READY or HELD in the range, not pinned, not named (R41). -/
def discardable (roller : Roller) (first last : Word) (r : SlotRecord) : Bool :=
  match r.state.frame with
  | some f => frameInRange first last f && r.pins == 0 && !roller.names f
  | none => false

/-- DISCARD_FRAMES (R41). -/
def ruleDiscardFrames (first last : Word) : CommandRule := fun s =>
  checked (rangeChecks s first last) s
    ({ s with
        intake := { s.intake with
          slots := s.intake.slots.map fun r =>
            if discardable s.roller first last r then { r with state := .free } else r } },
      { code := .ok, detail := (s.intake.slots.filter (discardable s.roller first last)).length })

/-! ### Meanings -/

/-- INTAKE_RETRY (R36): one retry, held over to its end if a host WRITE is in progress. -/
def execIntakeRetry (s : State) : Host.Outcome State Fault Refusal :=
  if s.phase = .running then .next (retryIntake s) else .next s

/-- COMPLETION (R33). -/
def execCompletion (s : State) : Host.Outcome State Fault Refusal :=
  if s.phase = .running then .next (examineTrailer s) else .next s

/-- SET_RING. -/
def execSetRing (slot : RingSlot) (ringBase aliasBase : Word) (w h count : Byte) (s : State) :
    Host.Outcome State Fault Refusal :=
  hostCommand slot (ruleSetRing ringBase aliasBase w h count) s

/-- HOLD_FRAMES. -/
def execHoldFrames (slot : RingSlot) (first last : Word) (s : State) : Host.Outcome State Fault Refusal :=
  hostCommand slot (ruleHoldFrames first last) s

/-- RELEASE_FRAMES. -/
def execReleaseFrames (slot : RingSlot) (first last : Word) (s : State) : Host.Outcome State Fault Refusal :=
  hostCommand slot (ruleReleaseFrames first last) s

/-- DISCARD_FRAMES. -/
def execDiscardFrames (slot : RingSlot) (first last : Word) (s : State) : Host.Outcome State Fault Refusal :=
  hostCommand slot (ruleDiscardFrames first last) s

end Sys2Proof.Machine
end

