-- ==== Sys2Proof/Machine/ScreenPlan.lean ====
section
/-! DEFINITION. The composer's commands (R1-R10): screen size, staged plan, output mode, house slate and font. -/

namespace Sys2Proof.Machine

/-! ### Zone rectangles and plans -/

/-- A zone enabled with the given source kind. -/
def ZoneDesc.isOn (d : ZoneDesc) (kind : ZoneSource) : Bool := d.enable && d.source == kind

/-- A zone's cell count Z (R1). -/
def ZoneDesc.cells (d : ZoneDesc) : Nat := d.w.toNat * d.h.toNat

/-- Whether a zone's rectangle contains the wall cell in column cx and row cy (R1). -/
def ZoneDesc.contains (d : ZoneDesc) (cx cy : Nat) : Bool :=
  decide (d.x.toNat ≤ cx) && decide (cx < d.x.toNat + d.w.toNat) && decide (d.y.toNat ≤ cy) && decide (cy < d.y.toNat + d.h.toNat)

/-- Whether a zone lies wholly on a screen of W x H cells (R3 check 4, R7). -/
def ZoneDesc.onScreen (d : ZoneDesc) (w h : Nat) : Bool :=
  decide (d.x.toNat + d.w.toNat ≤ w) && decide (d.y.toNat + d.h.toNat ≤ h)

/-- Whether the rectangles of two zones share a cell. -/
def ZoneDesc.sharesCell (a b : ZoneDesc) : Bool :=
  decide (a.x.toNat < b.x.toNat + b.w.toNat) && decide (b.x.toNat < a.x.toNat + a.w.toNat) &&
  decide (a.y.toNat < b.y.toNat + b.h.toNat) && decide (b.y.toNat < a.y.toNat + a.h.toNat)

/-- Whether a descriptor has the w and h given. -/
def ZoneDesc.hasSize (d : ZoneDesc) (w h : Nat) : Bool := d.w.toNat == w && d.h.toNat == h

/-- How many zones of a plan are enabled with a source kind. -/
def Plan.countOn (p : Plan) (kind : ZoneSource) : Nat := (allZones.filter fun z => (p[z]).isOn kind).length

/-- Whether a plan has an enabled zone of a kind. -/
def Plan.hasOn (p : Plan) (kind : ZoneSource) : Bool := allZones.any fun z => (p[z]).isOn kind

/-! ### STAGE_ZONE (R3, Table 1.2) -/

/-- Check 3: the ranges of Table 1.1. -/
def ZoneDesc.outOfTable (d : ZoneDesc) : Bool :=
  (match d.source with
    | .unknown _ => true
    | .fill => false
    | .slate => false
    | .sponsor => false
    | .replay => false
    | .scorebug => false
    | .ticker => false) ||
  decide (127 < d.x.toNat) || decide (47 < d.y.toNat) || decide (d.w.toNat < 1) || decide (128 < d.w.toNat) ||
  decide (d.h.toNat < 1) || decide (48 < d.h.toNat) || decide (15 < d.level.toNat) || decide (60 < d.leadIn.toNat)

/-- Check 5: a SLATE image that is not aligned or not wholly below the control area. -/
def badSlateImage (s : State) (d : ZoneDesc) : Bool :=
  match d.source, d.param with
  | .slate, .base b => !aligned4K b.toNat || !s.belowControl b.toNat (imageBytes d.w.toNat d.h.toNat)
  | _, _ => false

/-- Check 10: a REPLAY zone whose size is not the ring's slot image's. -/
def wrongReplaySize (s : State) (d : ZoneDesc) : Bool :=
  match s.intake.ring with
  | some r => d.isOn .replay && !d.hasSize r.w r.h
  | none => false

/-- Check 11: a SCOREBUG zone that shares a cell with another enabled SCOREBUG zone of the plan. -/
def scorebugOverlap (p : Plan) (index : ZoneIx) (d : ZoneDesc) : Bool :=
  d.isOn .scorebug && allZones.any fun z => z != index && (p[z]).isOn .scorebug && d.sharesCell p[z]

/-- Check 12: an enabled SPONSOR zone of the live plan with a non-empty rotation list staged at another size. -/
def boundSponsor (s : State) (index : ZoneIx) (d : ZoneDesc) : Bool :=
  d.isOn .sponsor && (s.composer.live[index]).isOn .sponsor && !(s.rotation.zones[index]).rotation.isEmpty &&
  !d.hasSize (s.composer.live[index]).w.toNat (s.composer.live[index]).h.toNat

/-- The staged plan with a descriptor replacing whatever stood at the index (R3). -/
def Plan.with (p : Plan) (index : ZoneIx) (d : ZoneDesc) : Plan := p.set index.val d index.isLt

/-- Checks 3 to 12 of Table 1.2, in order, for an enabled descriptor. -/
def stageChecks (s : State) (index : ZoneIx) (d : ZoneDesc) : List (Bool × ResultCode) :=
  let p := s.composer.staged.with index d
  [ (d.outOfTable, .outOfRange),
    (!d.onScreen s.composer.screenW s.composer.screenH, .outOfRange),
    (badSlateImage s d, .outOfRange),
    (d.isOn .replay && s.intake.ring.isNone, .noZone),
    (decide (1 < p.countOn .replay) || decide (1 < p.countOn .ticker) || decide (2 < p.countOn .scorebug) ||
      decide (4 < p.countOn .sponsor), .limit),
    (d.isOn .scorebug && !d.hasSize 16 3, .sizeMismatch),
    (d.isOn .ticker && (d.h.toNat != 1 || decide (d.w.toNat < 4)), .sizeMismatch),
    (wrongReplaySize s d, .sizeMismatch),
    (scorebugOverlap p index d, .overlap),
    (boundSponsor s index d, .bound) ]

/-- A descriptor written into the staged plan. -/
def stageDescriptor (index : ZoneIx) (d : ZoneDesc) (s : State) : State :=
  { s with composer := { s.composer with staged := s.composer.staged.with index d } }

/-- STAGE_ZONE (R3). -/
def ruleStageZone (index : Byte) (p : ZonePayload) : CommandRule := fun s =>
  match zoneIx index, onOff p.enable with
  | some z, some false => (stageDescriptor z (zoneDescriptor false p) s, Result.plain .ok)
  | some z, some true =>
    checked (stageChecks s z (zoneDescriptor true p)) s (stageDescriptor z (zoneDescriptor true p) s, Result.plain .ok)
  | _, _ => refuse .outOfRange s

/-! ### APPLY_PLAN and CANCEL_STAGE (R4, R5) -/

/-- APPLY_PLAN (R4). -/
def ruleApplyPlan : CommandRule := fun s =>
  ({ s with composer := { s.composer with applyRequest := true } }, Result.plain .ok)

/-- CANCEL_STAGE (R5). -/
def ruleCancelStage : CommandRule := fun s =>
  ({ s with composer := { s.composer with staged := s.composer.live, applyRequest := false } }, Result.plain .ok)

/-! ### SET_SCREEN (R7) -/

/-- An enabled zone of a plan that would not lie wholly on a screen of the size. -/
def Plan.offScreen (p : Plan) (w h : Nat) : Bool := allZones.any fun z => (p[z]).enable && !(p[z]).onScreen w h

/-- A declared house slate whose image at the size would not lie wholly below the control area. -/
def slateTooLarge (s : State) (w h : Nat) : Bool :=
  match s.composer.slate with
  | some b => !s.belowControl b.toNat (imageBytes w h)
  | none => false

/-- SET_SCREEN (R7). The mode in force is that of the frame record; its check comes first (DEDUCED, notes/assumptions/14). -/
def ruleSetScreen (w h : Byte) : CommandRule := fun s =>
  checked
    [ (s.composer.record.mode != .black, .wrongMode),
      (decide (w.toNat < 8) || decide (128 < w.toNat) || decide (h.toNat < 4) || decide (48 < h.toNat), .outOfRange),
      (s.composer.live.offScreen w.toNat h.toNat || s.composer.staged.offScreen w.toNat h.toNat, .outOfRange),
      (slateTooLarge s w.toNat h.toNat, .outOfRange) ]
    s
    ({ s with composer := { s.composer with screenW := w.toNat, screenH := h.toNat } }, Result.plain .ok)

/-! ### SET_OUTPUT_MODE, SET_HOUSE_SLATE, SET_FONT (R8-R10) -/

/-- SET_OUTPUT_MODE (R8). -/
def ruleSetOutputMode (mode : Byte) : CommandRule := fun s =>
  match outputMode mode with
  | some m => ({ s with composer := { s.composer with requestedMode := m } }, Result.plain .ok)
  | none => refuse .outOfRange s

/-- SET_HOUSE_SLATE (R9). -/
def ruleSetHouseSlate (present : Byte) (base : Word) : CommandRule := fun s =>
  match onOff present with
  | some true =>
    checked
      [ (!aligned4K base.toNat, .outOfRange),
        (!s.belowControl base.toNat (imageBytes s.composer.screenW s.composer.screenH), .outOfRange) ]
      s ({ s with composer := { s.composer with slate := some base } }, Result.plain .ok)
  | some false => ({ s with composer := { s.composer with slate := none } }, Result.plain .ok)
  | none => refuse .outOfRange s

/-- SET_FONT (R10). -/
def ruleSetFont (present : Byte) (base : Word) : CommandRule := fun s =>
  match onOff present with
  | some true =>
    checked
      [ (!aligned4K base.toNat, .outOfRange), (!s.belowControl base.toNat Config.fontBytes, .outOfRange) ]
      s ({ s with composer := { s.composer with font := some base } }, Result.plain .ok)
  | some false => ({ s with composer := { s.composer with font := none } }, Result.plain .ok)
  | none => refuse .outOfRange s

/-! ### Meanings -/

/-- SET_SCREEN. -/
def execSetScreen (slot : RingSlot) (w h : Byte) (s : State) : Host.Outcome State Fault Refusal :=
  hostCommand slot (ruleSetScreen w h) s

/-- STAGE_ZONE. -/
def execStageZone (slot : RingSlot) (index : Byte) (zone : ZonePayload) (s : State) : Host.Outcome State Fault Refusal :=
  hostCommand slot (ruleStageZone index zone) s

/-- APPLY_PLAN. -/
def execApplyPlan (slot : RingSlot) (s : State) : Host.Outcome State Fault Refusal := hostCommand slot ruleApplyPlan s

/-- CANCEL_STAGE. -/
def execCancelStage (slot : RingSlot) (s : State) : Host.Outcome State Fault Refusal := hostCommand slot ruleCancelStage s

/-- SET_OUTPUT_MODE. -/
def execSetOutputMode (slot : RingSlot) (mode : Byte) (s : State) : Host.Outcome State Fault Refusal :=
  hostCommand slot (ruleSetOutputMode mode) s

/-- SET_HOUSE_SLATE. -/
def execSetHouseSlate (slot : RingSlot) (present : Byte) (base : Word) (s : State) : Host.Outcome State Fault Refusal :=
  hostCommand slot (ruleSetHouseSlate present base) s

/-- SET_FONT. -/
def execSetFont (slot : RingSlot) (present : Byte) (base : Word) (s : State) : Host.Outcome State Fault Refusal :=
  hostCommand slot (ruleSetFont present base) s

end Sys2Proof.Machine
end

