-- ==== Sys2Proof/Machine/ReplayRoll.lean ====
section
/-! DEFINITION. The replay roller (Chapter 3): the cadence step at FRAME_END, the ends of a roll, and the commands ROLL, SET_SPEED
and STOP_REPLAY. -/

namespace Sys2Proof.Machine

/-- The output rate Ro chosen by FRATE (R45, R175). -/
def State.outputRate (s : State) : Nat := if s.straps.frate then 60 else 50

/-- A roller in its state IDLE with show plan NONE and a last end reason (R59, R60, R61). -/
def Roller.endIdle (reason : RollEnd) (r : Roller) : Roller :=
  { r with state := .idle, showPlan := none, lastEnd := reason }

/-- A show plan that keeps its A alone (R54, R56, R58). -/
def ShowPlan.alone (p : ShowPlan) : ShowPlan := { a := p.a, b := none, w16 := 0 }

/-! ### Ends of a roll -/

/-- The show plan of a roll that ends under HOLD (R56): F_out alone if the roll has an out point that is present, else the old A
alone, NONE staying NONE. -/
def Roller.holdPlan (n : Intake) (r : Roller) : Option ShowPlan :=
  match r.outPoint with
  | some f => if n.present f then some { a := f, b := none, w16 := 0 } else r.showPlan.map ShowPlan.alone
  | none => r.showPlan.map ShowPlan.alone

/-- A roll that ends by out point or by running out of frames ends under its end mode (R56). -/
def Roller.endByMode (n : Intake) (reason : RollEnd) (r : Roller) : Roller :=
  match r.endMode with
  | .hold => { r with state := .holding, showPlan := r.holdPlan n, lastEnd := reason }
  | .release => r.endIdle reason

/-- A game clock start ends a roll whose cut-on-clock is on (R60). -/
def cutOnClock (s : State) : State :=
  if s.roller.state != .idle && s.roller.cutOnClock then
    { s with roller := s.roller.endIdle .clock }.raise .replayEnded
  else s

/-- RESTART makes the roller IDLE; the reason is set only if a roll was in progress (R62). -/
def Roller.restarted (r : Roller) : Roller :=
  { r with state := .idle, showPlan := none, lastEnd := if r.state = .idle then r.lastEnd else .restart }

/-! ### Presence (R47) -/

/-- A whole number that is a frame number, as one. -/
def frameNumber (t : Int) : Option Word := if 0 ≤ t ∧ t < 4294967296 then some (BitVec.ofInt 32 t) else none

/-- Whether a target is present; one outside the frame numbers never is. -/
def Intake.presentAt (n : Intake) (t : Int) : Bool :=
  match frameNumber t with
  | some f => n.present f
  | none => false

/-- Whether a frame number lies beyond a target in the direction of travel. -/
def beyond (d : RollDirection) (t : Int) (f : Word) : Bool :=
  match d with
  | .forward => decide (t < f.toNat)
  | .reverse => decide ((f.toNat : Int) < t)

/-- Whether a present frame lies beyond a target; none does beyond a target outside the frame numbers. -/
def Intake.presentBeyond (n : Intake) (d : RollDirection) (t : Int) : Bool :=
  (frameNumber t).isSome &&
  n.slots.any fun r =>
    match r.state.frame with
    | some f => beyond d t f
    | none => false

/-- Whether a target has passed an out point. -/
def passed (d : RollDirection) (t : Int) (fOut : Word) : Bool :=
  match d with
  | .forward => decide ((fOut.toNat : Int) < t)
  | .reverse => decide (t < fOut.toNat)

/-- Whether a target has passed the roll's out point, if it has one. -/
def Roller.outPassed (r : Roller) (t : Int) : Bool :=
  match r.outPoint with
  | some f => passed r.direction t f
  | none => false

/-! ### The cadence step (R51-R55) -/

/-- The advance of a counted step: the candidate position and remainder, and the target frame (R51). -/
structure Advance where
  pInt : Nat
  pFrac : Nat
  rem : Nat
  target : Int
  deriving DecidableEq, Repr

/-- The target frame of a position (R51 step 5). -/
def Roller.targetOf (r : Roller) (pInt : Nat) : Int :=
  match r.direction with
  | .forward => (r.fIn.toNat : Int) + pInt
  | .reverse => (r.fIn.toNat : Int) - pInt

/-- The advance computed from the speed, Rs and Ro (R51). -/
def Roller.advance (ro : Nat) (r : Roller) : Advance :=
  let t := r.speed * r.rs * 16 + r.rem
  let whole := t / ro
  let pInt := r.pInt + (r.pFrac + whole) / 4096
  { pInt := pInt, pFrac := (r.pFrac + whole) % 4096, rem := t % ro, target := r.targetOf pInt }

/-- The blend partner's number (R53). -/
def Roller.partner (r : Roller) (t : Int) : Int :=
  match r.direction with
  | .forward => t + 1
  | .reverse => t - 1

/-- The blend partner B of a target, if it is named (R53). -/
def Roller.blendPartner (n : Intake) (r : Roller) (t : Int) (w16 : Nat) : Option Word :=
  if r.blend && decide (0 < w16) && n.presentAt (r.partner t) && !r.outPassed (r.partner t) then frameNumber (r.partner t)
  else none

/-- The candidates of an advance kept (R53, R54). -/
def Roller.keep (a : Advance) (r : Roller) : Roller := { r with pInt := a.pInt, pFrac := a.pFrac, rem := a.rem }

/-- The target frame is present (R53). -/
def Roller.stepPresent (n : Intake) (a : Advance) (f : Word) (r : Roller) : Roller :=
  { r.keep a with
    state := .rolling
    showPlan := some { a := f, b := r.blendPartner n a.target (a.pFrac / 256), w16 := a.pFrac / 256 } }

/-- A gap (R54). -/
def Roller.stepGap (a : Advance) (r : Roller) : Roller :=
  { r.keep a with
    state := .rolling
    showPlan := r.showPlan.map ShowPlan.alone
    gapCount := saturating 65535 r.gapCount }

/-- No frames ahead, going forward (R55). -/
def Roller.stepStarved (r : Roller) : Roller :=
  { r with state := .starved, starvedCount := saturating 65535 r.starvedCount }

/-- A counted step: the first of R52, R53, R54 and R55 that fits. -/
def countedStep (s : State) : State :=
  let r := s.roller
  let a := r.advance s.outputRate
  if r.outPassed a.target then
    { s with roller := r.endByMode s.intake .outPoint }.raise .replayEnded
  else if s.intake.presentAt a.target then
    { s with roller := r.stepPresent s.intake a (BitVec.ofInt 32 a.target) }
  else if s.intake.presentBeyond r.direction a.target then
    { s with roller := r.stepGap a }
  else
    match r.direction with
    | .forward => { s with roller := r.stepStarved }.raiseIf (r.state == RollerState.rolling) .replayStarved
    | .reverse => { s with roller := r.endByMode s.intake .frameGone }.raise .replayEnded

/-- The record of the enabled REPLAY zone of a frame record, if it has one. -/
def FrameRecord.zoneOn (r : FrameRecord) (kind : ZoneSource) : Option ZoneRecord :=
  (allZones.map fun z => r.zones[z]).find? fun z => z.desc.isOn kind

/-- The roller's frame work at FRAME_END (R50, R61). -/
def rollerFrameWork (s : State) : State :=
  match s.composer.record.zoneOn .replay with
  | none =>
    if s.roller.state = .idle then s
    else { s with roller := s.roller.endIdle .zoneRemoved }.raise .replayEnded
  | some z =>
    if (s.roller.state = .rolling ∨ s.roller.state = .starved) ∧ z.active = true ∧ z.inLeadIn = false then countedStep s
    else s

/-! ### ROLL (R48, R49) -/

/-- An out point on the wrong side of F_in (R48 check 4). -/
def wrongSide (d : RollDirection) (fIn fOut : Word) : Bool :=
  match d with
  | .forward => decide (fOut.toNat < fIn.toNat)
  | .reverse => decide (fIn.toNat < fOut.toNat)

/-- The eight roll parameters as read from a ROLL payload, if every choice is one of its values (R48 check 1). -/
def rollChoices (p : RollPayload) : Option (Bool × RollDirection × EndMode × Bool × Bool) :=
  match onOff p.outPresent, rollDirection p.direction, endMode p.endMode, onOff p.blend, onOff p.cutOnClock with
  | some o, some d, some e, some b, some c => some (o, d, e, b, c)
  | _, _, _, _, _ => none

/-- A speed after clamping to 1,024 (R48, R58). -/
def clampSpeed (v : Half) : Nat := min v.toNat 1024

/-- OK, or CLAMPED for a speed above 1,024 (R48, R58). -/
def speedResult (v : Half) : Result := Result.plain (if 1024 < v.toNat then .clamped else .ok)

/-- A new roll with its parameters stored and its counts cleared, before its first frame is looked for (R49 steps 1, 2). -/
def Roller.loaded (p : RollPayload) (o : Bool) (d : RollDirection) (e : EndMode) (b c : Bool) (r : Roller) : Roller :=
  { r with
    fIn := p.fIn, outPoint := if o then some p.fOut else none, speed := clampSpeed p.speed, direction := d, rs := p.rs.toNat,
    endMode := e, blend := b, cutOnClock := c, pInt := 0, pFrac := 0, rem := 0, gapCount := 0, starvedCount := 0 }

/-- A roll started (R49). -/
def startRoll (p : RollPayload) (o : Bool) (d : RollDirection) (e : EndMode) (b c : Bool) (s : State) : State :=
  let r := s.roller.loaded p o d e b c
  if s.intake.present p.fIn then
    { s with roller := { r with state := .rolling, showPlan := some { a := p.fIn, b := none, w16 := 0 } } }
  else { s with roller := { r with state := .starved, showPlan := none } }.raise .replayStarved

/-- ROLL (R48, R49). -/
def ruleRoll (p : RollPayload) : CommandRule := fun s =>
  match rollChoices p with
  | none => refuse .outOfRange s
  | some (o, d, e, b, c) =>
    checked
      [ (decide (p.rs.toNat < 1) || decide (300 < p.rs.toNat), .outOfRange),
        (s.intake.ring.isNone, .noZone),
        (!s.composer.live.hasOn .replay, .noZone),
        (o && wrongSide d p.fIn p.fOut, .outOfRange) ]
      s (startRoll p o d e b c s, speedResult p.speed)

/-! ### SET_SPEED and STOP_REPLAY (R58, R59) -/

/-- A roll rebased on a change of direction (R58). -/
def Roller.rebase (speed : Nat) (d : RollDirection) (r : Roller) : Roller :=
  let r' := { r with speed := speed, direction := d, pInt := 0, pFrac := 0, rem := 0, outPoint := none }
  match r.showPlan with
  | some p => { r' with fIn := p.a, showPlan := some p.alone }
  | none => r'

/-- The change of speed and direction of a roll in progress (R58). -/
def Roller.setSpeed (speed : Nat) (d : RollDirection) (r : Roller) : Roller :=
  if r.direction != d then r.rebase speed d
  else if r.speed != speed then { r with speed := speed, rem := 0 }
  else r

/-- SET_SPEED (R58). -/
def ruleSetSpeed (speed : Half) (direction : Byte) : CommandRule := fun s =>
  match rollDirection direction with
  | none => refuse .outOfRange s
  | some d =>
    if s.roller.state = .rolling ∨ s.roller.state = .starved then
      ({ s with roller := s.roller.setSpeed (clampSpeed speed) d }, speedResult speed)
    else refuse .wrongState s

/-- STOP_REPLAY (R59). -/
def ruleStopReplay : CommandRule := fun s =>
  if s.roller.state = .idle then (s, Result.plain .ok)
  else ({ s with roller := s.roller.endIdle .stopped }.raise .replayEnded, Result.plain .ok)

/-! ### Meanings -/

/-- ROLL. -/
def execRoll (slot : RingSlot) (payload : RollPayload) (s : State) : Host.Outcome State Fault Refusal :=
  hostCommand slot (ruleRoll payload) s

/-- SET_SPEED. -/
def execSetSpeed (slot : RingSlot) (speed : Half) (direction : Byte) (s : State) : Host.Outcome State Fault Refusal :=
  hostCommand slot (ruleSetSpeed speed direction) s

/-- STOP_REPLAY. -/
def execStopReplay (slot : RingSlot) (s : State) : Host.Outcome State Fault Refusal := hostCommand slot ruleStopReplay s

end Sys2Proof.Machine
end

