-- ==== Sys2Proof/Machine/Clocks.lean ====
section
/-! DEFINITION. The clock unit (Chapter 4): venue time, the game clock and its marks, the shot clock, the horn timer, the clock texts,
and the clock commands. The millisecond tick as a whole stands in `Machine/Tick.lean`. -/

namespace Sys2Proof.Machine

/-! ### Game clock (R67) -/

/-- The end value of the game clock (R67). -/
def GameClock.endValue (g : GameClock) : Nat :=
  match g.direction with
  | .down => 0
  | .up => g.limit

/-- One millisecond toward the end value (R68). -/
def GameClock.moved (g : GameClock) : Nat :=
  match g.direction with
  | .down => g.value - 1
  | .up => g.value + 1

/-- The largest value of the clock's range (R73). -/
def GameClock.top (g : GameClock) : Nat :=
  match g.direction with
  | .down => Config.clockMax
  | .up => g.limit

/-! ### Horn (R83) -/

/-- A horn event of duration d sets the timer to d if d is greater than the time it holds (R83). -/
def ClockUnit.hornEvent (d : Nat) (c : ClockUnit) : ClockUnit :=
  { c with horn := { c.horn with timer := max c.horn.timer d } }

/-- A horn event that depends on a setting (R83, Table 4.8). -/
def ClockUnit.hornEventIf (b : Bool) (d : Nat) (c : ClockUnit) : ClockUnit := if b then c.hornEvent d else c

/-! ### The shot clock's reaction (R80) -/

/-- The reaction to a game clock start. -/
def ShotClock.onStart (t : ShotClock) : ShotClock :=
  if t.startOnGame then { t with value := t.preset, state := .running }
  else if t.follow && t.state == .stopped then { t with state := .running }
  else t

/-- The reaction to a game clock stop and to a period end. -/
def ShotClock.onStop (t : ShotClock) : ShotClock :=
  if t.follow && t.state == .running then { t with state := .stopped } else t

/-! ### Starts, stops and period ends (R68, R71, R72) -/

/-- A game clock start within the clock unit: the state, then the shot clock's reaction (R71). -/
def ClockUnit.started (c : ClockUnit) : ClockUnit :=
  { c with game := { c.game with state := .running }, shot := c.shot.onStart }

/-- A game clock stop within the clock unit (R72). -/
def ClockUnit.halted (c : ClockUnit) : ClockUnit :=
  { c with game := { c.game with state := .stopped }, shot := c.shot.onStop }

/-- A period end within the clock unit: the state, the end horn, and the shot clock's reaction (R68). -/
def ClockUnit.periodEnded (c : ClockUnit) : ClockUnit :=
  ({ c with game := { c.game with state := .ended }, shot := c.shot.onStop }).hornEventIf c.horn.endHorn c.horn.periodTime

/-- A game clock start and what it hands on (R71, R87). -/
def gameClockStart (s : State) : State :=
  fireCapture .gcStart (cutOnClock { s with clock := s.clock.started })

/-- A game clock stop and what it hands on (R72, R87). -/
def gameClockStop (s : State) : State := fireCapture .gcStop { s with clock := s.clock.halted }

/-- A period end and what it hands on (R68, R87). -/
def gamePeriodEnd (s : State) : State :=
  fireCapture .gcEnd ({ s with clock := s.clock.periodEnded }.raise .gcEnded)

/-- START_CLOCK and a START request, by the game clock's state (R71). -/
def startClock (s : State) : State × Result :=
  match s.clock.game.state with
  | .stopped => (gameClockStart s, Result.plain .ok)
  | .running => (s, Result.plain .ok)
  | .ended => refuse .wrongState s

/-- STOP_CLOCK and a STOP request, by the game clock's state (R72). -/
def stopClock (s : State) : State × Result :=
  match s.clock.game.state with
  | .running => (gameClockStop s, Result.plain .ok)
  | .stopped => (s, Result.plain .ok)
  | .ended => (s, Result.plain .ok)

/-! ### The tick's work in the clock unit (R66) -/

/-- What came about in the clock unit's work of one tick. -/
structure ClockEvents where
  periodEnd : Bool
  mark0 : Bool
  mark1 : Bool
  gcStop : Bool
  shotEnd : Bool
  hornOut : Bool
  deriving DecidableEq, Repr

/-- A tick in which nothing came about. -/
def ClockEvents.none : ClockEvents :=
  { periodEnd := false, mark0 := false, mark1 := false, gcStop := false, shotEnd := false, hornOut := false }

/-- Steps 1 and 2: venue time rises, the horn timer falls (R65, R83). -/
def ClockUnit.tickTimers (c : ClockUnit) : ClockUnit :=
  { c with venue := c.venue + 1, horn := { c.horn with timer := c.horn.timer - 1 } }

/-- Step 3, first part: a RUNNING game clock moves, and the period ends at its end value (R68). -/
def ClockUnit.tickGame (c : ClockUnit) : ClockUnit :=
  let c' := { c with game := { c.game with value := c.game.moved } }
  if c'.game.value = c.game.endValue then c'.periodEnded else c'

/-- Whether a mark fires at a value (R75). -/
def Mark.firesAt (m : Mark) (v : Nat) : Bool := m.value == some v

/-- A firing mark's HORN and STOP actions (R75); its FLAG is raised when the events are handed on. -/
def ClockUnit.markActions (m : Mark) (c : ClockUnit) : ClockUnit :=
  let c' := c.hornEventIf m.horn c.horn.periodTime
  if m.stop && c'.game.state == .running then c'.halted else c'

/-- A mark's actions if it fires. -/
def ClockUnit.markIf (fires : Bool) (m : Mark) (c : ClockUnit) : ClockUnit := if fires then c.markActions m else c

/-- Step 3: the game clock and then the marks (R68, R75). -/
def ClockUnit.tickStep3 (c : ClockUnit) : ClockUnit × ClockEvents :=
  if c.game.state = .running then
    let g := c.tickGame
    let f0 := g.mark0.firesAt g.game.value
    let f1 := g.mark1.firesAt g.game.value
    let m := (g.markIf f0 g.mark0).markIf f1 g.mark1
    (m, { ClockEvents.none with
            periodEnd := g.game.state == .ended
            mark0 := f0
            mark1 := f1
            gcStop := g.game.state == .running && m.game.state == .stopped })
  else (c, ClockEvents.none)

/-- Step 4: a RUNNING shot clock falls, and ends at 0 (R77). -/
def ClockUnit.tickShot (c : ClockUnit) : ClockUnit × Bool :=
  if c.shot.state = .running then
    let v := c.shot.value - 1
    if v = 0 then
      (({ c with shot := { c.shot with value := 0, state := .ended } }).hornEventIf c.shot.shotHorn c.horn.shotTime, true)
    else ({ c with shot := { c.shot with value := v } }, false)
  else (c, false)

/-- The clock unit's own work of a tick, all four steps in order (R66). The horn timer runs out in every tick whose step 2 lowers it to 0,
also when step 3 or 4 of that tick sounds the horn anew (DESIGN CHOICE, notes/assumptions/4). -/
def ClockUnit.tick (c : ClockUnit) : ClockUnit × ClockEvents :=
  let r := c.tickTimers.tickStep3
  let q := r.1.tickShot
  (q.1, { r.2 with shotEnd := q.2, hornOut := c.horn.timer == 1 })

/-- The events of a tick handed on when all its work is complete (R66, R75, R77, R87, R98). -/
def handOn (e : ClockEvents) (s : State) : State :=
  let s := (((s.raiseIf e.periodEnd .gcEnded).raiseIf (e.mark0 && s.clock.mark0.flag) .mark0).raiseIf
    (e.mark1 && s.clock.mark1.flag) .mark1).raiseIf e.shotEnd .scEnded
  fireCaptureIf e.shotEnd .scEnd
    (fireCaptureIf (e.mark0 || e.mark1) .mark
      (fireCaptureIf e.gcStop .gcStop (fireCaptureIf e.periodEnd .gcEnd s)))

/-! ### Game clock commands (R69, R70, R73, R74) -/

/-- SET_GAME_CLOCK (R69, R70). -/
def ruleSetGameClock (value limit : Word) (direction tenths : Byte) : CommandRule := fun s =>
  match clockDirection direction, onOff tenths with
  | some d, some t =>
    let g : GameClock := { value := value.toNat, direction := d, limit := limit.toNat, tenths := t, state := .stopped }
    checked
      [ (decide (Config.clockMax < value.toNat) || decide (limit.toNat < 1) || decide (Config.clockMax < limit.toNat), .outOfRange),
        (d == .up && decide (limit.toNat < value.toNat), .outOfRange),
        (s.clock.game.state == .running, .wrongState) ]
      s
      ({ s with clock := { s.clock with game := { g with state := if g.value = g.endValue then .ended else .stopped } } },
        Result.plain .ok)
  | _, _ => refuse .outOfRange s

/-- The clamped sum of ADJUST_CLOCK (R73). -/
def GameClock.adjusted (g : GameClock) (delta : Int) : Nat := (max 0 (min (g.top : Int) (g.value + delta))).toNat

/-- Whether the sum had to be clamped (R73). -/
def GameClock.clamps (g : GameClock) (delta : Int) : Bool := (g.adjusted delta : Int) != g.value + delta

/-- What an adjusted clock becomes (R73). -/
def adjustClock (delta : Int) (s : State) : State :=
  let g := { s.clock.game with value := s.clock.game.adjusted delta }
  if s.clock.game.state = .running then
    if g.value = g.endValue then gamePeriodEnd { s with clock := { s.clock with game := g } }
    else { s with clock := { s.clock with game := g } }
  else
    { s with clock := { s.clock with game := { g with state := if g.value = g.endValue then .ended else .stopped } } }

/-- ADJUST_CLOCK (R73). -/
def ruleAdjustClock (delta : Word) : CommandRule := fun s =>
  if delta.toInt < -600000 ∨ 600000 < delta.toInt then refuse .outOfRange s
  else if delta.toInt = 0 then (s, Result.plain .ok)
  else (adjustClock delta.toInt s, Result.plain (if s.clock.game.clamps delta.toInt then .clamped else .ok))

/-- SET_MARK (R74). Action bits: 0 FLAG, 1 HORN, 2 STOP, others ignored. The value
is checked when it is present (DEDUCED, notes/assumptions/15). -/
def ruleSetMark (mark present actions : Byte) (value : Word) : CommandRule := fun s =>
  match onOff present with
  | none => refuse .outOfRange s
  | some p =>
    let m : Mark :=
      { value := if p then some value.toNat else none, flag := actions.getLsbD 0, horn := actions.getLsbD 1,
        stop := actions.getLsbD 2 }
    checked
      [ (decide (1 < mark.toNat), .outOfRange), (p && decide (Config.clockMax < value.toNat), .outOfRange) ]
      s
      (if mark.toNat = 0 then { s with clock := { s.clock with mark0 := m } } else { s with clock := { s.clock with mark1 := m } },
        Result.plain .ok)

/-! ### Shot clock commands (R76, R78, R79) -/

/-- SET_SHOT_CLOCK (R76). -/
def ruleSetShotClock (preset : Word) (follow startOnGame shotHorn : Byte) : CommandRule := fun s =>
  match onOff follow, onOff startOnGame, onOff shotHorn with
  | some f, some g, some h =>
    checked [ (decide (preset.toNat < 1000) || decide (99000 < preset.toNat), .outOfRange) ] s
      ({ s with
          clock := { s.clock with
            shot := { s.clock.shot with preset := preset.toNat, follow := f, startOnGame := g, shotHorn := h } } },
        Result.plain .ok)
  | _, _, _ => refuse .outOfRange s

/-- The shot clock with its state replaced. -/
def setShotState (st : ShotState) (s : State) : State :=
  { s with clock := { s.clock with shot := { s.clock.shot with state := st } } }

/-- A shot clock reset, by SHOT_RESET or a SHOT_RESET request (R78). -/
def shotReset (s : State) : State × Result :=
  ({ s with
      clock := { s.clock with
        shot := { s.clock.shot with
          value := s.clock.shot.preset
          state := if s.clock.game.state = .running then .running else .stopped } } },
    Result.plain .ok)

/-- SHOT_START (R79). -/
def shotStart (s : State) : State × Result :=
  match s.clock.shot.state with
  | .blank => refuse .wrongState s
  | .stopped => (setShotState .running s, Result.plain .ok)
  | .running => (s, Result.plain .ok)
  | .ended => refuse .wrongState s

/-- SHOT_STOP (R79). -/
def shotStop (s : State) : State × Result :=
  match s.clock.shot.state with
  | .running => (setShotState .stopped s, Result.plain .ok)
  | .blank => (s, Result.plain .ok)
  | .stopped => (s, Result.plain .ok)
  | .ended => (s, Result.plain .ok)

/-- SHOT_BLANK (R79). -/
def shotBlank (s : State) : State × Result := (setShotState .blank s, Result.plain .ok)

/-! ### Horn commands (R82) -/

/-- A horn time or duration out of 100-5,000 ms. -/
def badHornTime (v : Half) : Bool := decide (v.toNat < 100) || decide (5000 < v.toNat)

/-- SET_HORN (R82). -/
def ruleSetHorn (periodTime shotTime : Half) (endHorn : Byte) : CommandRule := fun s =>
  match onOff endHorn with
  | none => refuse .outOfRange s
  | some e =>
    checked [ (badHornTime periodTime || badHornTime shotTime, .outOfRange) ] s
      ({ s with
          clock := { s.clock with
            horn := { s.clock.horn with periodTime := periodTime.toNat, shotTime := shotTime.toNat, endHorn := e } } },
        Result.plain .ok)

/-- SOUND_HORN (R82, R83). -/
def ruleSoundHorn (duration : Half) : CommandRule := fun s =>
  checked [ (badHornTime duration, .outOfRange) ] s
    ({ s with clock := s.clock.hornEvent duration.toNat }, Result.plain .ok)

/-! ### Texts (R85, R86, R108) -/

/-- The character of one decimal digit (R108). -/
def digitChar (n : Nat) : Byte := BitVec.ofNat 8 (0x30 + n % 10)

/-- A number below 1,000 in decimal without leading zeros, 0 as "0" (R108). -/
def decimal (n : Nat) : List Byte :=
  if n < 10 then [digitChar n]
  else if n < 100 then [digitChar (n / 10), digitChar n]
  else [digitChar (n / 100), digitChar (n / 10), digitChar n]

/-- M:SS of a number of seconds (R85). -/
def minutesSeconds (sec : Nat) : List Byte :=
  decimal (sec / 60) ++ [0x3A, digitChar (sec % 60 / 10), digitChar (sec % 60)]

/-- S.t of a number of tenths (R85, R86). -/
def secondsTenths (t : Nat) : List Byte := decimal (t / 10) ++ [0x2E, digitChar t]

/-- Milliseconds rounded up to whole seconds. -/
def ceilSeconds (ms : Nat) : Nat := (ms + 999) / 1000

/-- The game clock's text (R85, Table 4.9). -/
def GameClock.text (g : GameClock) : List Byte :=
  match g.direction with
  | .up => minutesSeconds (g.value / 1000)
  | .down =>
    if 60000 ≤ g.value ∨ g.tenths = false then minutesSeconds (ceilSeconds g.value) else secondsTenths (g.value / 100)

/-- The shot clock's text, or none when it is blank (R86, Table 4.10). -/
def ClockUnit.shotText (c : ClockUnit) : Option (List Byte) :=
  if c.shot.state = .blank then none
  else if c.game.direction = .down ∧ c.game.value < c.shot.value then none
  else if 5000 ≤ c.shot.value then some (decimal (ceilSeconds c.shot.value))
  else some (secondsTenths (c.shot.value / 100))

/-! ### Meanings -/

/-- SET_GAME_CLOCK. -/
def execSetGameClock (slot : RingSlot) (value limit : Word) (direction tenths : Byte) (s : State) :
    Host.Outcome State Fault Refusal :=
  hostCommand slot (ruleSetGameClock value limit direction tenths) s

/-- START_CLOCK. -/
def execStartClock (slot : RingSlot) (s : State) : Host.Outcome State Fault Refusal := hostCommand slot startClock s

/-- STOP_CLOCK. -/
def execStopClock (slot : RingSlot) (s : State) : Host.Outcome State Fault Refusal := hostCommand slot stopClock s

/-- ADJUST_CLOCK. -/
def execAdjustClock (slot : RingSlot) (delta : Word) (s : State) : Host.Outcome State Fault Refusal :=
  hostCommand slot (ruleAdjustClock delta) s

/-- SET_MARK. -/
def execSetMark (slot : RingSlot) (mark present actions : Byte) (value : Word) (s : State) : Host.Outcome State Fault Refusal :=
  hostCommand slot (ruleSetMark mark present actions value) s

/-- SET_SHOT_CLOCK. -/
def execSetShotClock (slot : RingSlot) (preset : Word) (follow startOnGame shotHorn : Byte) (s : State) :
    Host.Outcome State Fault Refusal :=
  hostCommand slot (ruleSetShotClock preset follow startOnGame shotHorn) s

/-- SHOT_RESET. -/
def execShotReset (slot : RingSlot) (s : State) : Host.Outcome State Fault Refusal := hostCommand slot shotReset s

/-- SHOT_START. -/
def execShotStart (slot : RingSlot) (s : State) : Host.Outcome State Fault Refusal := hostCommand slot shotStart s

/-- SHOT_STOP. -/
def execShotStop (slot : RingSlot) (s : State) : Host.Outcome State Fault Refusal := hostCommand slot shotStop s

/-- SHOT_BLANK. -/
def execShotBlank (slot : RingSlot) (s : State) : Host.Outcome State Fault Refusal := hostCommand slot shotBlank s

/-- SET_HORN. -/
def execSetHorn (slot : RingSlot) (periodTime shotTime : Half) (endHorn : Byte) (s : State) : Host.Outcome State Fault Refusal :=
  hostCommand slot (ruleSetHorn periodTime shotTime endHorn) s

/-- SOUND_HORN. -/
def execSoundHorn (slot : RingSlot) (duration : Half) (s : State) : Host.Outcome State Fault Refusal :=
  hostCommand slot (ruleSoundHorn duration) s

end Sys2Proof.Machine
end

