-- ==== Sys2Proof/Machine/Exposure.lean ====
section
/-! DEFINITION. The exposure counter (Chapter 8): crediting a frame, proof-of-play records and the log, the log read word. -/

namespace Sys2Proof.Machine

/-! ### Crediting a frame (R132-R136) -/

/-- Exposure ticks of one frame: 6 at 50 Hz, 5 at 60 Hz (R132, R175). -/
def State.frameTicks (s : State) : Nat := if s.straps.frate then 5 else 6

/-- Whether a frame counts for a showing (R133). -/
def frameCounts (mode : OutputMode) (z : ZoneRecord) (minVisible : Nat) : Bool :=
  mode == .normal && !z.inLeadIn && decide (minVisible * z.desc.cells ≤ z.visible * 100)

/-- The credit of a frame that counts (R134). -/
def frameCredit (f : Nat) (z : ZoneRecord) : Nat := f * 256 * z.visible / z.desc.cells

/-- The largest value of D (R135). -/
def creditMax : Nat := 4294967295

/-- D and the saturated mark after adding a credit (R135). -/
def Spot.credited (c : Nat) (p : Spot) : Spot :=
  if creditMax < p.delivered + c then { p with delivered := creditMax, saturated := true }
  else { p with delivered := p.delivered + c }

/-- Whether adding a credit raises CREDIT_SATURATED (R135). -/
def Spot.saturates (c : Nat) (p : Spot) : Bool := decide (creditMax < p.delivered + c) && !p.saturated

/-- Whether the contract is found met by the test after a counted frame's addition (R136). -/
def Spot.meets (p : Spot) : Bool := !p.contractMet && decide (p.contract * Config.q8PerSecond ≤ p.delivered)

/-- The contract-met mark after the test (R136). -/
def Spot.tested (p : Spot) : Spot := if p.meets then { p with contractMet := true } else p

/-- A showing that accounts for a frame that does not count (R133). -/
def Showing.accounted (h : Showing) : Showing := { h with framesOnAir := h.framesOnAir + 1 }

/-- A showing that accounts for a frame that counts, with its credit (R134). -/
def Showing.credited (c : Nat) (h : Showing) : Showing :=
  { h with framesOnAir := h.framesOnAir + 1, countedFrames := h.countedFrames + 1, credit := h.credit + c }

/-- A spot is owed while D is below its contract (R110). -/
def Spot.owed (p : Spot) : Bool := decide (p.delivered < p.contract * Config.q8PerSecond)

/-! ### Proof-of-play records (R138-R141) -/

/-- The code of an end reason (R139, Table 8.4). -/
def ShowingEnd.code : ShowingEnd → Nat
  | .dwellDone => 1
  | .coverLimit => 2
  | .clockClass => 3
  | .sting => 4
  | .withdrawn => 5
  | .planChange => 6
  | .outputMode => 7
  | .restart => 8

/-- The flags byte of a record (Table 11.7). -/
def recordFlags (sting overrun saturated : Bool) : Nat :=
  (if sting then 1 else 0) + (if overrun then 2 else 0) + (if saturated then 4 else 0)

/-- The 32 bytes of a proof-of-play record (R138, Table 11.7). -/
def proofRecord (number : Word) (zone : ZoneIx) (reason : ShowingEnd) (saturated : Bool) (endVenue : Word) (h : Showing) :
    List Byte :=
  leBytes 4 number.toNat ++ leBytes 1 h.spotId ++ leBytes 1 zone.val ++ leBytes 1 reason.code ++
  leBytes 1 (recordFlags h.sting h.overrun saturated) ++ leBytes 4 h.startVenue.toNat ++ leBytes 4 endVenue.toNat ++
  leBytes 2 h.framesOnAir ++ leBytes 2 h.countedFrames ++ leBytes 4 h.credit ++ leBytes 4 h.gameValue ++
  leBytes 1 h.period ++ leBytes 3 0

/-- The unreleased count (R140). -/
def ExposureCounter.unreleased (e : ExposureCounter) : Nat := (e.nextRecord - e.readMark).toNat

/-- The write of record number k: log position k mod 1,024 (R141). -/
def recordWrite (number : Word) (bytes : List Byte) : PartWrite :=
  { offset := 0x8000 + 32 * (number.toNat % Config.logRecords), data := bytes }

/-- A record offered to the log: numbered and written, or missed with LOG_FULL (R140). -/
def offerRecord (zone : ZoneIx) (reason : ShowingEnd) (saturated : Bool) (h : Showing) (s : State) : State :=
  if s.exposure.unreleased < Config.logRecords then
    { s with
      exposure := { s.exposure with nextRecord := s.exposure.nextRecord + 1 }
      memctl := s.memctl.offerExposure
        (recordWrite s.exposure.nextRecord (proofRecord s.exposure.nextRecord zone reason saturated s.clock.venue h)) }
  else
    { s with exposure := { s.exposure with missed := saturating 65535 s.exposure.missed } }.raise .logFull

/-! ### The log read word (R142) -/

/-- A watched write of a value: the read mark is moved, or held with LOG_READ_HELD (R142). -/
def watchedWrite (v : Word) (s : State) : State :=
  if (v - s.exposure.readMark).toNat ≤ s.exposure.unreleased then
    { s with exposure := { s.exposure with readMark := v } }
  else s.raise .logReadHeld

/-- WATCHED_WRITE (R142). -/
def execWatchedWrite (value : Word) (s : State) : Host.Outcome State Fault Refusal :=
  if s.phase = .running then .next (watchedWrite value s) else .next s

end Sys2Proof.Machine
end

