-- ==== Sys2Proof/Machine/Rotation.lean ====
section
/-! DEFINITION. The rotation unit (Chapter 7): the spot table, rotation lists, stings and showings, its frame work at FRAME_END, and its
commands; RESET_TOTALS of Chapter 8 too, which acts on the spots and showings. -/

namespace Sys2Proof.Machine

/-! ### The spot table (R110) -/

/-- The spot that carries an id. -/
def RotationUnit.spot (u : RotationUnit) (id : Nat) : Option Spot := u.spots.find? fun p => p.id == id

/-- The spot that carries an id changed. -/
def RotationUnit.mapSpot (id : Nat) (f : Spot → Spot) (u : RotationUnit) : RotationUnit :=
  { u with spots := u.spots.map fun p => if p.id = id then f p else p }

/-- A spot put in its place in ascending order of id. -/
def insertSpot (p : Spot) : List Spot → List Spot
  | [] => [p]
  | q :: rest => if p.id < q.id then p :: q :: rest else q :: insertSpot p rest

/-- A spot deleted from the table. -/
def RotationUnit.deleteSpot (id : Nat) (u : RotationUnit) : RotationUnit :=
  { u with spots := u.spots.filter fun p => p.id != id }

/-- A sponsor zone state changed. -/
def RotationUnit.mapZone (z : ZoneIx) (f : SponsorZone → SponsorZone) (u : RotationUnit) : RotationUnit :=
  { u with zones := u.zones.set z.val (f u.zones[z]) z.isLt }

/-- Every sponsor zone state changed. -/
def RotationUnit.mapZones (f : SponsorZone → SponsorZone) (u : RotationUnit) : RotationUnit :=
  { u with zones := Vector.ofFn fun z : ZoneIx => f u.zones[z] }

/-- Whether a zone shows a spot. -/
def SponsorZone.shows (z : SponsorZone) (id : Nat) : Bool :=
  match z.showing with
  | some h => h.spotId == id
  | none => false

/-- A spot is on air while it is the subject of a showing in some zone (R120). -/
def RotationUnit.onAir (u : RotationUnit) (id : Nat) : Bool := allZones.any fun z => (u.zones[z]).shows id

/-- Whether a zone's list or sting names a spot. -/
def SponsorZone.names (z : SponsorZone) (id : Nat) : Bool := z.rotation.contains id || z.sting == some id

/-! ### Endings (R122-R124) -/

/-- The showing of a zone ends (R124): its record is offered, a withdrawing spot is deleted, the showing is cleared. -/
def endShowing (z : ZoneIx) (reason : ShowingEnd) (s : State) : State :=
  match (s.rotation.zones[z]).showing with
  | none => s
  | some h =>
    let spot := s.rotation.spot h.spotId
    let s' := offerRecord z reason (spot.elim false Spot.saturated) h s
    let u := s'.rotation.mapZone z fun x => { x with showing := none }
    { s' with rotation := if spot.elim false Spot.withdrawing then u.deleteSpot h.spotId else u }

/-- A zone's list, cursor, sting and pending mark cleared (R122, R129). -/
def SponsorZone.emptied (z : SponsorZone) : SponsorZone :=
  { z with rotation := [], cursor := -1, sting := none, stingPending := false }

/-- Sting pending cleared. -/
def SponsorZone.unpended (z : SponsorZone) : SponsorZone := { z with stingPending := false }

/-- Whether a class matches the game clock (R123, Table 7.5). -/
def SpotClass.matches (c : SpotClass) (g : GameState) : Bool :=
  match c with
  | .any => true
  | .runningOnly => g == .running
  | .stoppedOnly => g != .running

/-- The first of the ordinary ending causes that applies, after the frame is accounted (R123). -/
def endReason (g : GameState) (pending : Bool) (h : Showing) (p : Spot) : Option ShowingEnd :=
  if pending then some .sting
  else if !h.sting && !p.spotClass.matches g then some .clockClass
  else if p.withdrawing then some .withdrawn
  else if p.dwell ≤ h.countedFrames then some .dwellDone
  else if 4 * p.dwell ≤ h.framesOnAir then some .coverLimit
  else none

/-- A showing and its spot put back after accounting. -/
def storeAccount (z : ZoneIx) (h : Showing) (p : Spot) (s : State) : State :=
  { s with
    rotation := (s.rotation.mapZone z fun x => { x with showing := some h }).mapSpot p.id fun _ => p }

/-- The frame accounted to a zone's showing (R123, R133-R136). -/
def accountFrame (z : ZoneIx) (h : Showing) (p : Spot) (s : State) : State :=
  let zr := s.composer.record.zones[z]
  if frameCounts s.composer.record.mode zr p.minVisible then
    let c := frameCredit s.frameTicks zr
    let p1 := p.credited c
    ((storeAccount z (h.credited c) p1.tested s).raiseIf (p.saturates c) .creditSaturated).raiseIf p1.meets .contractMet
  else storeAccount z h.accounted p s

/-- The ordinary ending causes tested against the showing and spot as the accounting left them (R123). -/
def ordinaryEnd (z : ZoneIx) (s : State) : Option ShowingEnd :=
  match (s.rotation.zones[z]).showing with
  | none => none
  | some h =>
    match s.rotation.spot h.spotId with
    | none => none
    | some p => endReason s.clock.game.state (s.rotation.zones[z]).stingPending h p

/-- A showing ended if a reason was found. -/
def endIf (z : ZoneIx) (reason : Option ShowingEnd) (s : State) : State :=
  match reason with
  | some r => endShowing z r s
  | none => s

/-- Accounting and the ordinary causes for one zone, with the reason of the ending, if any (R123). -/
def accountZone (z : ZoneIx) (s : State) : State × Option ShowingEnd :=
  match (s.rotation.zones[z]).showing with
  | none => (s, none)
  | some h =>
    match s.rotation.spot h.spotId with
    | none => (s, none)
    | some p =>
      let s' := accountFrame z h p s
      (endIf z (ordinaryEnd z s') s', ordinaryEnd z s')

/-- A zone marked changed, or not an enabled SPONSOR zone, in the frame record (R122, plan change). -/
def planEnds (zr : ZoneRecord) : Bool := zr.changed || !zr.desc.isOn .sponsor

/-- The ending stage for one zone (R122, R123), with the reason of an ordinary ending. Sting pending is cleared in every zone when
the mode was not NORMAL (DEDUCED, notes/assumptions/16). -/
def endingStage (z : ZoneIx) (s : State) : State × Option ShowingEnd :=
  let zr := s.composer.record.zones[z]
  let s1 := if planEnds zr then endShowing z .planChange s else s
  let s2 := if !zr.desc.isOn .sponsor || zr.resized then { s1 with rotation := s1.rotation.mapZone z SponsorZone.emptied } else s1
  if s.composer.record.mode != .normal then
    let s3 := endShowing z .outputMode s2
    ({ s3 with rotation := s3.rotation.mapZone z SponsorZone.unpended }, none)
  else if planEnds zr then (s2, none)
  else accountZone z s2

/-- The ending stage for zones in turn, with the ordinary endings found. -/
def endingStages : List ZoneIx → State → State × List (ZoneIx × ShowingEnd)
  | [], s => (s, [])
  | z :: rest, s =>
    let r := endingStage z s
    let q := endingStages rest r.1
    (q.1, match r.2 with
      | some reason => (z, reason) :: q.2
      | none => q.2)

/-! ### Selection (R125-R127) -/

/-- A showing begins in a zone with a spot (R127). -/
def beginShowing (z : ZoneIx) (id : Nat) (sting overrun : Bool) (s : State) : State :=
  let h : Showing :=
    { spotId := id, startVenue := s.clock.venue, gameValue := s.clock.game.value, period := s.score.fields[2],
      framesOnAir := 0, countedFrames := 0, credit := 0, sting := sting, overrun := overrun }
  { s with
    rotation := (s.rotation.mapZone z fun x => { x with showing := some h }).mapSpot id
      fun p => { p with showings := saturating 65535 p.showings } }

/-- Whether an entry is eligible (R126): its spot is defined and not withdrawing, its class matches, and it is not on air. (The
selecting zone has no showing, so on air is on air in another zone.) -/
def eligible (s : State) (id : Nat) : Bool :=
  match s.rotation.spot id with
  | some p => !p.withdrawing && p.spotClass.matches s.clock.game.state && !s.rotation.onAir id
  | none => false

/-- Whether a spot is owed. -/
def owedSpot (s : State) (id : Nat) : Bool := (s.rotation.spot id).elim false Spot.owed

/-- The positions of a list of n entries in the order a search visits them (R126). -/
def searchOrder (n : Nat) (cursor : Int) : List Nat := (List.range n).map fun k => ((cursor + 1 + k) % n).toNat

/-- The first visited position whose entry satisfies a test. -/
def firstVisited (rotation : List Nat) (cursor : Int) (test : Nat → Bool) : Option Nat :=
  (searchOrder rotation.length cursor).find? fun pos => (rotation[pos]?).elim false test

/-- An entry taken from the list: the showing begins and the cursor moves there (R126). -/
def takeEntry (z : ZoneIx) (pos : Nat) (overrun : Bool) (s : State) : State :=
  let s' := beginShowing z ((s.rotation.zones[z]).rotation.getD pos 0) false overrun s
  { s' with rotation := s'.rotation.mapZone z fun x => { x with cursor := pos } }

/-- The two passes of the search (R126). -/
def passes (z : ZoneIx) (s : State) : State :=
  let x := s.rotation.zones[z]
  match firstVisited x.rotation x.cursor fun id => eligible s id && owedSpot s id with
  | some pos => takeEntry z pos false s
  | none =>
    match firstVisited x.rotation x.cursor fun id => eligible s id with
    | some pos => takeEntry z pos true s
    | none => s

/-- A zone answers a pending sting, or drops it (R125). -/
def answerSting (z : ZoneIx) (s : State) : State :=
  let s' := { s with rotation := s.rotation.mapZone z SponsorZone.unpended }
  match (s.rotation.zones[z]).sting with
  | some id => if s.rotation.onAir id || (s.rotation.spot id).isNone then passes z s' else beginShowing z id true false s'
  | none => passes z s'

/-- Whether a zone selects (R125). -/
def selects (s : State) (z : ZoneIx) : Bool :=
  (s.composer.record.zones[z]).desc.isOn .sponsor && s.composer.record.mode == .normal && (s.rotation.zones[z]).showing.isNone

/-- The selection stage for one zone (R125). -/
def selectionStage (z : ZoneIx) (s : State) : State :=
  if selects s z then (if (s.rotation.zones[z]).stingPending then answerSting z s else passes z s) else s

/-- The selection stage for zones in turn (R121). -/
def selectionStages : List ZoneIx → State → State
  | [], s => s
  | z :: rest, s => selectionStages rest (selectionStage z s)

/-- The rotation unit's frame work (R121), with the ordinary endings found. -/
def rotationFrameWork (s : State) : State × List (ZoneIx × ShowingEnd) :=
  let r := endingStages allZones s
  (selectionStages allZones r.1, r.2)

/-! ### RESTART (R129) -/

/-- Every showing of the listed zones ended with reason RESTART. -/
def endAllShowings : List ZoneIx → State → State
  | [], s => s
  | z :: rest, s => endAllShowings rest (endShowing z .restart s)

/-- RESTART in the rotation unit (R129). -/
def restartRotation (s : State) : State :=
  let s' := endAllShowings allZones s
  { s' with rotation := s'.rotation.mapZones SponsorZone.emptied }

/-! ### Spot commands (R111-R114, R137) -/

/-- Check 4 of DEFINE_SPOT: a size other than that of a zone whose list or sting names the spot; zones have the size of the live plan
(DEDUCED, notes/assumptions/17). -/
def wrongArtSize (s : State) (id w h : Nat) : Bool :=
  allZones.any fun z => (s.rotation.zones[z]).names id && !(s.composer.live[z]).hasSize w h

/-- A spot newly created (R111). -/
def newSpot (p : SpotPayload) (c : SpotClass) : Spot :=
  { id := p.id.toNat, artBase := p.artBase.toNat, artW := p.artW.toNat, artH := p.artH.toNat, contract := p.contract.toNat,
    dwell := p.dwell.toNat, minVisible := p.minVisible.toNat, spotClass := c, delivered := 0, showings := 0,
    saturated := false, contractMet := false, withdrawing := false }

/-- A spot redefined: totals and saturated mark kept, contract-met kept if the contract is unchanged (R112). -/
def Spot.redefined (p : SpotPayload) (c : SpotClass) (old : Spot) : Spot :=
  { newSpot p c with
    delivered := old.delivered, showings := old.showings, saturated := old.saturated,
    contractMet := old.contractMet && decide (p.contract.toNat = old.contract), withdrawing := old.withdrawing }

/-- The checks of Table 7.2, in order. -/
def spotChecks (s : State) (p : SpotPayload) : List (Bool × ResultCode) :=
  let id := p.id.toNat
  let old := s.rotation.spot id
  [ (decide (id < 1) || decide (p.artW.toNat < 1) || decide (128 < p.artW.toNat) || decide (p.artH.toNat < 1) ||
      decide (48 < p.artH.toNat) || decide (50000 < p.contract.toNat) || decide (p.dwell.toNat < 30) ||
      decide (3000 < p.dwell.toNat) || decide (100 < p.minVisible.toNat), .outOfRange),
    (!aligned4K p.artBase.toNat || !s.belowControl p.artBase.toNat (imageBytes p.artW.toNat p.artH.toNat), .outOfRange),
    (old.isSome && (s.rotation.onAir id || old.elim false Spot.withdrawing), .wrongState),
    (old.isSome && wrongArtSize s id p.artW.toNat p.artH.toNat, .sizeMismatch),
    (old.isNone && decide (Config.spotPlaces ≤ s.rotation.spots.length), .full) ]

/-- DEFINE_SPOT (R111, R112). -/
def ruleDefineSpot (p : SpotPayload) : CommandRule := fun s =>
  match spotClass p.spotClass with
  | none => refuse .outOfRange s
  | some c =>
    checked (spotChecks s p) s
      (if (s.rotation.spot p.id.toNat).isSome then
        ({ s with rotation := s.rotation.mapSpot p.id.toNat (Spot.redefined p c) }, { code := .ok, detail := 1 })
      else
        ({ s with rotation := { s.rotation with spots := insertSpot (newSpot p c) s.rotation.spots } }, { code := .ok }))

/-- The cursor after the entries of a spot are removed from a list (R117). -/
def closedCursor (rotation : List Nat) (cursor : Int) (id : Nat) : Int :=
  if cursor < 0 then -1 else (((rotation.take (cursor.toNat + 1)).filter fun x => x != id).length : Int) - 1

/-- A spot removed from a zone's list and sting (R113 steps 1 and 2, R117). -/
def SponsorZone.without (id : Nat) (z : SponsorZone) : SponsorZone :=
  { z with
    rotation := z.rotation.filter fun x => x != id
    cursor := if z.rotation.contains id then closedCursor z.rotation z.cursor id else z.cursor
    sting := if z.sting = some id then none else z.sting
    stingPending := if z.sting = some id then false else z.stingPending }

/-- WITHDRAW_SPOT (R113). -/
def ruleWithdrawSpot (id : Byte) : CommandRule := fun s =>
  match s.rotation.spot id.toNat with
  | none => refuse .notFound s
  | some p =>
    if p.withdrawing then (s, Result.plain .ok)
    else
      let u := s.rotation.mapZones (SponsorZone.without id.toNat)
      if s.rotation.onAir id.toNat then
        ({ s with rotation := u.mapSpot id.toNat fun x => { x with withdrawing := true } }, { code := .ok, detail := 1 })
      else ({ s with rotation := u.deleteSpot id.toNat }, Result.plain .ok)

/-- SET_CONTRACT (R114). Where the id is not defined and the seconds are above 50,000 the answer is NOT_FOUND (DESIGN CHOICE,
notes/assumptions/36). -/
def ruleSetContract (id : Byte) (seconds : Word) : CommandRule := fun s =>
  checked [ ((s.rotation.spot id.toNat).isNone, .notFound), (decide (50000 < seconds.toNat), .outOfRange) ] s
    ({ s with
        rotation := s.rotation.mapSpot id.toNat fun p => { p with contract := seconds.toNat, contractMet := false } },
      Result.plain .ok)

/-- A spot's totals and marks cleared (R137). -/
def Spot.cleared (p : Spot) : Spot := { p with delivered := 0, showings := 0, saturated := false, contractMet := false }

/-- The S of a zone's showing cleared if its spot is reached (R137). -/
def SponsorZone.clearedCredit (reach : Nat → Bool) (z : SponsorZone) : SponsorZone :=
  { z with showing := z.showing.map fun h => if reach h.spotId then { h with credit := 0 } else h }

/-- RESET_TOTALS (R137). -/
def ruleResetTotals (id : Byte) : CommandRule := fun s =>
  let reach (x : Nat) : Bool := id.toNat == 0 || x == id.toNat
  checked [ (id.toNat != 0 && (s.rotation.spot id.toNat).isNone, .notFound) ] s
    ({ s with
        rotation := { s.rotation.mapZones (SponsorZone.clearedCredit reach) with
          spots := s.rotation.spots.map fun p => if reach p.id then p.cleared else p } },
      { code := .ok, detail := (s.rotation.spots.filter fun p => reach p.id).length })

/-! ### Rotation lists and stings (R116, R118) -/

/-- Whether an id is not defined, or is withdrawing. -/
def unusable (s : State) (id : Nat) : Bool := (s.rotation.spot id).elim true Spot.withdrawing

/-- Whether an id's spot has art of another size than a zone of the live plan. -/
def unfitting (s : State) (z : ZoneIx) (id : Nat) : Bool :=
  (s.rotation.spot id).elim false fun p => !(s.composer.live[z]).hasSize p.artW p.artH

/-- SET_ROTATION (R116). -/
def ruleSetRotation (zone count : Byte) (ids : List Byte) : CommandRule := fun s =>
  match zoneIx zone with
  | none => refuse .outOfRange s
  | some z =>
    let list := (payloadTake ids count.toNat).map BitVec.toNat
    checked
      [ (decide (16 < count.toNat), .outOfRange),
        (!(s.composer.live[z]).isOn .sponsor, .noZone),
        (list.any (unusable s), .notFound),
        (list.any (unfitting s z), .sizeMismatch) ]
      s
      ({ s with rotation := s.rotation.mapZone z fun x => { x with rotation := list, cursor := -1 } },
        { code := .ok, detail := count.toNat })

/-- SET_STING (R118); id 0 is none. Of several refusals the one that R118 names first is answered (DESIGN CHOICE, notes/assumptions/37). -/
def ruleSetSting (zone id : Byte) : CommandRule := fun s =>
  match zoneIx zone with
  | none => refuse .outOfRange s
  | some z =>
    checked
      [ (!(s.composer.live[z]).isOn .sponsor, .noZone),
        (id.toNat != 0 && unusable s id.toNat, .notFound),
        (id.toNat != 0 && unfitting s z id.toNat, .sizeMismatch) ]
      s
      ({ s with
          rotation := s.rotation.mapZone z fun x =>
            if id.toNat = 0 then { x with sting := none, stingPending := false } else { x with sting := some id.toNat } },
        Result.plain .ok)

/-! ### Meanings -/

/-- DEFINE_SPOT. -/
def execDefineSpot (slot : RingSlot) (payload : SpotPayload) (s : State) : Host.Outcome State Fault Refusal :=
  hostCommand slot (ruleDefineSpot payload) s

/-- WITHDRAW_SPOT. -/
def execWithdrawSpot (slot : RingSlot) (id : Byte) (s : State) : Host.Outcome State Fault Refusal :=
  hostCommand slot (ruleWithdrawSpot id) s

/-- SET_ROTATION. -/
def execSetRotation (slot : RingSlot) (zone count : Byte) (ids : List Byte) (s : State) : Host.Outcome State Fault Refusal :=
  hostCommand slot (ruleSetRotation zone count ids) s

/-- SET_STING. -/
def execSetSting (slot : RingSlot) (zone id : Byte) (s : State) : Host.Outcome State Fault Refusal :=
  hostCommand slot (ruleSetSting zone id) s

/-- SET_CONTRACT. -/
def execSetContract (slot : RingSlot) (id : Byte) (seconds : Word) (s : State) : Host.Outcome State Fault Refusal :=
  hostCommand slot (ruleSetContract id seconds) s

/-- RESET_TOTALS. -/
def execResetTotals (slot : RingSlot) (id : Byte) (s : State) : Host.Outcome State Fault Refusal :=
  hostCommand slot (ruleResetTotals id) s

end Sys2Proof.Machine
end

