-- ==== Sys2Proof/Machine/Score.lean ====
section
/-! DEFINITION. The score unit (Chapter 6): the score commands, the flash, and the rendering of the scorebug. -/

namespace Sys2Proof.Machine

/-! ### The record (R100, Table 6.1) -/

/-- The largest value of a field's range; every range begins at 0. -/
def fieldMax (f : Fin 10) : Nat :=
  match f with
  | 0 => 999
  | 1 => 999
  | 2 => 9
  | 3 => 2
  | 4 => 9
  | 5 => 9
  | 6 => 99
  | 7 => 99
  | 8 => 1
  | 9 => 1

/-- Whether a field is a choice field (POSSESSION and the two bonus fields). -/
def isChoiceField (f : Fin 10) : Bool := f == 3 || f == 8 || f == 9

/-- The score field a byte names, if it is one. -/
def scoreField (b : Byte) : Option (Fin 10) := if h : b.toNat < 10 then some ⟨b.toNat, h⟩ else none

/-- A value clamped to a field's range (R101, R102). -/
def clampField (f : Fin 10) (v : Int) : Nat := (max 0 (min (fieldMax f : Int) v)).toNat

/-- OK, or CLAMPED for a value outside the field's range. -/
def clampResult (f : Fin 10) (v : Int) : Result :=
  Result.plain (if v < 0 ∨ (fieldMax f : Int) < v then .clamped else .ok)

/-! ### Changes (R103, R119) -/

/-- A score rise handed to the rotation unit: sting pending in every zone whose sting is a spot (R119). -/
def SponsorZone.onRise (z : SponsorZone) : SponsorZone := if z.sting.isSome then { z with stingPending := true } else z

/-- A score rise (R119). -/
def scoreRise (s : State) : State :=
  { s with rotation := { s.rotation with zones := Vector.ofFn fun z : ZoneIx => (s.rotation.zones[z]).onRise } }

/-- The flash counter of a score field set to the flash length (R103). -/
def ScoreUnit.startFlash (f : Fin 10) (u : ScoreUnit) : ScoreUnit :=
  if f = 0 then { u with homeFlash := u.flashLength }
  else if f = 1 then { u with guestFlash := u.flashLength }
  else u

/-- A value stored into a field, and what the change causes (R103). -/
def storeScore (f : Fin 10) (v : Nat) (s : State) : State :=
  let old := s.score.fields[f]
  let u : ScoreUnit := { s.score with fields := s.score.fields.set f.val v f.isLt }
  if f = 0 ∨ f = 1 then
    if old < v then scoreRise (fireCapture .scoreChange { s with score := u.startFlash f })
    else if v < old then fireCapture .scoreChange { s with score := u }
    else { s with score := u }
  else { s with score := u }

/-- SET_SCORE (R101). -/
def ruleSetScore (field : Byte) (value : Word) : CommandRule := fun s =>
  match scoreField field with
  | some f => (storeScore f (clampField f value.toInt) s, clampResult f value.toInt)
  | none => refuse .outOfRange s

/-- ADD_SCORE (R102). -/
def ruleAddScore (field : Byte) (delta : Word) : CommandRule := fun s =>
  match scoreField field with
  | some f =>
    if isChoiceField f then refuse .outOfRange s
    else if delta.toInt < -99 ∨ 99 < delta.toInt then refuse .outOfRange s
    else
      let sum : Int := (s.score.fields[f] : Int) + delta.toInt
      (storeScore f (clampField f sum) s, clampResult f sum)
  | none => refuse .outOfRange s

/-! ### The flash (R104, R105) -/

/-- SET_FLASH (R104). -/
def ruleSetFlash (frames : Half) : CommandRule := fun s =>
  checked [ (decide (255 < frames.toNat), .outOfRange) ] s
    ({ s with score := { s.score with flashLength := frames.toNat } }, Result.plain .ok)

/-- The fall of both counters at a FRAME_END (R104). -/
def ScoreUnit.flashFall (u : ScoreUnit) : ScoreUnit :=
  { u with homeFlash := u.homeFlash - 1, guestFlash := u.guestFlash - 1 }

/-- Whether a field with a flash counter is rendered reversed (R105). -/
def flashReversed (counter : Nat) : Bool := decide (0 < counter) && (counter - 1) / 8 % 2 == 0

/-! ### The rendering (R106-R108) -/

/-- A run of characters in a row of the scorebug. -/
structure ScoreText where
  row : Nat
  start : Nat
  chars : List Byte
  reversed : Bool
  deriving DecidableEq, Repr

/-- What a run of characters places at a row and position, if anything. -/
def ScoreText.glyphAt (t : ScoreText) (row pos : Nat) : Option ScoreGlyph :=
  if t.row = row ∧ t.start ≤ pos then (t.chars[pos - t.start]?).map fun c => { code := c, reversed := t.reversed } else none

/-- A number right-aligned in places from `start` on (R108). -/
def placedNumber (row start places v : Nat) (reversed : Bool) : ScoreText :=
  { row := row, start := start + places - (decimal v).length, chars := decimal v, reversed := reversed }

/-- A text centred in its row (R108). -/
def centredText (row : Nat) (chars : List Byte) : ScoreText :=
  { row := row, start := (32 - chars.length) / 2, chars := chars, reversed := false }

/-- One character, if it is shown. -/
def shownChar (row pos : Nat) (shown : Bool) (c : Byte) : ScoreText :=
  { row := row, start := pos, chars := if shown then [c] else [], reversed := false }

/-- The fields of Table 6.3 in their places. -/
def scorebugTexts (u : ScoreUnit) (c : ClockUnit) : List ScoreText :=
  [ placedNumber 0 2 3 u.fields[0] (flashReversed u.homeFlash),
    placedNumber 0 16 1 u.fields[2] false,
    placedNumber 0 27 3 u.fields[1] (flashReversed u.guestFlash),
    centredText 1 c.game.text,
    placedNumber 2 1 1 u.fields[4] false,
    placedNumber 2 3 2 u.fields[6] false,
    shownChar 2 6 (u.fields[8] == 1) 0x42,
    shownChar 2 12 (u.fields[3] == 1) 0x3C,
    centredText 2 (c.shotText.getD []),
    shownChar 2 19 (u.fields[3] == 2) 0x3E,
    shownChar 2 25 (u.fields[9] == 1) 0x42,
    placedNumber 2 27 2 u.fields[7] false,
    placedNumber 2 30 1 u.fields[5] false ]

/-- The rendering of the scorebug from the score record, the flash counters and the two clock texts (R106). -/
def renderScorebug (u : ScoreUnit) (c : ClockUnit) : ScorebugImage :=
  Vector.ofFn fun i : Fin 96 => (scorebugTexts u c).findSome? fun t => t.glyphAt (i.val / 32) (i.val % 32)

/-! ### Meanings -/

/-- SET_SCORE. -/
def execSetScore (slot : RingSlot) (field : Byte) (value : Word) (s : State) : Host.Outcome State Fault Refusal :=
  hostCommand slot (ruleSetScore field value) s

/-- ADD_SCORE. -/
def execAddScore (slot : RingSlot) (field : Byte) (delta : Word) (s : State) : Host.Outcome State Fault Refusal :=
  hostCommand slot (ruleAddScore field delta) s

/-- SET_FLASH. -/
def execSetFlash (slot : RingSlot) (frames : Half) (s : State) : Host.Outcome State Fault Refusal :=
  hostCommand slot (ruleSetFlash frames) s

end Sys2Proof.Machine
end

