-- ==== Sys2Proof/Machine/Ticker.lean ====
section
/-! DEFINITION. The ticker unit (Chapter 9): entries, the text pool, the waiting order, the frame work, and the message commands. -/

namespace Sys2Proof.Machine

/-! ### Entries (R148-R150) -/

/-- The chunks a text of n characters holds: ceil(n / 32) (R149). -/
def chunksFor (n : Nat) : Nat := (n + 31) / 32

/-- The chunks an entry holds. -/
def TickerEntry.chunks (e : TickerEntry) : Nat := chunksFor e.text.length

/-- Whether an entry has expired at a venue time (R148). -/
def TickerEntry.expired (e : TickerEntry) (venue : Word) : Bool :=
  match e.expiry with
  | some x => decide ((venue - x).toNat < 2147483648)
  | none => false

/-- Whether an entry is eligible (R150). -/
def TickerEntry.eligible (e : TickerEntry) (g : GameState) : Bool := !(e.stoppageOnly && g == .running)

/-- How long ago an order number was issued, against the next order number (R150). -/
def orderAge (next a : Word) : Nat := (next - a).toNat

/-- Whether an entry stands before another in waiting order: higher priority, or the same and older (R150). -/
def TickerEntry.before (next : Word) (a b : TickerEntry) : Bool :=
  decide (b.priority < a.priority) || (a.priority == b.priority && decide (orderAge next b.order < orderAge next a.order))

/-- An entry put in its place in waiting order, the ages counted from `next` (R150). -/
def insertWaiting (next : Word) (e : TickerEntry) : List TickerEntry → List TickerEntry
  | [] => [e]
  | x :: rest => if e.before next x then e :: x :: rest else x :: insertWaiting next e rest

/-- An entry joins the waiting list: it takes the next order number, its place is found by the ages of that moment, in which its own is 0, and the
next order number then rises, so that it stands behind every entry of its priority (R150). Where the risen number is one still held, the list
keeps the order of issue (DESIGN CHOICE, notes/assumptions/38). -/
def TickerUnit.joinWaiting (e : TickerEntry) (t : TickerUnit) : TickerUnit :=
  { t with
    waiting := insertWaiting t.nextOrder { e with order := t.nextOrder } t.waiting
    nextOrder := t.nextOrder + 1 }

/-- The entries held, waiting and showing together (R147). -/
def TickerUnit.heldCount (t : TickerUnit) : Nat := t.waiting.length + (if t.showing.isSome then 1 else 0)

/-- Whether the showing entry has a tag. -/
def TickerUnit.showsTag (t : TickerUnit) (tag : Nat) : Bool := t.showing.elim false fun x => x.entry.tag == tag

/-- Whether an entry waiting or showing has a tag. -/
def TickerUnit.holdsTag (t : TickerUnit) (tag : Nat) : Bool := t.waiting.any (fun e => e.tag == tag) || t.showsTag tag

/-! ### Removals (R155) -/

/-- A removal's effects but for the entry's leaving its place: chunks back to the pool, last removed, MESSAGE_DONE. -/
def noteRemoval (e : TickerEntry) (reason : RemovalReason) (s : State) : State :=
  { s with
    ticker := { s.ticker with
      freeChunks := s.ticker.freeChunks + e.chunks
      lastRemoved := some (e.tag, reason) } }.raise .messageDone

/-- Removals noted for entries in turn. -/
def noteRemovals (reason : RemovalReason) : List TickerEntry → State → State
  | [], s => s
  | e :: rest, s => noteRemovals reason rest (noteRemoval e reason s)

/-- The showing entry replaced or taken away. -/
def setShowing (x : Option ShowingEntry) (s : State) : State := { s with ticker := { s.ticker with showing := x } }

/-- The showing entry removed with a reason (R155). -/
def removeShowing (reason : RemovalReason) (s : State) : State :=
  match s.ticker.showing with
  | some x => noteRemoval x.entry reason (setShowing none s)
  | none => s

/-- The waiting entries that satisfy a test removed, in waiting order, with a reason (R155). -/
def removeWaiting (test : TickerEntry → Bool) (reason : RemovalReason) (s : State) : State :=
  noteRemovals reason (s.ticker.waiting.filter test)
    { s with ticker := { s.ticker with waiting := s.ticker.waiting.filter fun e => !test e } }

/-- The reason a cancel pending holds. -/
def CancelReason.removal : CancelReason → RemovalReason
  | .cancelled => .cancelled
  | .cleared => .cleared

/-! ### The frame work (R156-R160) -/

/-- What came about in the ticker's frame work: an entry found expired, and a pass end. -/
structure TickerEvents where
  expiry : Bool
  passEnd : Bool
  deriving DecidableEq, Repr

/-- Step 1, first part: a showing entry with cancel pending is removed (R156). -/
def tickerCancels (s : State) : State :=
  match s.ticker.showing with
  | some x =>
    match x.cancel with
    | some c => removeShowing c.removal s
    | none => s
  | none => s

/-- The enabled TICKER zone of the frame record, if it has one. -/
def State.tickerZone (s : State) : Option ZoneRecord := s.composer.record.zoneOn .ticker

/-- Whether some entry is removed or marked by the expiry step of this frame work (R157). -/
def expiryDue (s : State) : Bool :=
  s.ticker.waiting.any (fun e => e.expired s.clock.venue) ||
  s.ticker.showing.elim false fun x => if x.lastPass then s.tickerZone.isNone else x.entry.expired s.clock.venue

/-- Expiry of the showing entry: last-pass is set, and the entry is removed at once if the record has no enabled TICKER zone (R157). -/
def expireShowing (s : State) : State :=
  match s.ticker.showing with
  | some x =>
    let marked := x.lastPass || x.entry.expired s.clock.venue
    let s' := setShowing (some { x with lastPass := marked }) s
    if marked && s.tickerZone.isNone then removeShowing .expired s' else s'
  | none => s

/-- The expiry step (R157): the waiting entries first and then the showing one, in the order of R157's list (DEDUCED,
notes/assumptions/35). -/
def tickerExpiry (s : State) : State := expireShowing (removeWaiting (fun e => e.expired s.clock.venue) .expired s)

/-- Whether a zone was seen whole, so that the crawl may move (R158). -/
def crawlZone (r : FrameRecord) (z : ZoneRecord) : Bool :=
  r.mode == .normal && z.active && !z.inLeadIn && z.visible == z.desc.cells

/-- The lowest position reached and the pass over: the last character has left the zone's left edge (R158). -/
def ShowingEntry.passOver (x : ShowingEntry) : Bool := decide (x.position + 16 * (x.entry.text.length : Int) ≤ 0)

/-- The showing entry returned to the waiting list (R158, R159). -/
def returnShowing (x : ShowingEntry) (s : State) : State :=
  { s with ticker := { s.ticker with showing := none }.joinWaiting x.entry }

/-- The entry with a pass counted: passes shown, and repeats remaining unless continuous (R158 step 1). -/
def TickerEntry.passCounted (e : TickerEntry) : TickerEntry :=
  { e with passes := saturating 65535 e.passes, repeats := e.repeats - 1 }

/-- A pass end (R158 steps 1 to 4); `w` is the TICKER zone's width in the frame record. -/
def passEnd (x : ShowingEntry) (w : Nat) (s : State) : State :=
  let y : ShowingEntry := { x with entry := x.entry.passCounted }
  let s' := setShowing (some y) s
  if x.entry.repeats ≠ 0 ∧ y.entry.repeats = 0 then removeShowing .done s'
  else if x.lastPass then removeShowing .expired s'
  else if s.ticker.waiting.any fun e => e.eligible s.clock.game.state && decide (x.entry.priority ≤ e.priority) then
    returnShowing y s'
  else setShowing (some { y with position := 32 * (w : Int) + s.ticker.gap }) s'

/-- The advance step (R158), with whether a pass ended. -/
def tickerAdvance (s : State) : State × Bool :=
  match s.ticker.showing, s.tickerZone with
  | some x, some z =>
    if crawlZone s.composer.record z then
      let y : ShowingEntry := { x with position := x.position - s.ticker.speed }
      if y.passOver then (passEnd y z.desc.w.toNat (setShowing (some y) s), true) else (setShowing (some y) s, false)
    else (s, false)
  | _, _ => (s, false)

/-- Whether a waiting entry of priority 3 is eligible (R159). -/
def urgentWaiting (s : State) : Bool :=
  s.ticker.waiting.any fun e => e.priority == 3 && e.eligible s.clock.game.state

/-- The cuts (R159). -/
def tickerCuts (s : State) : State :=
  match s.ticker.showing with
  | some x =>
    if !x.entry.eligible s.clock.game.state || (decide (x.entry.priority < 3) && urgentWaiting s) then returnShowing x s
    else s
  | none => s

/-- The taking step (R160). -/
def tickerTaking (s : State) : State :=
  match s.ticker.showing, s.tickerZone with
  | none, some z =>
    match s.ticker.waiting.find? fun e => e.eligible s.clock.game.state with
    | some e =>
      { s with
        ticker := { s.ticker with
          waiting := s.ticker.waiting.erase e
          showing := some { entry := e, position := 32 * (z.desc.w.toNat : Int), lastPass := false, cancel := none } } }
    | none => s
  | _, _ => s

/-- The ticker unit's frame work, its four steps in order (R156). -/
def tickerFrameWork (s : State) : State × TickerEvents :=
  let s1 := tickerCancels s
  let r := tickerAdvance (tickerExpiry s1)
  (tickerTaking (tickerCuts r.1), { expiry := expiryDue s1, passEnd := r.2 })

/-! ### Commands (R151-R154) -/

/-- The expiry a lifetime of seconds gives (R148). -/
def expiryOf (venue : Word) (lifetime : Nat) : Option Word :=
  if lifetime = 0 then none else some (venue + BitVec.ofNat 32 (lifetime * 1000))

/-- The entry a POST_MESSAGE forms (R151), before its order number. -/
def postedEntry (venue : Word) (p : MessagePayload) (stoppageOnly : Bool) : TickerEntry :=
  { tag := p.tag.toNat, priority := p.priority.toNat, repeats := p.repeats.toNat, expiry := expiryOf venue p.lifetime.toNat,
    stoppageOnly := stoppageOnly, order := 0, text := payloadTake p.text p.length.toNat, passes := 0 }

/-- POST_MESSAGE (R151). -/
def rulePostMessage (p : MessagePayload) : CommandRule := fun s =>
  match onOff p.stoppageOnly with
  | none => refuse .outOfRange s
  | some only =>
    if p.tag.toNat = 0 ∨ 3 < p.priority.toNat ∨ 15 < p.repeats.toNat ∨ 3600 < p.lifetime.toNat ∨ p.length.toNat = 0 ∨
        200 < p.length.toNat then refuse .outOfRange s
    else if s.ticker.holdsTag p.tag.toNat then refuse .alreadyExists s
    else if Config.messagePlaces ≤ s.ticker.heldCount then (s, { code := .full, detail := 1 })
    else if s.ticker.freeChunks < chunksFor p.length.toNat then (s, { code := .full, detail := 2 })
    else
      let free := s.ticker.freeChunks - chunksFor p.length.toNat
      ({ s with
          ticker := { s.ticker with freeChunks := free }.joinWaiting (postedEntry s.clock.venue p only) },
        { code := .ok, detail := free })

/-- CANCEL_MESSAGE (R152). A showing entry whose cancel pending is set is left as it is. -/
def ruleCancelMessage (tag : Half) : CommandRule := fun s =>
  if tag.toNat = 0 then refuse .notFound s
  else if s.ticker.waiting.any fun e => e.tag == tag.toNat then
    (removeWaiting (fun e => e.tag == tag.toNat) .cancelled s, Result.plain .ok)
  else
    match s.ticker.showing with
    | some x =>
      if x.entry.tag = tag.toNat then
        (setShowing (some { x with cancel := some (x.cancel.getD .cancelled) }) s, { code := .ok, detail := 1 })
      else refuse .notFound s
    | none => refuse .notFound s

/-- CLEAR_MESSAGES (R153). Its removals follow one another in waiting order, so the last of that order is the last removed (DESIGN CHOICE,
notes/assumptions/40). -/
def ruleClearMessages : CommandRule := fun s =>
  let s' := removeWaiting (fun _ => true) .cleared s
  (setShowing (s'.ticker.showing.map fun x => { x with cancel := some .cleared }) s',
    { code := .ok, detail := s.ticker.heldCount })

/-- SET_TICKER (R154). -/
def ruleSetTicker (speed : Byte) (gap : Half) : CommandRule := fun s =>
  checked [ (decide (speed.toNat < 1) || decide (16 < speed.toNat) || decide (4095 < gap.toNat), .outOfRange) ] s
    ({ s with ticker := { s.ticker with speed := speed.toNat, gap := gap.toNat } }, Result.plain .ok)

/-- RESTART in the ticker unit (R162). -/
def TickerUnit.restarted (t : TickerUnit) : TickerUnit :=
  { t with waiting := [], showing := none, freeChunks := Config.poolChunks }

/-! ### Meanings -/

/-- POST_MESSAGE. -/
def execPostMessage (slot : RingSlot) (payload : MessagePayload) (s : State) : Host.Outcome State Fault Refusal :=
  hostCommand slot (rulePostMessage payload) s

/-- CANCEL_MESSAGE. -/
def execCancelMessage (slot : RingSlot) (tag : Half) (s : State) : Host.Outcome State Fault Refusal :=
  hostCommand slot (ruleCancelMessage tag) s

/-- CLEAR_MESSAGES. -/
def execClearMessages (slot : RingSlot) (s : State) : Host.Outcome State Fault Refusal := hostCommand slot ruleClearMessages s

/-- SET_TICKER. -/
def execSetTicker (slot : RingSlot) (speed : Byte) (gap : Half) (s : State) : Host.Outcome State Fault Refusal :=
  hostCommand slot (ruleSetTicker speed gap) s

end Sys2Proof.Machine
end

