-- ==== Sys2Proof/Machine/Composition.lean ====
section
/-! DEFINITION. The composer's work at FRAME_START (R6, R8, R12-R17, R21): the plan transfer, activity, lead-in, cell ownership and
visible counts, draw states, the frame record, and the replay pins. -/

namespace Sys2Proof.Machine

/-! ### The plan transfer (R6) -/

/-- Marked changed: enable, source, w, h or source parameter differ (R6). -/
def ZoneDesc.changedTo (old new : ZoneDesc) : Bool :=
  old.enable != new.enable || old.source != new.source || old.w != new.w || old.h != new.h || old.param != new.param

/-- Marked resized: an enabled SPONSOR zone before and after, whose w or h differ (R6). -/
def ZoneDesc.resizedTo (old new : ZoneDesc) : Bool :=
  old.isOn .sponsor && new.isOn .sponsor && (old.w != new.w || old.h != new.h)

/-- Whether a zone is marked changed at this FRAME_START; none is with the apply request clear (R6). -/
def Composer.marksChanged (c : Composer) (z : ZoneIx) : Bool := c.applyRequest && (c.live[z]).changedTo c.staged[z]

/-- Whether a zone is marked resized at this FRAME_START (R6). -/
def Composer.marksResized (c : Composer) (z : ZoneIx) : Bool := c.applyRequest && (c.live[z]).resizedTo c.staged[z]

/-- The live plan after the transfer, if one is made (R6). -/
def Composer.planNext (c : Composer) : Plan := if c.applyRequest then c.staged else c.live

/-! ### Activity and lead-in (R13, R14) -/

/-- Whether an enabled zone is active, by its source (R13, Table 1.4). -/
def sourceActive (s : State) (src : ZoneSource) : Bool :=
  match src with
  | .fill => true
  | .slate => true
  | .sponsor => true
  | .scorebug => true
  | .replay => s.roller.state != .idle
  | .ticker => s.ticker.showing.isSome
  | .unknown _ => false

/-- Whether a zone of the live plan is active (R13). -/
def zoneActive (s : State) (d : ZoneDesc) : Bool := d.enable && sourceActive s d.source

/-- Whether the mode in force becomes NORMAL from another mode at this FRAME_START (R14). -/
def Composer.returnsToNormal (c : Composer) : Bool := c.record.mode != .normal && c.requestedMode == .normal

/-- A lead-in counter at this FRAME_START (R14). -/
def nextLeadIn (c : Composer) (z : ZoneIx) (active : Bool) : Nat :=
  if !active then 0
  else if !(c.record.zones[z]).active || c.marksChanged z || c.returnsToNormal then (c.planNext[z]).leadIn.toNat
  else c.leadIn[z] - 1

/-! ### Cell ownership (R15) -/

/-- A zone's rank in draw order: SCOREBUG zones after all others, by index; the others by level and then index (R15). -/
def drawRank (d : ZoneDesc) (z : ZoneIx) : Nat := if d.source = .scorebug then 4096 + z.val else 16 * d.level.toNat + z.val

/-- The active zones in ascending index: what composes the wall. -/
def activeZones (active : Vector Bool 16) : List ZoneIx := allZones.filter fun z => active[z]

/-- The later of two zones in draw order. -/
def laterDrawn (plan : Plan) (best : Option ZoneIx) (z : ZoneIx) : Option ZoneIx :=
  match best with
  | none => some z
  | some b => if drawRank plan[b] b < drawRank plan[z] z then some z else some b

/-- The owner of a cell among zones: the last in draw order whose rectangle contains it, or none (R15). -/
def cellOwner (plan : Plan) (zones : List ZoneIx) (cx cy : Nat) : Option ZoneIx :=
  (zones.filter fun z => (plan[z]).contains cx cy).foldl (laterDrawn plan) none

/-- The owners of the cells of one row of the wall, from column 0. -/
def rowOwners (plan : Plan) (zones : List ZoneIx) (w cy : Nat) : List (Option ZoneIx) :=
  (List.range w).map fun cx => cellOwner plan zones cx cy

/-- The owners of all cells of a wall of w x h cells. -/
def wallOwners (plan : Plan) (zones : List ZoneIx) (w h : Nat) : List (Option ZoneIx) :=
  (List.range h).flatMap fun cy => rowOwners plan zones w cy

/-- The visible counts: the cells each zone owns, none unless the mode is NORMAL (R15). -/
def visibleCounts (mode : OutputMode) (plan : Plan) (active : Vector Bool 16) (w h : Nat) : Vector Nat 16 :=
  if mode = .normal then
    let owners := wallOwners plan (activeZones active) w h
    Vector.ofFn fun z : ZoneIx => owners.count (some z)
  else Vector.replicate 16 0

/-! ### Draw states (R17) -/

/-- The art of the spot on air in a zone, if any (R17, R120). -/
def artOnAir (s : State) (z : ZoneIx) : Option ArtImage :=
  match (s.rotation.zones[z]).showing with
  | some h => (s.rotation.spot h.spotId).map fun p => { base := p.artBase, w := p.artW, h := p.artH }
  | none => none

/-- A frame with the slot that holds it (R17). -/
def Intake.shown (n : Intake) (f : Word) : Option ShownFrame := (n.slotOf f).map fun k => { frame := f, slot := k }

/-- The show plan as sampled, each frame with its slot (R17). -/
def sampleReplay (s : State) : Option ReplayDraw :=
  match s.roller.showPlan with
  | some p => (s.intake.shown p.a).map fun a => { a := a, b := p.b.bind s.intake.shown, w16 := p.w16 }
  | none => none

/-- The ticker's draw state (R161). -/
def sampleTicker (s : State) : DrawState :=
  match s.ticker.showing with
  | some x => .ticker { text := x.entry.text, position := x.position, priority := x.entry.priority }
  | none => .nothing

/-- The draw state of an active zone (R17). -/
def drawState (s : State) (z : ZoneIx) (d : ZoneDesc) : DrawState :=
  match d.source with
  | .fill =>
    match d.param with
    | .colour c => .fill c
    | .absent => .nothing
    | .base _ => .nothing
    | .raw _ => .nothing
  | .slate =>
    match d.param with
    | .base b => .slate b.toNat
    | .absent => .nothing
    | .colour _ => .nothing
    | .raw _ => .nothing
  | .sponsor => .sponsor (artOnAir s z)
  | .replay => .replay (sampleReplay s)
  | .scorebug => .scorebug (renderScorebug s.score s.clock)
  | .ticker => sampleTicker s
  | .unknown _ => .nothing

/-! ### The frame record (R12, R16) -/

/-- The record of one zone. -/
def zoneRecord (s : State) (visible : Vector Nat 16) (z : ZoneIx) : ZoneRecord :=
  let c := s.composer
  let d := c.planNext[z]
  let active := zoneActive s d
  { desc := d
    active := active
    inLeadIn := decide (0 < nextLeadIn c z active)
    changed := c.marksChanged z
    resized := c.marksResized z
    visible := visible[z]
    draw := if active then some (drawState s z d) else none }

/-- The activity of each zone at this FRAME_START. -/
def activity (s : State) : Vector Bool 16 := Vector.ofFn fun z : ZoneIx => zoneActive s s.composer.planNext[z]

/-- The frame record built at a FRAME_START (R12 steps 1 to 8). -/
def buildRecord (s : State) : FrameRecord :=
  let c := s.composer
  let visible := visibleCounts c.requestedMode c.planNext (activity s) c.screenW c.screenH
  { frame := s.timing.frameNumber + 1
    mode := c.requestedMode
    w := c.screenW
    h := c.screenH
    slate := c.slate
    font := c.font
    zones := Vector.ofFn fun z : ZoneIx => zoneRecord s visible z }

/-! ### Pins (R21) -/

/-- The slots of the frames a REPLAY zone draws. -/
def ReplayDraw.slots (r : ReplayDraw) : List Nat :=
  r.a.slot :: (match r.b with
    | some b => [b.slot]
    | none => [])

/-- The slots of the replay frames a record's draw states name. -/
def recordSlots (r : FrameRecord) : List Nat :=
  match r.zoneOn .replay with
  | some z =>
    match z.draw with
    | some (.replay (some d)) => d.slots
    | _ => []
  | none => []

/-- A pin count changed. -/
def Intake.mapPins (f : Nat → Nat) (k : Nat) (n : Intake) : Intake :=
  { n with slots := n.slots.modify k fun r => { r with pins := f r.pins } }

/-- Slots pinned. -/
def Intake.pinAll : List Nat → Intake → Intake
  | [], n => n
  | k :: rest, n => Intake.pinAll rest (n.mapPins (fun p => p + 1) k)

/-- Pins released. -/
def Intake.releaseAll : List Nat → Intake → Intake
  | [], n => n
  | k :: rest, n => Intake.releaseAll rest (n.mapPins (fun p => p - 1) k)

/-! ### The composer's work (R12) -/

/-- The zones whose running lead-in ends at this FRAME_START: the counter was above 0 and the zone, still active, now shows its
content (R14). -/
def leadInEnds (s : State) : List ZoneIx :=
  let active := activity s
  allZones.filter fun z => active[z] && decide (0 < s.composer.leadIn[z]) && decide (nextLeadIn s.composer z active[z] = 0)

/-- The composer after its work at a FRAME_START. -/
def composerNext (s : State) (r : FrameRecord) : Composer :=
  let active := activity s
  { s.composer with
    live := s.composer.planNext
    applyRequest := false
    leadIn := Vector.ofFn fun z : ZoneIx => nextLeadIn s.composer z active[z]
    pins := recordSlots r
    record := r }

/-- The composer's work at a FRAME_START, with PLAN_APPLIED and MODE_CHANGED (R6, R8, R12, R21). -/
def composeFrame (s : State) : State :=
  let r := buildRecord s
  let s' := { s with
    timing := { frameNumber := s.timing.frameNumber + 1, blanking := false }
    composer := composerNext s r
    intake := (s.intake.pinAll (recordSlots r)).releaseAll s.composer.pins }
  (s'.raiseIf s.composer.applyRequest .planApplied).raiseIf (s.composer.requestedMode != s.composer.record.mode) .modeChanged

/-! ### RESTART (R25) -/

/-- RESTART in the composer (R25). -/
def Composer.restarted (c : Composer) : Composer :=
  { c with
    live := Plan.empty
    staged := Plan.empty
    applyRequest := false
    requestedMode := if c.slate.isSome then .slateOnly else .black }

end Sys2Proof.Machine
end

