-- ==== Sys2Proof/Machine/CommandUnit.lean ====
section
/-! DEFINITION. The command unit's own commands (R179, R182-R184): NOP, ACK_FLAGS, SET_ATTN_MASK, ACK_CAUSES, RESTART, and the refusal of a
closed slot that is malformed or of an unknown kind. -/

namespace Sys2Proof.Machine

/-- NOP (R183). -/
def ruleNop : CommandRule := fun s => (s, Result.plain .ok)

/-- ACK_FLAGS (R182). -/
def ruleAckFlags (mask : Word) : CommandRule := fun s =>
  ({ s with command := { s.command with flags := acknowledged s.command.flags mask } }, Result.plain .ok)

/-- SET_ATTN_MASK (R182). -/
def ruleSetAttnMask (mask : Word) : CommandRule := fun s =>
  ({ s with command := { s.command with attnMask := mask.setWidth 24 } }, Result.plain .ok)

/-- ACK_CAUSES (R183). -/
def ruleAckCauses : CommandRule := fun s =>
  ({ s with command := { s.command with causes := { powerOn := false, resetLine := false, restart := false } } },
    Result.plain .ok)

/-- RESTART (R184): the showings end first, so that their records carry the state as it stands; then the composer, the roller and the
ticker, and the reset cause. Its result joins after the records it formed, if any of them has to wait (R184). -/
def ruleRestart : CommandRule := fun s =>
  let s' := restartRotation s
  ({ s' with
      composer := s'.composer.restarted
      roller := s'.roller.restarted
      ticker := s'.ticker.restarted
      command := { s'.command with causes := { s'.command.causes with restart := true } } },
    { code := .ok, afterRecords := decide (s.memctl.waitExposure.length < s'.memctl.waitExposure.length) })

/-- Whether a kind is one of the codes of Table 11.2. -/
def knownKind (kind : Half) : Bool :=
  let k := kind.toNat
  decide (k ≤ 0x04) || (decide (0x10 ≤ k) && decide (k ≤ 0x16)) || (decide (0x20 ≤ k) && decide (k ≤ 0x26)) ||
  (decide (0x30 ≤ k) && decide (k ≤ 0x3B)) || (decide (0x40 ≤ k) && decide (k ≤ 0x41)) ||
  (decide (0x50 ≤ k) && decide (k ≤ 0x52)) || (decide (0x60 ≤ k) && decide (k ≤ 0x65)) ||
  (decide (0x70 ≤ k) && decide (k ≤ 0x73))

/-- The first two checks on a closed slot, if one of them fails (R179 steps 1, 2). -/
def slotRefusal (kind tag : Half) (closing : Word) : Option ResultCode :=
  if closing ≠ closingWord kind tag then some .malformed
  else if knownKind kind then none
  else some .unknownKind

/-! ### Meanings -/

/-- UNKNOWN_KIND (R179): the slot is refused with MALFORMED or UNKNOWN_KIND; a slot that is neither is no such event. -/
def execUnknownKind (slot : RingSlot) (kind tag : Half) (closing : Word) (s : State) : Host.Outcome State Fault Refusal :=
  match slotRefusal kind tag closing with
  | some code => hostCommand slot (refuse code) s
  | none => .next s

/-- NOP. -/
def execNop (slot : RingSlot) (s : State) : Host.Outcome State Fault Refusal := hostCommand slot ruleNop s

/-- ACK_FLAGS. -/
def execAckFlags (slot : RingSlot) (mask : Word) (s : State) : Host.Outcome State Fault Refusal :=
  hostCommand slot (ruleAckFlags mask) s

/-- SET_ATTN_MASK. -/
def execSetAttnMask (slot : RingSlot) (mask : Word) (s : State) : Host.Outcome State Fault Refusal :=
  hostCommand slot (ruleSetAttnMask mask) s

/-- ACK_CAUSES. -/
def execAckCauses (slot : RingSlot) (s : State) : Host.Outcome State Fault Refusal := hostCommand slot ruleAckCauses s

/-- RESTART. -/
def execRestart (slot : RingSlot) (s : State) : Host.Outcome State Fault Refusal := hostCommand slot ruleRestart s

end Sys2Proof.Machine
end

