-- ==== Sys2Proof/Machine/ConsoleLines.lean ====
section
/-! DEFINITION. The console interface (Chapter 5): line filters, what an edge does, the horn indication, SET_LINE and SET_CAPTURE. -/

namespace Sys2Proof.Machine

/-! ### Levels -/

/-- A line is active when its accepted level equals its active level (R88). -/
def ConsoleLine.active (l : ConsoleLine) : Bool := l.accepted == l.activeHigh

/-- Whether a line feeds the horn: function HORN and active (R90, R93). -/
def ConsoleLine.feedsHorn (l : ConsoleLine) : Bool := l.function == .horn && l.active

/-- The horn indication: whether any line of function HORN is active (R93). -/
def Console.hornIndication (c : Console) : Bool :=
  c.lines[0].feedsHorn || c.lines[1].feedsHorn || c.lines[2].feedsHorn || c.lines[3].feedsHorn || c.lines[4].feedsHorn ||
  c.lines[5].feedsHorn || c.lines[6].feedsHorn || c.lines[7].feedsHorn

/-- The HORN output: high while the horn timer is above zero or a HORN line is active (R84). -/
def State.hornActive (s : State) : Bool := decide (0 < s.clock.horn.timer) || s.console.hornIndication

/-- The raw level of a line in a byte of levels. -/
def rawLevel (lines : Byte) (n : Fin 8) : Bool := lines.getLsbD n.val

/-! ### Requests (R81, R92) -/

/-- What an edge asks of the clock unit (R90). -/
inductive LineRequest where
  | start
  | stop
  | shotReset
  | shotToggle
  deriving DecidableEq, Repr

/-- The request an edge makes, by the line's function (R90, Table 5.2). -/
def edgeRequest (f : LineFunction) (activeEdge : Bool) : Option LineRequest :=
  match f with
  | .none => none
  | .start => if activeEdge then some .start else none
  | .stop => if activeEdge then some .stop else none
  | .run => if activeEdge then some .start else some .stop
  | .shotReset => if activeEdge then some .shotReset else none
  | .shotToggle => if activeEdge then some .shotToggle else none
  | .horn => none

/-- A SHOT_TOGGLE request: SHOT_STOP when the shot clock is RUNNING, SHOT_START otherwise, which is refused when it is BLANK or
ENDED (R79, R81). -/
def shotToggle (s : State) : State × Result := if s.clock.shot.state = .running then shotStop s else shotStart s

/-- The clock unit decides a request by the rule of the command of the same effect (R81). -/
def decideRequest (q : LineRequest) (s : State) : State × Result :=
  match q with
  | .start => startClock s
  | .stop => stopClock s
  | .shotReset => shotReset s
  | .shotToggle => shotToggle s

/-- A request handed to the clock unit; a refused one is dropped with CONSOLE_REFUSED (R92). -/
def makeRequest (q : LineRequest) (s : State) : State :=
  let r := decideRequest q s
  if r.2.code = .ok then r.1 else r.1.raise .consoleRefused

/-! ### Samples and edges (R89, R90) -/

/-- The acceptance count: the filter time, and 1 for filter time 0 (R89). -/
def ConsoleLine.acceptance (l : ConsoleLine) : Nat := if l.filter = 0 then 1 else l.filter

/-- Whether a sample completes a change of the accepted level (R89). -/
def ConsoleLine.accepts (l : ConsoleLine) (raw : Bool) : Bool := raw != l.accepted && decide (l.acceptance ≤ l.diff + 1)

/-- A line after one sample (R89). -/
def ConsoleLine.sampled (l : ConsoleLine) (raw : Bool) : ConsoleLine :=
  if raw = l.accepted then { l with diff := 0 }
  else if l.accepts raw then { l with accepted := raw, diff := 0 }
  else { l with diff := l.diff + 1 }

/-- A line whose accepted level is seeded: no edge (R89, R94). -/
def ConsoleLine.seededWith (l : ConsoleLine) (raw : Bool) : ConsoleLine := { l with accepted := raw, diff := 0 }

/-- A line replaced. -/
def setLineState (n : Fin 8) (l : ConsoleLine) (s : State) : State :=
  { s with console := { s.console with lines := s.console.lines.set n.val l n.isLt } }

/-- What an accepted edge does: LINE captures first, then the request of the line's function (R90, R96, R98). -/
def edgeActs (n : Fin 8) (raw : Bool) (s : State) : State :=
  let l := s.console.lines[n]
  let s' := fireCapture (.line n raw) s
  match edgeRequest l.function (raw == l.activeHigh) with
  | some q => makeRequest q s'
  | none => s'

/-- One sample of one line and, if an edge is accepted, what the edge does (R89, R90). -/
def sampleLine (lines : Byte) (n : Fin 8) (s : State) : State :=
  let l := s.console.lines[n]
  let raw := rawLevel lines n
  let s' := setLineState n (l.sampled raw) s
  if l.accepts raw then edgeActs n raw s' else s'

/-- The first tick after the release of reset seeds every line (R89). -/
def seedLines (lines : Byte) (s : State) : State :=
  { s with
    console := { s.console with
      seeded := true
      lines := Vector.ofFn fun n : Fin 8 => (s.console.lines[n]).seededWith (rawLevel lines n) } }

/-! ### SET_LINE and SET_CAPTURE (R94, R95) -/

/-- SET_LINE (R94); `lines` holds the raw levels at the moment the command is taken. Taken before the first tick since the release of reset,
it re-seeds its line too, although R89 calls every accepted level low until that tick (DESIGN CHOICE, notes/assumptions/34). -/
def ruleSetLine (line function activeLevel filter lines : Byte) : CommandRule := fun s =>
  match lineNumber line, lineFunction function, onOff activeLevel, filterTime filter with
  | some n, some f, some a, some t =>
    (setLineState n { function := f, activeHigh := a, filter := t, accepted := rawLevel lines n, diff := 0 } s,
      Result.plain .ok)
  | _, _, _, _ => refuse .outOfRange s

/-- SET_CAPTURE (R95). -/
def ruleSetCapture (channel source line edge : Byte) : CommandRule := fun s =>
  match captureSource source line edge with
  | none => refuse .outOfRange s
  | some src =>
    if h : channel.toNat < 4 then
      ({ s with
          console := { s.console with
            channels := s.console.channels.set channel.toNat { s.console.channels[channel.toNat] with source := src } h } },
        Result.plain .ok)
    else refuse .outOfRange s

/-! ### Meanings -/

/-- SET_LINE. -/
def execSetLine (slot : RingSlot) (line function activeLevel filter : Byte) (lines : Byte) (s : State) :
    Host.Outcome State Fault Refusal :=
  hostCommand slot (ruleSetLine line function activeLevel filter lines) s

/-- SET_CAPTURE. -/
def execSetCapture (slot : RingSlot) (channel source line edge : Byte) (s : State) : Host.Outcome State Fault Refusal :=
  hostCommand slot (ruleSetCapture channel source line edge) s

end Sys2Proof.Machine
end

