-- ==== Sys2Proof/Machine/Drawing.lean ====
section
/-! DEFINITION. Drawing the wall (R18-R20, R22, R23, R57): where each pixel comes from, what it shows, what the panel link sends, and the
UNDERRUN event. The pictures are functions of the state; the state holds the frame record, the fetched blocks and the late cells. -/

namespace Sys2Proof.Machine

/-- Where a pixel of the wall comes from. -/
inductive PixelSource where
  /-- a colour that needs no fetch -/
  | solid (c : Colour)
  /-- an image or glyph pixel at an address, drawn reversed or not (R18) -/
  | image (addr : Nat) (reversed : Bool)
  /-- two image pixels blended with a weight (R57) -/
  | blend (addrA addrB w16 : Nat)
  deriving DecidableEq, Repr

/-- Black. -/
def black : Colour := ⟨0, 0, 0⟩

/-- Full white. -/
def white : Colour := ⟨255, 255, 255⟩

/-! ### Addresses (R18) -/

/-- The address of pixel (px, py) of an image of iw cells' width at a base (R18). -/
def imageAddr (base iw px py : Nat) : Nat := base + (py / 32 * iw + px / 32) * Config.cellBytes + 128 * (py % 32) + 4 * (px % 32)

/-- The glyph a character code selects (R18). -/
def glyphNumber (c : Byte) : Nat := if 0x20 ≤ c.toNat ∧ c.toNat ≤ 0x7E then c.toNat else 0x3F

/-- The address of pixel (column, row) of a character's glyph in a font (R18). -/
def glyphAddr (font : Nat) (c : Byte) (column row : Nat) : Nat := font + glyphNumber c * 2048 + 64 * row + 4 * column

/-! ### Sources (R19, R20) -/

/-- The owner of a wall cell in a frame record; none unless the mode in force was NORMAL (R15). -/
def FrameRecord.owner (r : FrameRecord) (cx cy : Nat) : Option ZoneIx :=
  if r.mode = .normal then
    cellOwner (r.zones.map ZoneRecord.desc) (allZones.filter fun z => (r.zones[z]).active) cx cy
  else none

/-- The house slate at a wall pixel, black if none is declared (R20, Table 1.3). -/
def slatePixel (r : FrameRecord) (otherwise : Colour) (px py : Nat) : PixelSource :=
  match r.slate with
  | some b => .image (imageAddr b.toNat r.w px py) false
  | none => .solid otherwise

/-- A pixel of an image placed at a zone's corner, the guard colour outside the image (R19). -/
def zoneImage (guard : Colour) (base iw ih zx zy : Nat) : PixelSource :=
  if zx / 32 < iw ∧ zy / 32 < ih then .image (imageAddr base iw zx zy) false else .solid guard

/-- A pixel of the replay frames (R19, R57), for the ring the slots belong to. -/
def replayPixel (guard : Colour) (ring : RingDecl) (d : ReplayDraw) (zx zy : Nat) : PixelSource :=
  if zx / 32 < ring.w ∧ zy / 32 < ring.h then
    match d.b with
    | some b => .blend (imageAddr (ring.slotBase d.a.slot) ring.w zx zy) (imageAddr (ring.slotBase b.slot) ring.w zx zy) d.w16
    | none => .image (imageAddr (ring.slotBase d.a.slot) ring.w zx zy) false
  else .solid guard

/-- A pixel of the scorebug (R19, R106). -/
def scorebugPixel (font : Nat) (image : ScorebugImage) (zx zy : Nat) : PixelSource :=
  match (image[zy / 32 * 32 + zx / 16]?).bind id with
  | some g => .image (glyphAddr font g.code (zx % 16) (zy % 32)) g.reversed
  | none => .solid black

/-- A pixel of the ticker (R19): character i covers columns position + 16 i to position + 16 i + 15. -/
def tickerPixel (font : Nat) (d : TickerDraw) (zx zy : Nat) : PixelSource :=
  if d.position ≤ (zx : Int) then
    let off := ((zx : Int) - d.position).toNat
    match d.text[off / 16]? with
    | some c => .image (glyphAddr font c (off % 16) (zy % 32)) (d.priority == 3)
    | none => .solid black
  else .solid black

/-- What a zone's own pixel (zx, zy), at wall pixel (px, py), draws out of lead-in (R19, Table 1.6). -/
def drawnPixel (ring : Option RingDecl) (r : FrameRecord) (z : ZoneRecord) (zx zy px py : Nat) : PixelSource :=
  match z.draw with
  | some (.fill c) => .solid c
  | some (.slate base) => zoneImage z.desc.guard base z.desc.w.toNat z.desc.h.toNat zx zy
  | some (.sponsor (some a)) => zoneImage z.desc.guard a.base a.w a.h zx zy
  | some (.sponsor none) => slatePixel r z.desc.guard px py
  | some (.replay (some d)) =>
    match ring with
    | some g => replayPixel z.desc.guard g d zx zy
    | none => .solid z.desc.guard
  | some (.replay none) => .solid z.desc.guard
  | some (.scorebug image) =>
    match r.font with
    | some f => scorebugPixel f.toNat image zx zy
    | none => .solid z.desc.guard
  | some (.ticker d) =>
    match r.font with
    | some f => tickerPixel f.toNat d zx zy
    | none => .solid z.desc.guard
  | some .nothing => .solid z.desc.guard
  | none => .solid z.desc.guard

/-- Where wall pixel (px, py) comes from in a frame (R19, R20, Table 1.3). -/
def pixelSource (ring : Option RingDecl) (r : FrameRecord) (px py : Nat) : PixelSource :=
  match r.mode with
  | .black => .solid black
  | .white => .solid white
  | .slateOnly => slatePixel r black px py
  | .normal =>
    match r.owner (px / 32) (py / 32) with
    | none => slatePixel r black px py
    | some z =>
      let zr := r.zones[z]
      if zr.inLeadIn then .solid zr.desc.guard
      else drawnPixel ring r zr (px - 32 * zr.desc.x.toNat) (py - 32 * zr.desc.y.toNat) px py

/-- The pixel source in the state's frame record. -/
def State.source (s : State) (px py : Nat) : PixelSource := pixelSource s.intake.ring s.composer.record px py

/-! ### Pixels (R18, R22, R57) -/

/-- The byte the scan draws at an address: from a block in the line buffer if it has been fetched, else what memory holds. -/
def scanByte (s : State) (a : Nat) : Byte :=
  match s.panel.lineBuffer.find? fun b => decide (b.addr ≤ a) && decide (a < b.addr + b.bytes.length) with
  | some b => b.bytes.getD (a - b.addr) 0
  | none => s.memByte a

/-- The three colour bytes at an address; the fourth is ignored (R18). -/
def scanColour (s : State) (a : Nat) : Colour :=
  { red := scanByte s a, green := scanByte s (a + 1), blue := scanByte s (a + 2) }

/-- A colour drawn reversed: each channel c as 255 - c (R18). -/
def reverseColour (c : Colour) : Colour := { red := 255 - c.red, green := 255 - c.green, blue := 255 - c.blue }

/-- The blend of one channel, in whole numbers (R57). -/
def blendValue (w16 a b : Nat) : Nat := (a * (16 - w16) + b * w16 + 8) / 16

/-- The blend of one channel (R57). -/
def blendChannel (w16 : Nat) (a b : Byte) : Byte := BitVec.ofNat 8 (blendValue w16 a.toNat b.toNat)

/-- Two colours blended with weight w16 (R57). -/
def blendColour (w16 : Nat) (a b : Colour) : Colour :=
  { red := blendChannel w16 a.red b.red, green := blendChannel w16 a.green b.green, blue := blendChannel w16 a.blue b.blue }

/-- What a late cell is sent in: its owner's guard colour, or black without an owner or under SLATE_ONLY (R22). -/
def lateColour (r : FrameRecord) (cx cy : Nat) : Colour :=
  match r.owner cx cy with
  | some z => (r.zones[z]).desc.guard
  | none => black

/-- The colour of wall pixel (px, py) as the link sends it (R19, R20, R22). -/
def State.pixel (s : State) (px py : Nat) : Colour :=
  if s.panel.late.contains (px / 32, py / 32) then lateColour s.composer.record (px / 32) (py / 32)
  else
    match s.source px py with
    | .solid c => c
    | .image a reversed => if reversed then reverseColour (scanColour s a) else scanColour s a
    | .blend a b w => blendColour w (scanColour s a) (scanColour s b)

/-! ### The panel link (R23) -/

/-- Pixel line y of the frame: its line number and its 32 x W pixels from left to right (R23). -/
def State.panelLine (s : State) (y : Nat) : Nat × List Colour :=
  (y, (List.range (32 * s.composer.record.w)).map fun px => s.pixel px y)

/-- The lines of the frame from top to bottom: line 0 to line 32 x H - 1 (R23). -/
def State.panelFrame (s : State) : List (Nat × List Colour) := (List.range (32 * s.composer.record.h)).map s.panelLine

/-- What the panel link is sending. -/
inductive LinkSends where
  | nothing
  | marker
  | lines (frame : List (Nat × List Colour))
  deriving DecidableEq, Repr

/-- A frame marker during each blanking period, the frame's lines during its active scan; no lines before the first FRAME_START
(R23). -/
def State.linkSends (s : State) : LinkSends :=
  if s.phase != .running then .nothing else if s.timing.blanking then .marker else .lines s.panelFrame

/-! ### Fetches (R174)

A fetch point stands for one 64-byte access of a frame: point `4 * g + k` is the k-th block that group g of 16 pixels needs. The groups are
counted in the order of the scan, line by line and from left to right, and the scan-out fetches the points in that order (DESIGN CHOICE,
notes/assumptions/19). -/

/-- The addresses of the 64-byte blocks a pixel source needs: none for a colour, frame A's and frame B's for a blend. -/
def PixelSource.blocks (src : PixelSource) : List Nat :=
  match src with
  | .solid _ => []
  | .image a _ => [a / 64 * 64]
  | .blend a b _ => [a / 64 * 64, b / 64 * 64]

/-- The groups of 16 pixels in one line of the frame. -/
def FrameRecord.lineGroups (r : FrameRecord) : Nat := 2 * r.w

/-- The groups of a whole frame. -/
def FrameRecord.frameGroups (r : FrameRecord) : Nat := r.lineGroups * (32 * r.h)

/-- The blocks a group needs: those of its first and its last pixel, between which a ticker may change from one glyph to the next. -/
def State.groupBlocks (s : State) (g : Nat) : List Nat :=
  let n := s.composer.record.lineGroups
  let px := 16 * (g % n)
  ((s.source px (g / n)).blocks ++ (s.source (px + 15) (g / n)).blocks).eraseDups

/-- Whether a frame can need a fetch at all: BLACK and WHITE need none, nor does a wall without slate and active zones (R20, R174). -/
def FrameRecord.drawsMemory (r : FrameRecord) : Bool :=
  match r.mode with
  | .black => false
  | .white => false
  | .slateOnly => r.slate.isSome
  | .normal => r.slate.isSome || allZones.any fun z => (r.zones[z]).active

/-- The first fetch point among n groups from group g on, the first k blocks of group g left out. -/
def fetchFrom (s : State) : Nat → Nat → Nat → Option (Nat × Nat)
  | 0, _, _ => none
  | n + 1, g, k =>
    match (s.groupBlocks g)[k]? with
    | some a => some (4 * g + k, a)
    | none => fetchFrom s n (g + 1) 0

/-- The next fetch point from a point on, with the address of its block; none when the rest of the frame needs no fetch. -/
def State.nextFetch (s : State) (point : Nat) : Option (Nat × Nat) :=
  if s.composer.record.drawsMemory then fetchFrom s (s.composer.record.frameGroups - point / 4) (point / 4) (point % 4) else none

/-- The blocks fetched in blanking that are the first the frame needs, from a point on, and the point from which fetching goes on. -/
def keepFetched (s : State) : Nat → List LineBlock → List LineBlock × Nat
  | point, [] => ([], point)
  | point, b :: rest =>
    match s.nextFetch point with
    | some (p, a) => if b.addr = a then (b :: (keepFetched s (p + 1) rest).1, (keepFetched s (p + 1) rest).2) else ([], point)
    | none => ([], point)

/-- The line buffer when a new frame's record is fixed: what was fetched ahead and is still the start of the frame stays (R174). -/
def beginScan (s : State) : State :=
  let r := keepFetched s 0 s.panel.lineBuffer
  { s with panel := { s.panel with lineBuffer := r.1, fetchAt := r.2 } }

/-- The wall cell of a fetch point. -/
def FrameRecord.pointCell (r : FrameRecord) (point : Nat) : Nat × Nat :=
  (point / 4 % r.lineGroups / 2, point / 4 / r.lineGroups / 32)

/-! ### Underruns (R22) -/

/-- Whether the access for a fetch point has been served. -/
def State.served (s : State) (point : Nat) : Bool :=
  decide (point < s.panel.fetchAt) &&
  match s.memctl.access with
  | some (.scan p _) => p != point
  | _ => true

/-- The groups of the 32 lines of a cell. -/
def FrameRecord.cellGroups (r : FrameRecord) (cx cy : Nat) : List Nat :=
  (List.range 32).flatMap fun y => [(32 * cy + y) * r.lineGroups + 2 * cx, (32 * cy + y) * r.lineGroups + 2 * cx + 1]

/-- Whether a cell of the wall needs a fetch that has not been served: only such a cell can underrun (R22). -/
def State.cellUnserved (s : State) (cx cy : Nat) : Bool :=
  decide (cx < s.composer.record.w) && decide (cy < s.composer.record.h) &&
  (s.composer.record.cellGroups cx cy).any fun g => (List.range (s.groupBlocks g).length).any fun k => !s.served (4 * g + k)

/-- A cell falls due unserved: it is sent late and UNDERRUN is raised; the frame record is untouched (R22). -/
def underrunCell (cx cy : Nat) (s : State) : State :=
  { s with panel := { s.panel with late := (cx, cy) :: s.panel.late } }.raise .underrun

/-- UNDERRUN (R22): during the scan, of a cell whose fetch has not been served; otherwise it does not come about. -/
def execUnderrun (cx cy : Nat) (s : State) : Host.Outcome State Fault Refusal :=
  if s.phase = .running ∧ s.timing.blanking = false ∧ s.cellUnserved cx cy = true then .next (underrunCell cx cy s) else .next s

end Sys2Proof.Machine
end

