-- ==== Sys2Proof/Machine/StatusBlock.lean ====
section
/-! DEFINITION. The status block (R185, R186, Table 11.8): the snapshot of every unit's figures, its codes (Table 11.3), and the 29 part
writes of a status write-back. -/

namespace Sys2Proof.Machine

/-! ### Codes (Table 11.3) -/

/-- Output mode codes. -/
def OutputMode.code : OutputMode → Nat
  | .normal => 0
  | .black => 1
  | .white => 2
  | .slateOnly => 3

/-- Game clock state codes. -/
def GameState.code : GameState → Nat
  | .stopped => 0
  | .running => 1
  | .ended => 2

/-- Shot clock state codes. -/
def ShotState.code : ShotState → Nat
  | .blank => 0
  | .stopped => 1
  | .running => 2
  | .ended => 3

/-- Roller state codes. -/
def RollerState.code : RollerState → Nat
  | .idle => 0
  | .rolling => 1
  | .starved => 2
  | .holding => 3

/-- Roll direction codes. -/
def RollDirection.code : RollDirection → Nat
  | .forward => 0
  | .reverse => 1

/-- Roll end reason codes. -/
def RollEnd.code : RollEnd → Nat
  | .none => 0
  | .outPoint => 1
  | .frameGone => 2
  | .stopped => 3
  | .clock => 4
  | .zoneRemoved => 5
  | .restart => 6

/-- Slot state codes; 0 is "no such slot". -/
def SlotState.code : SlotState → Nat
  | .free => 1
  | .filling => 2
  | .ready _ _ => 3
  | .held _ _ => 4

/-- Removal reason codes; 0 is none. -/
def RemovalReason.code : RemovalReason → Nat
  | .done => 1
  | .expired => 2
  | .cancelled => 3
  | .cleared => 4

/-- Capture edge codes. -/
def CaptureEdge.code : CaptureEdge → Nat
  | .rising => 0
  | .falling => 1
  | .any => 2

/-- Capture source codes. -/
def CaptureSource.code : CaptureSource → Nat
  | .off => 0
  | .line _ _ => 1
  | .gcStart => 2
  | .gcStop => 3
  | .gcEnd => 4
  | .scEnd => 5
  | .scoreChange => 6
  | .mark => 7

/-- One bit of a set of bits. -/
def bitAt (n : Nat) (b : Bool) : Nat := if b then 2 ^ n else 0

/-! ### Fields -/

/-- A field of the status block: a number stored least significant byte first; bytes the manual does not state for the state
at hand, which are free values; or one byte of which the manual states all bits but those of a mask (notes/assumptions/2). -/
inductive StatusField where
  | num (size value : Nat)
  | unstated (size : Nat)
  | partly (value : Nat) (mask : Byte)
  deriving DecidableEq, Repr

/-- The free bytes of the status block from an offset on. -/
def freeBytes (frame offset : Nat) : Nat → List Byte
  | 0 => []
  | n + 1 => Config.statusFill frame offset :: freeBytes frame (offset + 1) n

/-- A byte with the bits of a mask free and the others those of a value. -/
def partlyFree (frame offset value : Nat) (mask : Byte) : Byte :=
  (BitVec.ofNat 8 value &&& ~~~mask) ||| (Config.statusFill frame offset &&& mask)

/-- The bytes of one field at an offset. -/
def StatusField.bytes (frame offset : Nat) : StatusField → List Byte
  | .num size v => leBytes size v
  | .unstated size => freeBytes frame offset size
  | .partly v mask => [partlyFree frame offset v mask]

/-- How many bytes a field takes. -/
def StatusField.size : StatusField → Nat
  | .num size _ => size
  | .unstated size => size
  | .partly _ _ => 1

/-- The bytes of fields that follow one another from an offset on. -/
def fieldBytes (frame : Nat) : Nat → List StatusField → List Byte
  | _, [] => []
  | o, f :: rest => f.bytes frame o ++ fieldBytes frame (o + f.size) rest

/-- A signed value as a number of 16 bits in two's complement. -/
def signed16 (v : Int) : Nat := (BitVec.ofInt 16 v).toNat

/-- A signed value as a number of 8 bits in two's complement. -/
def signed8 (v : Int) : Nat := (BitVec.ofInt 8 v).toNat

/-! ### Units -/

/-- 0x004 to 0x01F: reset causes, mode in force, screen size, flags, mask, frame number, venue time, counts. -/
def headFields (s : State) : List StatusField :=
  [ .num 1 (bitAt 0 s.command.causes.powerOn + bitAt 1 s.command.causes.resetLine + bitAt 2 s.command.causes.restart),
    .num 1 s.composer.record.mode.code,
    .num 1 s.composer.screenW,
    .num 1 s.composer.screenH,
    .num 4 s.command.flags.toNat,
    .num 4 s.command.attnMask.toNat,
    .num 4 s.timing.frameNumber.toNat,
    .num 4 s.clock.venue.toNat,
    .num 4 s.command.taken.toNat,
    .num 4 s.command.refused.toNat ]

/-- A mark: its value, 0xFFFFFF when off (R186), and its actions. -/
def markFields (m : Mark) : List StatusField :=
  [ .num 3 (m.value.getD 0xFFFFFF), .num 1 (bitAt 0 m.flag + bitAt 1 m.horn + bitAt 2 m.stop) ]

/-- 0x020 to 0x03F: the clock unit. -/
def clockFields (s : State) : List StatusField :=
  let c := s.clock
  [ .num 4 c.game.value, .num 3 c.game.limit, .num 1 c.game.state.code ] ++ markFields c.mark0 ++ markFields c.mark1 ++
  [ .num 3 c.shot.value,
    .num 1 c.shot.state.code,
    .num 3 c.shot.preset,
    .num 1 (bitAt 0 c.shot.follow + bitAt 1 c.shot.startOnGame + bitAt 2 c.shot.shotHorn),
    .num 2 c.horn.timer,
    .num 1 (bitAt 0 (c.game.direction == .up) + bitAt 1 c.game.tenths + bitAt 2 c.horn.endHorn + bitAt 3 s.hornActive),
    .num 1 0,
    .num 2 c.horn.periodTime,
    .num 2 c.horn.shotTime ]

/-- A capture record, all zero when empty (R186). -/
def captureFields : Option CaptureRecord → List StatusField
  | some r =>
    [ .num 4 r.venue.toNat, .num 3 r.gameValue, .num 1 r.gameState.code, .num 3 r.shotValue, .num 1 r.shotState.code,
      .num 2 r.sequence.toNat ]
  | none => [ .num 14 0 ]

/-- The line and edge of a source; not stated for a source that is not LINE. -/
def sourceFields : CaptureSource → List StatusField
  | .line n e => [ .num 1 n.val, .num 1 e.code ]
  | .off => [ .unstated 2 ]
  | .gcStart => [ .unstated 2 ]
  | .gcStop => [ .unstated 2 ]
  | .gcEnd => [ .unstated 2 ]
  | .scEnd => [ .unstated 2 ]
  | .scoreChange => [ .unstated 2 ]
  | .mark => [ .unstated 2 ]

/-- 0x040 + 32 c: a capture channel. -/
def channelFields (c : CaptureChannel) : List StatusField :=
  [ .num 1 c.source.code ] ++ sourceFields c.source ++ [ .num 1 (bitAt 0 c.latest.isSome + bitAt 1 c.previous.isSome) ] ++
  captureFields c.latest ++ captureFields c.previous

/-- 0x0C0: the score record and the flash. -/
def scoreFields (u : ScoreUnit) : List StatusField :=
  [ .num 2 u.fields[0], .num 2 u.fields[1], .num 1 u.fields[2], .num 1 u.fields[3], .num 1 u.fields[4], .num 1 u.fields[5],
    .num 1 u.fields[6], .num 1 u.fields[7], .num 1 (bitAt 0 (u.fields[8] == 1) + bitAt 1 (u.fields[9] == 1)),
    .num 1 u.flashLength, .num 1 u.homeFlash, .num 1 u.guestFlash, .num 2 0 ]

/-- 0x0D0 to 0x0FF: the roller and the intake. With no ring declared the slot count is 0 (DEDUCED, notes/assumptions/18). -/
def replayFields (s : State) : List StatusField :=
  let r := s.roller
  [ .num 1 r.state.code,
    .num 1 r.lastEnd.code,
    .num 1 r.direction.code,
    .num 1 (bitAt 0 r.showPlan.isSome),
    .num 4 (r.showPlan.elim 0 fun p => p.a.toNat),
    .num 4 r.pInt,
    .num 2 r.speed,
    .num 2 r.gapCount,
    .num 2 r.starvedCount,
    .num 1 (s.intake.intakeSlot.getD 0xFF),
    .num 1 (bitAt 0 s.intake.ring.isSome),
    .num 1 s.intake.heldCount,
    .num 1 (s.intake.ring.elim 0 RingDecl.count),
    .num 2 0,
    .num 4 s.intake.completions.toNat,
    .num 20 0 ]

/-- The frame number of a slot; not stated unless the slot is READY or HELD. -/
def slotFrameField (st : SlotState) : StatusField :=
  match st.frame with
  | some f => .num 4 f.toNat
  | none => .unstated 4

/-- 0x100 + 8 k: slot k, all zero when there is no such slot (R186). -/
def slotFields (s : State) (k : Nat) : List StatusField :=
  match s.intake.slots[k]? with
  | some r => [ .num 1 r.state.code, .num 1 r.pins, .num 2 0, slotFrameField r.state ]
  | none => [ .num 8 0 ]

/-- The showing entry's figures; without one the tag is 0 (R186) and the rest is not stated. -/
def showingFields : Option ShowingEntry → List StatusField
  | some x =>
    [ .num 2 x.entry.tag, .num 1 x.entry.priority, .num 1 x.entry.repeats, .num 2 x.entry.passes, .num 2 (signed16 x.position) ]
  | none => [ .num 2 0, .unstated 6 ]

/-- 0x300: the ticker; before the first removal the last removed tag is not stated and the reason is 0. -/
def tickerFields (t : TickerUnit) : List StatusField :=
  showingFields t.showing ++
  [ .num 1 t.waiting.length,
    .num 1 t.freeChunks,
    .num 1 t.speed,
    .num 1 (t.lastRemoved.elim 0 fun p => p.2.code),
    .num 2 t.gap,
    t.lastRemoved.elim (.unstated 2) fun p => .num 2 p.1 ]

/-- The flags of a sponsor zone record: sting, overrun, sting pending. Without a showing its sting and overrun bits are not stated
(notes/assumptions/2). -/
def zoneFlags (z : SponsorZone) : StatusField :=
  match z.showing with
  | some h => .num 1 (bitAt 0 h.sting + bitAt 1 h.overrun + bitAt 2 z.stingPending)
  | none => .partly (bitAt 2 z.stingPending) 3

/-- Frames on air, counted frames and S of a showing; without one they are not stated (notes/assumptions/2). -/
def showingCounts : Option Showing → List StatusField
  | some h => [ .num 2 h.framesOnAir, .num 2 h.countedFrames, .num 4 h.credit ]
  | none => [ .unstated 8 ]

/-- 0x310 + 16 j: a sponsor zone record. -/
def sponsorFields (s : State) (z : ZoneIx) : List StatusField :=
  let x := s.rotation.zones[z]
  [ .num 1 z.val,
    .num 1 (x.showing.elim 0 Showing.spotId),
    zoneFlags x,
    .num 1 (signed8 x.cursor),
    .num 1 x.rotation.length,
    .num 1 (x.sting.getD 0) ] ++ showingCounts x.showing ++ [ .num 2 0 ]

/-- The enabled SPONSOR zones of a frame record, in ascending index. -/
def FrameRecord.sponsorZones (r : FrameRecord) : List ZoneIx := allZones.filter fun z => (r.zones[z]).desc.isOn .sponsor

/-- Sponsor zone record j (R186 for those beyond the enabled SPONSOR zones). -/
def sponsorRecord (s : State) (j : Nat) : List StatusField :=
  match s.composer.record.sponsorZones[j]? with
  | some z => sponsorFields s z
  | none => [ .num 1 0xFF, .num 15 0 ]

/-- 0x350: the log counters. -/
def logFields (e : ExposureCounter) : List StatusField :=
  [ .num 4 e.nextRecord.toNat, .num 4 e.readMark.toNat, .num 2 e.missed, .num 6 0 ]

/-- 0x360 + 16 j: spot record j, all zero beyond the table (R186). -/
def spotFields (s : State) (j : Nat) : List StatusField :=
  match s.rotation.spots[j]? with
  | some p =>
    [ .num 1 p.id,
      .num 1 (bitAt 0 p.saturated + bitAt 1 p.contractMet + bitAt 2 p.withdrawing),
      .num 2 p.showings,
      .num 2 p.contract,
      .num 2 0,
      .num 4 p.delivered,
      .num 4 0 ]
  | none => [ .num 16 0 ]

/-- 0x660 + 4 z: a zone, from the frame record, and its lead-in counter. -/
def zoneFields (s : State) (z : ZoneIx) : List StatusField :=
  let r := s.composer.record.zones[z]
  [ .num 2 r.visible,
    .num 1 (bitAt 0 r.desc.enable + bitAt 1 r.active + bitAt 2 r.inLeadIn + bitAt 3 r.changed + bitAt 4 r.resized),
    .num 1 (s.composer.leadIn[z]) ]

/-! ### The block and its write-back (R185) -/

/-- All fields of offsets 0x000 to 0x69F, in order. -/
def statusFields (s : State) : List StatusField :=
  [ .num 4 s.timing.frameNumber.toNat ] ++ headFields s ++ clockFields s ++
  ((List.finRange 4).flatMap fun c => channelFields s.console.channels[c]) ++
  scoreFields s.score ++ replayFields s ++
  ((List.range 64).flatMap (slotFields s)) ++
  tickerFields s.ticker ++
  ((List.range 4).flatMap (sponsorRecord s)) ++
  logFields s.exposure ++
  ((List.range 48).flatMap (spotFields s)) ++
  allZones.flatMap (zoneFields s)

/-- The 1,696 bytes of offsets 0x000 to 0x69F. -/
def statusBytes (s : State) : List Byte := fieldBytes s.timing.frameNumber.toNat 0 (statusFields s)

/-- Offset of the status block in the control area (Table 10.2). -/
def statusBase : Nat := 0x4000

/-- Control-area offset of the tail generation word. -/
def tailOffset : Nat := 0x4FFC

/-- The entry of a write-back that covers the offsets from `o` to `o + n - 1` of the block. -/
def statusEntry (bytes : List Byte) (o n : Nat) : PartWrite := { offset := statusBase + o, data := (bytes.drop o).take n }

/-- The 29 entries of a write-back, in the order of R185. -/
def statusEntries (s : State) : List PartWrite :=
  let bytes := statusBytes s
  [ statusEntry bytes 0 4, statusEntry bytes 4 60 ] ++
  ((List.range 25).map fun i => statusEntry bytes (64 + 64 * i) 64) ++
  [ statusEntry bytes 0x680 32, { offset := tailOffset, data := leBytes 4 s.timing.frameNumber.toNat } ]

/-- The command unit's entries offered to the queue one after another (R185). -/
def offerAll : List PartWrite → MemoryController → MemoryController
  | [], m => m
  | w :: rest, m => offerAll rest (m.offerCommand w 0)

/-- The status write-back of a FRAME_START: none while an earlier one is in flight (R185). -/
def statusWriteBack (s : State) : State :=
  if s.command.statusInFlight then s
  else
    { s with
      command := { s.command with statusInFlight := true }
      memctl := offerAll (statusEntries s) s.memctl }

end Sys2Proof.Machine
end

