-- ==== Sys2Proof/Machine/FrameEvents.lean ====
section
/-! DEFINITION. The frame events (R11): FRAME_END and FRAME_START, and the rows of the table that name what may come about within one:
LEAD_IN_END, DWELL_DONE, COVER_LIMIT, MESSAGE_EXPIRY and PASS_END. Each of those is the whole frame event, in a state in which its event
comes about in it; in any other state it does not come about and nothing changes (notes/assumptions/4). -/

namespace Sys2Proof.Machine

/-! ### FRAME_END (R11, R36, R50, R104, R121, R156) -/

/-- What came about in a FRAME_END: the ordinary endings of showings, and the ticker's events. -/
structure FrameEndEvents where
  endings : List (ZoneIx × ShowingEnd)
  ticker : TickerEvents
  deriving DecidableEq, Repr

/-- The replay roller's step and the intake's retry, in either order (R36). -/
def replayFrameWork (retryFirst : Bool) (s : State) : State :=
  if retryFirst then rollerFrameWork (retryIntake s) else retryIntake (rollerFrameWork s)

/-- The flash counters fall (R104), the active scan is over (R11), and the fetch begins the next frame (R174): no block of the frame
that ended is kept and none of its cells is late any longer. -/
def closeScan (s : State) : State :=
  { s with
    score := s.score.flashFall
    timing := { s.timing with blanking := true }
    panel := PanelScan.reset }

/-- The frame work of every source at a FRAME_END, from the frame record that stands (R11). -/
def frameEnd (retryFirst : Bool) (s : State) : State × FrameEndEvents :=
  let r := rotationFrameWork (replayFrameWork retryFirst s)
  let t := tickerFrameWork r.1
  (closeScan t.1, { endings := r.2, ticker := t.2 })

/-- Whether a FRAME_END can come: start-up is complete and a frame is being scanned (R11). -/
def State.scanning (s : State) : Bool := s.phase == .running && !s.timing.blanking

/-- A FRAME_END taken only if the named event comes about in it. -/
def frameEndWith (due : FrameEndEvents → Bool) (retryFirst : Bool) (s : State) : State :=
  if s.scanning then
    let r := frameEnd retryFirst s
    if due r.2 then r.1 else s
  else s

/-! ### FRAME_START (R12, R185) -/

/-- Whether a FRAME_START can come: start-up is complete and the part is in a blanking period (R11). -/
def State.inBlanking (s : State) : Bool := s.phase == .running && s.timing.blanking

/-- The composer's work, from which the scan then proceeds (R12), and then the status write-back (R185). No command comes between the
composer's sample and the snapshot of the figures, which R63, R109, R163 and R185 allow for: FRAME_START is one step (DESIGN CHOICE,
notes/assumptions/31). -/
def frameStart (s : State) : State := statusWriteBack (beginScan (composeFrame s))

/-- A FRAME_START taken only if the named condition holds. -/
def frameStartIf (due : Bool) (s : State) : State := if s.inBlanking && due then frameStart s else s

/-! ### Meanings -/

/-- FRAME_END (R11). -/
def execFrameEnd (retryFirst : Bool) (s : State) : Host.Outcome State Fault Refusal :=
  .next (frameEndWith (fun _ => true) retryFirst s)

/-- FRAME_START (R12). -/
def execFrameStart (s : State) : Host.Outcome State Fault Refusal := .next (frameStartIf true s)

/-- LEAD_IN_END (R14). -/
def execLeadInEnd (zone : ZoneIx) (s : State) : Host.Outcome State Fault Refusal :=
  .next (frameStartIf ((leadInEnds s).contains zone) s)

/-- DWELL_DONE (R123). -/
def execDwellDone (zone : ZoneIx) (retryFirst : Bool) (s : State) : Host.Outcome State Fault Refusal :=
  .next (frameEndWith (fun e => e.endings.contains (zone, .dwellDone)) retryFirst s)

/-- COVER_LIMIT (R123). -/
def execCoverLimit (zone : ZoneIx) (retryFirst : Bool) (s : State) : Host.Outcome State Fault Refusal :=
  .next (frameEndWith (fun e => e.endings.contains (zone, .coverLimit)) retryFirst s)

/-- MESSAGE_EXPIRY (R157). -/
def execMessageExpiry (retryFirst : Bool) (s : State) : Host.Outcome State Fault Refusal :=
  .next (frameEndWith (fun e => e.ticker.expiry) retryFirst s)

/-- PASS_END (R158). -/
def execPassEnd (retryFirst : Bool) (s : State) : Host.Outcome State Fault Refusal :=
  .next (frameEndWith (fun e => e.ticker.passEnd) retryFirst s)

end Sys2Proof.Machine
end

