-- ==== Sys2Proof/Machine/HostPort.lean ====
section
/-! DEFINITION. The playout port (R164-R170): host transactions, the order of their beats, the classification of write beats, and the
steering of reads. -/

namespace Sys2Proof.Machine

/-! ### Bursts (R165) -/

/-- The number of beats of a length. -/
def burstBeats : BurstLength → Nat
  | .one => 1
  | .two => 2
  | .four => 4
  | .eight => 8

/-- The bytes of the block a transaction of a length covers. -/
def blockBytes (l : BurstLength) : Nat := 8 * burstBeats l

/-- The first address of the block that contains an address. -/
def blockBase (a : Nat) (l : BurstLength) : Nat := a / blockBytes l * blockBytes l

/-- The index of an address within its block. -/
def startIndex (a : Nat) (l : BurstLength) : Nat := a % blockBytes l / 8

/-- The block index carried by beat k of a transaction that begins at index `start` (Table 10.3). -/
def beatIndex (bord : Bool) (l : BurstLength) (start k : Nat) : Nat :=
  if bord then start ^^^ k else (start + k) % burstBeats l

/-- The block index carried by beat k of a request. -/
def State.beatOf (s : State) (q : HostRequest) (k : Nat) : Nat :=
  beatIndex s.straps.bord q.length (startIndex q.addr q.length) k

/-- The address carried by beat k of a request. -/
def State.beatAddr (s : State) (q : HostRequest) (k : Nat) : Nat := blockBase q.addr q.length + 8 * s.beatOf q k

/-! ### Classification (R167, Table 10.4) -/

/-- The region of Table 10.4 a beat falls under; offsets are control-area offsets, or offsets from the alias base. -/
inductive BeatRow where
  /-- row 1 -/
  | ring (offset : Nat)
  /-- row 2 -/
  | status
  /-- row 3 -/
  | readWord
  /-- row 4 -/
  | log
  /-- row 5 -/
  | control
  /-- row 6 -/
  | steeredTo (slot offset : Nat)
  /-- row 7 -/
  | blocked
  /-- row 8 -/
  | pinned
  /-- row 9 -/
  | onAirArt
  /-- row 10 -/
  | ordinary
  deriving DecidableEq, Repr

/-- The row of a beat in the control area, by its offset. -/
def controlRow (o : Nat) : BeatRow :=
  if o < 0x4000 then .ring o
  else if o < 0x5000 then .status
  else if o < 0x5008 then .readWord
  else if o < 0x8000 then .control
  else .log

/-- Whether an address lies in a ring slot whose pin count is above 0 (row 8). -/
def Intake.inPinnedSlot (n : Intake) (a : Nat) : Bool :=
  match n.ring with
  | some r =>
    inRange r.ringBase r.ringBytes a && (n.slots[(a - r.ringBase) / r.slotBytes]?).elim false fun x => decide (0 < x.pins)
  | none => false

/-- Whether an address lies in the art of a spot (R167). -/
def Spot.artContains (p : Spot) (a : Nat) : Bool := inRange p.artBase (imageBytes p.artW p.artH) a

/-- Whether an address lies in the art range of a spot on air (row 9). -/
def RotationUnit.inOnAirArt (u : RotationUnit) (a : Nat) : Bool :=
  allZones.any fun z => (u.zones[z]).showing.elim false fun h => (u.spot h.spotId).elim false fun p => p.artContains a

/-- Whether rows 8 and 9 close an address to the host as the bounds stand now (R167, R169). -/
def State.closed (s : State) (a : Nat) : Bool := s.intake.inPinnedSlot a || s.rotation.inOnAirArt a

/-- The row of a beat outside the control area and the alias (rows 8 to 10). -/
def plainRow (s : State) (a : Nat) : BeatRow :=
  if s.intake.inPinnedSlot a then .pinned else if s.rotation.inOnAirArt a then .onAirArt else .ordinary

/-- The row of a beat in the alias (rows 6 and 7). -/
def aliasRow (n : Intake) (r : RingDecl) (a : Nat) : BeatRow :=
  match n.intakeSlot with
  | some k => .steeredTo k (a - r.aliasBase)
  | none => .blocked

/-- The first region of Table 10.4 that contains the beat at an address. -/
def classify (s : State) (a : Nat) : BeatRow :=
  if s.controlBase ≤ a then controlRow (a - s.controlBase)
  else
    match s.intake.ring with
    | some r => if inRange r.aliasBase r.slotBytes a then aliasRow s.intake r a else plainRow s a
    | none => plainRow s a

/-- The address an alias offset is steered to in slot k (R30). -/
def steered (r : RingDecl) (k o : Nat) : Nat := r.slotBase k + o

/-! ### Shadows (R31, R178) -/

/-- The unmasked bytes from position `j` of a beat on, copied into the ring shadow (R178). -/
def shadowBeat (offset : Nat) (data : Beat) (mask : Byte) : List Nat → State → State
  | [], s => s
  | j :: rest, s =>
    shadowBeat offset data mask rest (if maskWrites mask j then s.putShadow (offset + j) (beatByte data j) else s)

/-- The eight byte positions of a beat. -/
def beatPositions : List Nat := [0, 1, 2, 3, 4, 5, 6, 7]

/-- The trailer shadow after a beat at an offset from the slot's base (R31). -/
def shadowTrailer (r : RingDecl) (o : Nat) (data : Beat) (mask : Byte) (t : Vector Byte 32) : Vector Byte 32 :=
  Vector.ofFn fun i : Fin 32 =>
    let at_ := r.trailerOffset + i.val
    if o ≤ at_ ∧ at_ < o + 8 ∧ maskWrites mask (at_ - o) = true then beatByte data (at_ - o) else t[i]

/-- The slot whose closing word a ring beat writes whole, if it does (R179). -/
def closedSlot (o : Nat) (mask : Byte) : Option RingSlot :=
  if o % 256 = 248 ∧ maskWritesWord mask 4 = true then some (Fin.ofNat 64 (o / 256)) else none

/-- Whether an alias beat writes the whole completion word (R32). -/
def writesCompletion (r : RingDecl) (o : Nat) (mask : Byte) : Bool := o == r.trailerOffset + 24 && maskWritesWord mask 4

/-- Whether a beat at the log read word writes all of it (R142). -/
def watchedValue (data : Beat) (mask : Byte) : Option Word := if maskWritesWord mask 0 then some (beatWord data 0) else none

/-! ### One write beat (R167, R168) -/

/-- A beat that goes to memory at an address. -/
def HostTransaction.forwardTo (a : Nat) (data : Beat) (mask : Byte) (remapped : Bool) (t : HostTransaction) : HostTransaction :=
  { t with forward := t.forward ++ [{ addr := a, data := data, mask := mask, remapped := remapped }] }

/-- The transaction in progress replaced. -/
def setTransaction (t : Option HostTransaction) (s : State) : State := { s with port := { s.port with transaction := t } }

/-- The trailer shadow replaced. -/
def setTrailer (t : Vector Byte 32) (s : State) : State := { s with intake := { s.intake with trailer := t } }

/-- What is done with an alias beat steered to slot k (row 6). -/
def remapBeat (k o : Nat) (data : Beat) (mask : Byte) (t : HostTransaction) (s : State) : State × HostTransaction :=
  match s.intake.ring with
  | some r =>
    (setTrailer (shadowTrailer r o data mask s.intake.trailer) s,
      { t.forwardTo (steered r k o) data mask true with completion := t.completion || writesCompletion r o mask })
  | none => (s, t)

/-- What is done with a beat that has an unmasked byte, by its row (Table 10.4, R168). -/
def rowEffect (row : BeatRow) (a : Nat) (data : Beat) (mask : Byte) (t : HostTransaction) (s : State) : State × HostTransaction :=
  match row with
  | .ring o =>
    (shadowBeat o data mask beatPositions s,
      { t.forwardTo a data mask false with closing := (closedSlot o mask).orElse fun _ => t.closing })
  | .status => (s.raise .filteredWrite, t)
  | .readWord => (s, { t.forwardTo a data mask false with watched := (watchedValue data mask).orElse fun _ => t.watched })
  | .log => (s.raise .filteredWrite, t)
  | .control => (s, t.forwardTo a data mask false)
  | .steeredTo k o => remapBeat k o data mask t s
  | .blocked => (s.raise .intakeBlocked, t)
  | .pinned => (s.raise .filteredWrite, t)
  | .onAirArt => (s.raise .filteredWrite, t)
  | .ordinary => (s, t.forwardTo a data mask false)

/-- One more beat received; after the last one the request enters the arbiter if any beat goes to memory (R166). -/
def HostTransaction.counted (t : HostTransaction) : HostTransaction :=
  let n := t.beats + 1
  { t with
    beats := n
    state := if n = burstBeats t.request.length ∧ t.forward.isEmpty = false then .waiting else t.state }

/-- A write beat of the transaction in progress; a wholly masked one writes nothing and counts for nothing (R168). -/
def writeBeat (data : Beat) (mask : Byte) (t : HostTransaction) (s : State) : State :=
  let a := s.beatAddr t.request t.beats
  if mask = 0 then setTransaction (some t.counted) s
  else
    let r := rowEffect (classify s a) a data mask t s
    setTransaction (some r.2.counted) r.1

/-- Whether a transaction is a WRITE that still expects beats. -/
def HostTransaction.expectsBeat (t : HostTransaction) : Bool :=
  t.request.isWrite && decide (t.beats < burstBeats t.request.length)

/-! ### Arrivals (R166, R170) -/

/-- The base of a READ's block: steered into the intake slot for an alias address, its own otherwise (R170). -/
def readBase (s : State) (a : Nat) (l : BurstLength) : Nat :=
  match s.intake.ring, s.intake.intakeSlot with
  | some r, some k =>
    if inRange r.aliasBase r.slotBytes a then steered r k (blockBase a l - r.aliasBase) else blockBase a l
  | _, _ => blockBase a l

/-- The transaction a request becomes at its arrival: a READ makes its memory request at once (R166). -/
def newTransaction (s : State) (q : HostRequest) : HostTransaction :=
  { request := q, beats := 0, forward := [], closing := none, completion := false, watched := none,
    readBase := readBase s q.addr q.length, state := if q.isWrite then .none else .waiting }

/-- A request whose address is reduced modulo the frame-store size in force and to a multiple of 8 (R164, R165). -/
def HostRequest.reduced (s : State) (q : HostRequest) : HostRequest := { q with addr := q.addr % s.memSize / 8 * 8 }

/-- A request arrives (R166). -/
def arrive (q : HostRequest) (s : State) : State := setTransaction (some (newTransaction s (q.reduced s))) s

/-- A host presents a request: it arrives if start-up is complete and no transaction is in progress, and is held off by WAIT* before
that (R166). The host presents none while one is in progress. -/
def present (q : HostRequest) (s : State) : State :=
  if s.phase = .running then (if s.port.transaction.isNone then arrive q s else s)
  else if s.port.presented.isNone then { s with port := { s.port with presented := some q } }
  else s

/-- Whether a request waits for the arbiter or is being served. -/
def RequestState.pending : RequestState → Bool
  | .none => false
  | .waiting => true
  | .granted => true
  | .served => false

/-- WAIT* is active until start-up is complete, and while a memory request waits or is served (R166). -/
def State.waitActive (s : State) : Bool :=
  s.phase != .running || s.port.transaction.elim false fun t => t.state.pending

/-! ### Meanings -/

/-- HOST_WRITE_ARRIVAL (R166). -/
def execHostWriteArrival (addr : Word) (length : BurstLength) (s : State) : Host.Outcome State Fault Refusal :=
  .next (present { isWrite := true, addr := addr.toNat, length := length } s)

/-- HOST_READ (R166, R170). -/
def execHostRead (addr : Word) (length : BurstLength) (s : State) : Host.Outcome State Fault Refusal :=
  .next (present { isWrite := false, addr := addr.toNat, length := length } s)

/-- WRITE_BEAT (R167, R168): the next beat of the WRITE in progress; without one it does not come about. -/
def execWriteBeat (data : Beat) (mask : Byte) (s : State) : Host.Outcome State Fault Refusal :=
  match s.port.transaction with
  | some t => if s.phase = .running ∧ t.expectsBeat = true then .next (writeBeat data mask t s) else .next s
  | none => .next s

end Sys2Proof.Machine
end

