-- ==== Sys2Proof/Machine/MemoryControl.lean ====
section
/-! DEFINITION. The memory controller (R169, R171-R174, R176): the end of an SDRAM access, the arbiter's choice, the steps of the
start-up, refresh, and the part write queue's waiting writes. -/

namespace Sys2Proof.Machine

/-! ### Writing to memory -/

/-- The unmasked bytes of a beat, written from position `j` on (R168). -/
def putBeat (a : Nat) (data : Beat) (mask : Byte) : List Nat → State → State
  | [], s => s
  | j :: rest, s => putBeat a data mask rest (if maskWrites mask j then s.putByte (a + j) (beatByte data j) else s)

/-- The beats of a burst written in the order they came. -/
def putBeats : List ForwardBeat → State → State
  | [], s => s
  | b :: rest, s => putBeats rest (putBeat b.addr b.data b.mask beatPositions s)

/-- A part write written to memory in full (R171); the write-back has landed when its tail word has (R185). -/
def landWrite (w : PartWrite) (s : State) : State :=
  let s' := s.putBytes (s.controlBase + w.offset) w.data
  if w.offset = tailOffset then { s' with command := { s'.command with statusInFlight := false } } else s'

/-! ### The data beats of a READ (R165, R170) -/

/-- The 8 bytes at an address as one beat. -/
def State.beatAt (s : State) (a : Nat) : Beat := BitVec.ofNat 64 (ofLeBytes (s.memBytes a 8))

/-- The data beats of a READ in the order they are returned. -/
def readBeats (t : HostTransaction) (s : State) : List Beat :=
  (List.range (burstBeats t.request.length)).map fun k => s.beatAt (t.readBase + 8 * s.beatOf t.request k)

/-! ### The steps of the start-up (R176) -/

/-- The step that begins when a step ends (R176). -/
def StartUpStep.next : StartUpStep → StartUpStep
  | .wait => .precharge
  | .precharge => .refreshes 0
  | .refreshes made => if made + 1 < Config.startUpRefreshes then .refreshes (made + 1) else .modeSet
  | .modeSet => .done
  | .done => .done

/-- Whether step 3 is in hand: the refresh deadline runs from there after power-on (R176). -/
def StartUpStep.refreshing : StartUpStep → Bool
  | .wait => false
  | .precharge => false
  | .refreshes _ => true
  | .modeSet => false
  | .done => false

/-- The step in hand ended and the next one begun (R176). -/
def MemoryController.nextStep (m : MemoryController) : MemoryController :=
  { m with startUp := m.startUp.next, deadlineBegun := m.deadlineBegun || m.startUp.next.refreshing }

/-! ### The end of an access (R172) -/

/-- The access in progress cleared. -/
def clearAccess (s : State) : State := { s with memctl := { s.memctl with access := none } }

/-- A block is fetched and joins the line buffer, unless its frame is over or its cell has been sent late (R22, R174). -/
def fetchDone (point addr : Nat) (s : State) : State :=
  if s.panel.fetchAt ≤ point ∨ s.panel.late.contains (s.composer.record.pointCell point) = true then s
  else { s with panel := { s.panel with lineBuffer := s.panel.lineBuffer ++ [{ addr := addr, bytes := s.memBytes addr 64 }] } }

/-- The SDRAM has served the host's request: it has taken a WRITE's last byte, or a READ's beats are returned and it ends (R166). -/
def servePlayout (s : State) : State :=
  match s.port.transaction with
  | some t =>
    if t.request.isWrite then setTransaction (some { t with state := .served }) s
    else { s with port := { s.port with transaction := none, readData := readBeats t s } }
  | none => s

/-- The start-up step in hand has been carried out. -/
def endStartUpStep (s : State) : State := { s with memctl := s.memctl.nextStep }

/-- What the end of an access does. -/
def finishAccess (s : State) : State :=
  match s.memctl.access with
  | none => s
  | some .refresh => clearAccess s
  | some (.scan point addr) => clearAccess (fetchDone point addr s)
  | some (.queueEntry w) => clearAccess (landWrite w s)
  | some .playout => clearAccess (servePlayout s)
  | some .startUp => clearAccess (endStartUpStep s)

/-! ### The arbiter (R172) -/

/-- Half the line buffer's capacity, in pixels (R174). -/
def halfBuffer : Nat := Config.lineBufferPixels / 2

/-- The pixels in the line buffer: each fetched block takes room for 16, the second block of a blend too, and a pixel that needs no fetch
takes none (R174; DESIGN CHOICE, notes/assumptions/39). -/
def PanelScan.pixels (p : PanelScan) : Nat := 16 * p.lineBuffer.length

/-- The fetch point and the block for which the scan-out requests the SDRAM: the frame's next one while the line buffer holds less
than half its capacity, in the active scan and in blanking (R174). -/
def State.scanRequest (s : State) : Option (Nat × Nat) :=
  if s.panel.pixels < halfBuffer then s.nextFetch s.panel.fetchAt else none

/-- Whether a host request is waiting. -/
def State.playoutWaits (s : State) : Bool := s.port.transaction.elim false fun t => t.state == .waiting

/-- What the arbiter grants. -/
inductive Grant where
  | refresh
  | scan (point addr : Nat)
  | queue
  | playout
  | startUp
  deriving DecidableEq, Repr

/-- What the start-up asks for when no refresh is due: step 2 once the wait is over, then its steps one after another (R176). -/
def startUpChoice (waitOver : Bool) (step : StartUpStep) : Option Grant :=
  match step with
  | .wait => if waitOver then some .startUp else none
  | .precharge => some .startUp
  | .refreshes _ => some .startUp
  | .modeSet => some .startUp
  | .done => none

/-- Rows 2 to 5 (R172). -/
def runningChoice (s : State) : Option Grant :=
  match s.scanRequest with
  | some (point, a) => some (.scan point a)
  | none =>
    if Config.queueTurn ≤ s.memctl.queue.length ∧ s.memctl.lastPlayout = true then some .queue
    else if s.playoutWaits then some .playout
    else if s.memctl.queue.isEmpty then none
    else some .queue

/-- The arbiter's choice when the SDRAM is free: a due refresh first (R172); then, in start-up, its steps (R176), and in a running part
rows 2 to 5; while RESET* is low nothing else (R177). -/
def arbiterChoice (i : ChoiceInput) (s : State) : Option Grant :=
  if 0 < s.memctl.refreshDue then some .refresh
  else
    match s.phase with
    | .powerOnReset => none
    | .resetLow => none
    | .startUp => startUpChoice i.waitOver s.memctl.startUp
    | .running => runningChoice s

/-- A beat that is dropped at the grant: forwarded at its arrival, but closed to the host by then (R169). -/
def droppedAtGrant (s : State) (b : ForwardBeat) : Bool := !b.remapped && s.closed b.addr

/-- The beats of a burst that are still open to the host (R169). -/
def openBeats (t : HostTransaction) (s : State) : List ForwardBeat := t.forward.filter fun b => !droppedAtGrant s b

/-- A host write's beats tested a second time at its grant (R169). -/
def retestBeats (t : HostTransaction) (s : State) : State :=
  setTransaction (some { t with forward := openBeats t s, state := .granted })
    (s.raiseIf (t.forward.any (droppedAtGrant s)) .filteredWrite)

/-- The host's request granted. The open beats of a WRITE are written now, so that no change of the pins or of the art on air after the
grant comes before them (R169; DEDUCED, notes/assumptions/32). -/
def grantPlayout (s : State) : State :=
  match s.port.transaction with
  | some t =>
    let s' := if t.request.isWrite then putBeats (openBeats t s) (retestBeats t s) else retestBeats t s
    { s' with memctl := { s'.memctl with access := some .playout, lastPlayout := true } }
  | none => s

/-- The front entry of the queue granted; a waiting write joins as it leaves (R171). -/
def grantQueue (joinFirst : WriterBlock) (s : State) : State :=
  match s.memctl.queue with
  | w :: rest =>
    { s with
      memctl := ({ s.memctl with queue := rest, access := some (.queueEntry w), lastPlayout := false }).join joinFirst }
  | [] => s

/-- The scan-out's access for a fetch point granted; the fetch goes on behind it. -/
def grantScan (point addr : Nat) (s : State) : State :=
  { s with
    memctl := { s.memctl with access := some (.scan point addr) }
    panel := { s.panel with fetchAt := point + 1 } }

/-- A start-up step begun on the SDRAM; at the end of the wait that is step 2 (R176). -/
def grantStartUp (s : State) : State :=
  let m := if s.memctl.startUp = .wait then s.memctl.nextStep else s.memctl
  { s with memctl := { m with access := some .startUp } }

/-- A grant begun. -/
def beginGrant (joinFirst : WriterBlock) (g : Grant) (s : State) : State :=
  match g with
  | .refresh => { s with memctl := { s.memctl with refreshDue := s.memctl.refreshDue - 1, access := some .refresh } }
  | .scan point addr => grantScan point addr s
  | .queue => grantQueue joinFirst s
  | .playout => grantPlayout s
  | .startUp => grantStartUp s

/-- The arbiter grants the first request that applies. -/
def grantNext (i : ChoiceInput) (joinFirst : WriterBlock) (s : State) : State :=
  match arbiterChoice i s with
  | some g => beginGrant joinFirst g s
  | none => s

/-- The blocks the panel link has sent leave the line buffer (R174). -/
def sendBlocks (n : Nat) (s : State) : State := { s with panel := { s.panel with lineBuffer := s.panel.lineBuffer.drop n } }

/-- An access ends, if one is in progress, and the arbiter chooses the next (R172). -/
def accessEnd (i : ChoiceInput) (joinFirst : WriterBlock) (s : State) : State :=
  grantNext i joinFirst (sendBlocks i.sent (finishAccess s))

/-! ### Refresh (R173, R176) -/

/-- Whether the refresh deadline runs: in a running part, and before that once step 3 of a start-up has been reached since power-on
(R173, R176, R177). -/
def State.deadlineRuns (s : State) : Bool :=
  match s.phase with
  | .powerOnReset => false
  | .resetLow => s.memctl.deadlineBegun
  | .startUp => s.memctl.deadlineBegun
  | .running => true

/-! ### Meanings -/

/-- ACCESS_END (R172). Before the release that follows power-on no access is made. -/
def execAccessEnd (choice : ChoiceInput) (joinFirst : WriterBlock) (s : State) : Host.Outcome State Fault Refusal :=
  if s.phase = .powerOnReset then .next s else .next (accessEnd choice joinFirst s)

/-- REFRESH_DUE (R173): one more refresh is due, if the deadline runs. -/
def execRefreshDue (s : State) : Host.Outcome State Fault Refusal :=
  if s.deadlineRuns then .next { s with memctl := { s.memctl with refreshDue := s.memctl.refreshDue + 1 } } else .next s

/-- QUEUE_JOIN (R171): a waiting write joins if the queue has room. -/
def execQueueJoin (joinFirst : WriterBlock) (s : State) : Host.Outcome State Fault Refusal :=
  if s.phase = .running then .next { s with memctl := s.memctl.join joinFirst } else .next s

end Sys2Proof.Machine
end

