-- ==== Sys2Proof/Machine/Resets.lean ====
section
/-! DEFINITION. Power-on, RESET* and the start-up of the frame store (R24, R44, R64, R128, R145, R171, R175-R178, R182, R183). -/

namespace Sys2Proof.Machine

/-- The values every block takes after power-on and after RESET*, with the reset causes given. The frame store, the memory controller,
the playout port, the straps and the part's phase are the callers'. -/
def resetBlocks (causes : ResetCauses) (s : State) : State :=
  { s with
    timing := FrameTiming.reset
    composer := Composer.reset
    panel := PanelScan.reset
    intake := Intake.reset
    roller := Roller.reset
    clock := ClockUnit.reset
    console := Console.reset
    score := ScoreUnit.reset
    rotation := RotationUnit.reset
    exposure := ExposureCounter.reset
    ticker := TickerUnit.reset
    command := CommandUnit.reset causes }

/-- The causes after power-on: {POWER_ON} (R183). -/
def powerOnCauses : ResetCauses := { powerOn := true, resetLine := false, restart := false }

/-- The access in progress when RESET* goes low (R171, R177): a queue entry is finished, a scan-out access's data is discarded, a refresh
goes on. A granted host burst is in memory since its grant. -/
def settleAccess (s : State) : State :=
  match s.memctl.access with
  | none => s
  | some .refresh => s
  | some (.scan _ _) => clearAccess s
  | some (.queueEntry w) => clearAccess (landWrite w s)
  | some .playout => clearAccess s
  | some .startUp => clearAccess s

/-- The memory controller when RESET* goes low: the queue and the waiting writes are discarded, the deadline and a refresh in progress go
on (R171, R177), no grant counts as made (R172), and the next start-up begins with its first step (R176). -/
def MemoryController.resetLine (m : MemoryController) : MemoryController :=
  { MemoryController.reset with refreshDue := m.refreshDue, access := m.access, deadlineBegun := m.deadlineBegun }

/-- RESET* driven low while the part is in start-up or running. -/
def resetLineLow (s : State) : State :=
  let s' := settleAccess s
  { resetBlocks s'.command.causes s' with
    phase := .resetLow
    memctl := s'.memctl.resetLine
    port := { PlayoutPort.reset with presented := s'.port.presented } }

/-- The straps are sampled and the start-up of the frame store begins with its first step, the wait (R175, R176). -/
def beginStartUp (straps : Straps) (s : State) : State := { s with phase := .startUp, straps := straps }

/-- RESET_LINE added to the causes (R183). -/
def addResetLine (s : State) : State :=
  { s with command := { s.command with causes := { s.command.causes with resetLine := true } } }

/-- Start-up is complete: a transaction that WAIT* held off arrives (R166, R176). -/
def completeStartUp (s : State) : State :=
  let s' := { s with phase := .running, timing := { s.timing with blanking := true } }
  match s.port.presented with
  | some q => arrive q { s' with port := { s'.port with presented := none } }
  | none => s'

/-! ### Meanings -/

/-- POWER_ON (R24, R177, R183): every block at its power-on value, the frame store unknown, the causes {POWER_ON}. -/
def execPowerOn (s : State) : Host.Outcome State Fault Refusal :=
  .next
    { resetBlocks powerOnCauses s with
      phase := .powerOnReset
      powerOns := s.powerOns + 1
      memctl := MemoryController.reset
      port := PlayoutPort.reset
      mem := [] }

/-- RESET_LINE_LOW (R177). -/
def execResetLineLow (s : State) : Host.Outcome State Fault Refusal :=
  match s.phase with
  | .powerOnReset => .next s
  | .resetLow => .next s
  | .startUp => .next (resetLineLow s)
  | .running => .next (resetLineLow s)

/-- RESET_RELEASE (R175, R176). The release after power-on adds no cause (DEDUCED, notes/assumptions/11). -/
def execResetRelease (straps : Straps) (s : State) : Host.Outcome State Fault Refusal :=
  match s.phase with
  | .powerOnReset => .next (beginStartUp straps s)
  | .resetLow => .next (beginStartUp straps (addResetLine s))
  | .startUp => .next s
  | .running => .next s

/-- START_UP_COMPLETE: step 5, which begins when steps 1 to 4 have ended (R176). -/
def execStartUpComplete (s : State) : Host.Outcome State Fault Refusal :=
  match s.phase with
  | .powerOnReset => .next s
  | .resetLow => .next s
  | .startUp => if s.memctl.startUp = .done then .next (completeStartUp s) else .next s
  | .running => .next s

end Sys2Proof.Machine
end

