-- ==== Sys2Proof/Machine/Tick.lean ====
section
/-! DEFINITION. The millisecond tick (R64, R66, R89, R92) and the rows of the table that name what may come about within one:
PERIOD_END, MARK_FIRES, SHOT_CLOCK_END, HORN_TIMER_RUNS_OUT and LINE_EDGE. Each of those is the whole tick, in a state in which its
event comes about in it; in any other state it does not come about and nothing changes (notes/assumptions/4). -/

namespace Sys2Proof.Machine

/-- What came about in a tick: the clock unit's events and the lines with an accepted edge. -/
structure TickEvents where
  clock : ClockEvents
  edges : List (Fin 8)
  deriving DecidableEq, Repr

/-- The order of a tick's parts with every part made to stand exactly once: repeats are dropped, missing parts follow in the
order of `tickParts`. -/
def completeOrder (order : List TickPart) : List TickPart := (order ++ tickParts).eraseDups

/-- One part of a tick: the clock unit's work of R66 with its events handed on, or one line's sample (R89, R92). -/
def tickPart (lines : Byte) (p : TickPart) (r : State × TickEvents) : State × TickEvents :=
  match p with
  | .clockWork =>
    let q := r.1.clock.tick
    (handOn q.2 { r.1 with clock := q.1 }, { r.2 with clock := q.2 })
  | .line n =>
    if r.1.console.seeded then
      (sampleLine lines n r.1,
        { r.2 with edges := if (r.1.console.lines[n]).accepts (rawLevel lines n) then r.2.edges ++ [n] else r.2.edges })
    else r

/-- The parts of a tick one after another. -/
def tickRun (lines : Byte) : List TickPart → State × TickEvents → State × TickEvents
  | [], r => r
  | p :: rest, r => tickRun lines rest (tickPart lines p r)

/-- A whole millisecond tick. In the first one after the release of reset the lines are seeded and no edge occurs (R89). -/
def millisecondTick (t : TickInput) (s : State) : State × TickEvents :=
  let r := tickRun t.lines (completeOrder t.order) (s, { clock := ClockEvents.none, edges := [] })
  if s.console.seeded then r else (seedLines t.lines r.1, r.2)

/-- Ticks come from the release of reset on, start-up or not; none comes while reset holds (R64). -/
def State.ticking (s : State) : Bool := s.phase == .startUp || s.phase == .running

/-- A tick taken only if the named event comes about in it. -/
def tickWith (due : TickEvents → Bool) (t : TickInput) (s : State) : State :=
  if s.ticking then
    let r := millisecondTick t s
    if due r.2 then r.1 else s
  else s

/-! ### Meanings -/

/-- MILLISECOND_TICK (R66). -/
def execMillisecondTick (tick : TickInput) (s : State) : Host.Outcome State Fault Refusal :=
  .next (tickWith (fun _ => true) tick s)

/-- PERIOD_END (R68). -/
def execPeriodEnd (tick : TickInput) (s : State) : Host.Outcome State Fault Refusal :=
  .next (tickWith (fun e => e.clock.periodEnd) tick s)

/-- MARK_FIRES (R75). -/
def execMarkFires (tick : TickInput) (s : State) : Host.Outcome State Fault Refusal :=
  .next (tickWith (fun e => e.clock.mark0 || e.clock.mark1) tick s)

/-- SHOT_CLOCK_END (R77). -/
def execShotClockEnd (tick : TickInput) (s : State) : Host.Outcome State Fault Refusal :=
  .next (tickWith (fun e => e.clock.shotEnd) tick s)

/-- HORN_TIMER_RUNS_OUT (R83, R84). -/
def execHornTimerRunsOut (tick : TickInput) (s : State) : Host.Outcome State Fault Refusal :=
  .next (tickWith (fun e => e.clock.hornOut) tick s)

/-- LINE_EDGE (R90). -/
def execLineEdge (line : Fin 8) (tick : TickInput) (s : State) : Host.Outcome State Fault Refusal :=
  .next (tickWith (fun e => e.edges.contains line) tick s)

end Sys2Proof.Machine
end

