-- ==== Sys2Proof/Machine/WriteEnd.lean ====
section
/-! DEFINITION. The end of a host WRITE (R166): the taking of the command it closed (R179), the completion, the watched write, and an
intake retry held over to this end (R36). -/

namespace Sys2Proof.Machine

/-- The rule of a host command (R179 step 3); an event is not a command and has none. -/
def commandRule : Instr → Option CommandRule
  | .powerOn => none
  | .resetLineLow => none
  | .resetRelease _ => none
  | .startUpComplete => none
  | .millisecondTick _ => none
  | .periodEnd _ => none
  | .markFires _ => none
  | .shotClockEnd _ => none
  | .hornTimerRunsOut _ => none
  | .lineEdge _ _ => none
  | .frameEnd _ => none
  | .frameStart => none
  | .leadInEnd _ => none
  | .underrun _ _ => none
  | .intakeRetry => none
  | .dwellDone _ _ => none
  | .coverLimit _ _ => none
  | .messageExpiry _ => none
  | .passEnd _ => none
  | .hostWriteArrival _ _ => none
  | .writeBeat _ _ => none
  | .hostWriteEnd _ _ => none
  | .hostRead _ _ => none
  | .completion => none
  | .watchedWrite _ => none
  | .refreshDue => none
  | .accessEnd _ _ => none
  | .queueJoin _ => none
  | .unknownKind _ _ _ _ => none
  | .nop _ => some ruleNop
  | .ackFlags _ mask => some (ruleAckFlags mask)
  | .setAttnMask _ mask => some (ruleSetAttnMask mask)
  | .ackCauses _ => some ruleAckCauses
  | .restart _ => some ruleRestart
  | .setScreen _ w h => some (ruleSetScreen w h)
  | .stageZone _ index zone => some (ruleStageZone index zone)
  | .applyPlan _ => some ruleApplyPlan
  | .cancelStage _ => some ruleCancelStage
  | .setOutputMode _ mode => some (ruleSetOutputMode mode)
  | .setHouseSlate _ present base => some (ruleSetHouseSlate present base)
  | .setFont _ present base => some (ruleSetFont present base)
  | .setRing _ ringBase aliasBase w h count => some (ruleSetRing ringBase aliasBase w h count)
  | .holdFrames _ first last => some (ruleHoldFrames first last)
  | .releaseFrames _ first last => some (ruleReleaseFrames first last)
  | .discardFrames _ first last => some (ruleDiscardFrames first last)
  | .roll _ payload => some (ruleRoll payload)
  | .setSpeed _ speed direction => some (ruleSetSpeed speed direction)
  | .stopReplay _ => some ruleStopReplay
  | .setGameClock _ value limit direction tenths => some (ruleSetGameClock value limit direction tenths)
  | .startClock _ => some startClock
  | .stopClock _ => some stopClock
  | .adjustClock _ delta => some (ruleAdjustClock delta)
  | .setMark _ mark present actions value => some (ruleSetMark mark present actions value)
  | .setShotClock _ preset follow startOnGame shotHorn => some (ruleSetShotClock preset follow startOnGame shotHorn)
  | .shotReset _ => some shotReset
  | .shotStart _ => some shotStart
  | .shotStop _ => some shotStop
  | .shotBlank _ => some shotBlank
  | .setHorn _ periodTime shotTime endHorn => some (ruleSetHorn periodTime shotTime endHorn)
  | .soundHorn _ duration => some (ruleSoundHorn duration)
  | .setLine _ line function activeLevel filter lines => some (ruleSetLine line function activeLevel filter lines)
  | .setCapture _ channel source line edge => some (ruleSetCapture channel source line edge)
  | .setScore _ field value => some (ruleSetScore field value)
  | .addScore _ field delta => some (ruleAddScore field delta)
  | .setFlash _ frames => some (ruleSetFlash frames)
  | .defineSpot _ payload => some (ruleDefineSpot payload)
  | .withdrawSpot _ id => some (ruleWithdrawSpot id)
  | .setRotation _ zone count ids => some (ruleSetRotation zone count ids)
  | .setSting _ zone id => some (ruleSetSting zone id)
  | .setContract _ id seconds => some (ruleSetContract id seconds)
  | .resetTotals _ id => some (ruleResetTotals id)
  | .postMessage _ payload => some (rulePostMessage payload)
  | .cancelMessage _ tag => some (ruleCancelMessage tag)
  | .clearMessages _ => some ruleClearMessages
  | .setTicker _ speed gap => some (ruleSetTicker speed gap)

/-- The bytes of a slot in the ring shadow, by slot offset. -/
def State.slotByte (s : State) (slot : RingSlot) (o : Nat) : Byte := s.shadowByte (256 * slot.val + o)

/-- A closed slot is decided from the shadow (R179). -/
def takeSlot (slot : RingSlot) (lines : Byte) (s : State) : State :=
  match decodeSlot slot lines (s.slotByte slot) with
  | .malformed => takeCommand slot (refuse .malformed) s
  | .unknownKind => takeCommand slot (refuse .unknownKind) s
  | .command i =>
    match commandRule i with
    | some rule => takeCommand slot rule s
    | none => s

/-- The end-of-burst events handed on (R166); a burst carries at most one. -/
def endOfBurst (lines : Byte) (t : HostTransaction) (s : State) : State :=
  let s1 :=
    match t.closing with
    | some slot => takeSlot slot lines s
    | none => s
  let s2 := if t.completion then examineTrailer s1 else s1
  match t.watched with
  | some v => watchedWrite v s2
  | none => s2

/-- Whether a WRITE can end: all its beats have come, and what goes to memory has been served (R166). -/
def HostTransaction.canEnd (t : HostTransaction) : Bool :=
  t.request.isWrite && t.beats == burstBeats t.request.length && !t.state.pending && (t.state == .served || t.forward.isEmpty)

/-- The WRITE ends: the transaction is over, its events are handed on, and a held-over retry is made, in either order (R36, R166). -/
def writeEnd (lines : Byte) (retryFirst : Bool) (t : HostTransaction) (s : State) : State :=
  let s' := setTransaction none s
  if retryFirst then endOfBurst lines t (retryHeldOver s') else retryHeldOver (endOfBurst lines t s')

/-- HOST_WRITE_END (R166). -/
def execHostWriteEnd (lines : Byte) (retryFirst : Bool) (s : State) : Host.Outcome State Fault Refusal :=
  match s.port.transaction with
  | some t => if s.phase = .running ∧ t.canEnd = true then .next (writeEnd lines retryFirst t s) else .next s
  | none => .next s

end Sys2Proof.Machine
end

