-- ==== Sys2Proof/Machine/Dispatch.lean ====
section
/-! DEFINITION. One arm per command: each calls the one definition that gives the command its meaning. -/

namespace Sys2Proof.Machine

def exec (i : Instr) (s : State) : Host.Outcome State Fault Refusal :=
  match i with
  | .powerOn => Sys2Proof.Machine.execPowerOn s
  | .resetLineLow => Sys2Proof.Machine.execResetLineLow s
  | .resetRelease straps => Sys2Proof.Machine.execResetRelease straps s
  | .startUpComplete => Sys2Proof.Machine.execStartUpComplete s
  | .millisecondTick tick => Sys2Proof.Machine.execMillisecondTick tick s
  | .periodEnd tick => Sys2Proof.Machine.execPeriodEnd tick s
  | .markFires tick => Sys2Proof.Machine.execMarkFires tick s
  | .shotClockEnd tick => Sys2Proof.Machine.execShotClockEnd tick s
  | .hornTimerRunsOut tick => Sys2Proof.Machine.execHornTimerRunsOut tick s
  | .lineEdge line tick => Sys2Proof.Machine.execLineEdge line tick s
  | .frameEnd retryFirst => Sys2Proof.Machine.execFrameEnd retryFirst s
  | .frameStart => Sys2Proof.Machine.execFrameStart s
  | .leadInEnd zone => Sys2Proof.Machine.execLeadInEnd zone s
  | .underrun cx cy => Sys2Proof.Machine.execUnderrun cx cy s
  | .intakeRetry => Sys2Proof.Machine.execIntakeRetry s
  | .dwellDone zone retryFirst => Sys2Proof.Machine.execDwellDone zone retryFirst s
  | .coverLimit zone retryFirst => Sys2Proof.Machine.execCoverLimit zone retryFirst s
  | .messageExpiry retryFirst => Sys2Proof.Machine.execMessageExpiry retryFirst s
  | .passEnd retryFirst => Sys2Proof.Machine.execPassEnd retryFirst s
  | .hostWriteArrival addr length => Sys2Proof.Machine.execHostWriteArrival addr length s
  | .writeBeat data mask => Sys2Proof.Machine.execWriteBeat data mask s
  | .hostWriteEnd lines retryFirst => Sys2Proof.Machine.execHostWriteEnd lines retryFirst s
  | .hostRead addr length => Sys2Proof.Machine.execHostRead addr length s
  | .completion => Sys2Proof.Machine.execCompletion s
  | .watchedWrite value => Sys2Proof.Machine.execWatchedWrite value s
  | .refreshDue => Sys2Proof.Machine.execRefreshDue s
  | .accessEnd choice joinFirst => Sys2Proof.Machine.execAccessEnd choice joinFirst s
  | .queueJoin joinFirst => Sys2Proof.Machine.execQueueJoin joinFirst s
  | .unknownKind slot kind tag closing => Sys2Proof.Machine.execUnknownKind slot kind tag closing s
  | .nop slot => Sys2Proof.Machine.execNop slot s
  | .ackFlags slot mask => Sys2Proof.Machine.execAckFlags slot mask s
  | .setAttnMask slot mask => Sys2Proof.Machine.execSetAttnMask slot mask s
  | .ackCauses slot => Sys2Proof.Machine.execAckCauses slot s
  | .restart slot => Sys2Proof.Machine.execRestart slot s
  | .setScreen slot w h => Sys2Proof.Machine.execSetScreen slot w h s
  | .stageZone slot index zone => Sys2Proof.Machine.execStageZone slot index zone s
  | .applyPlan slot => Sys2Proof.Machine.execApplyPlan slot s
  | .cancelStage slot => Sys2Proof.Machine.execCancelStage slot s
  | .setOutputMode slot mode => Sys2Proof.Machine.execSetOutputMode slot mode s
  | .setHouseSlate slot present base => Sys2Proof.Machine.execSetHouseSlate slot present base s
  | .setFont slot present base => Sys2Proof.Machine.execSetFont slot present base s
  | .setRing slot ringBase aliasBase w h count => Sys2Proof.Machine.execSetRing slot ringBase aliasBase w h count s
  | .holdFrames slot first last => Sys2Proof.Machine.execHoldFrames slot first last s
  | .releaseFrames slot first last => Sys2Proof.Machine.execReleaseFrames slot first last s
  | .discardFrames slot first last => Sys2Proof.Machine.execDiscardFrames slot first last s
  | .roll slot payload => Sys2Proof.Machine.execRoll slot payload s
  | .setSpeed slot speed direction => Sys2Proof.Machine.execSetSpeed slot speed direction s
  | .stopReplay slot => Sys2Proof.Machine.execStopReplay slot s
  | .setGameClock slot value limit direction tenths => Sys2Proof.Machine.execSetGameClock slot value limit direction tenths s
  | .startClock slot => Sys2Proof.Machine.execStartClock slot s
  | .stopClock slot => Sys2Proof.Machine.execStopClock slot s
  | .adjustClock slot delta => Sys2Proof.Machine.execAdjustClock slot delta s
  | .setMark slot mark present actions value => Sys2Proof.Machine.execSetMark slot mark present actions value s
  | .setShotClock slot preset follow startOnGame shotHorn => Sys2Proof.Machine.execSetShotClock slot preset follow startOnGame shotHorn s
  | .shotReset slot => Sys2Proof.Machine.execShotReset slot s
  | .shotStart slot => Sys2Proof.Machine.execShotStart slot s
  | .shotStop slot => Sys2Proof.Machine.execShotStop slot s
  | .shotBlank slot => Sys2Proof.Machine.execShotBlank slot s
  | .setHorn slot periodTime shotTime endHorn => Sys2Proof.Machine.execSetHorn slot periodTime shotTime endHorn s
  | .soundHorn slot duration => Sys2Proof.Machine.execSoundHorn slot duration s
  | .setLine slot line function activeLevel filter lines => Sys2Proof.Machine.execSetLine slot line function activeLevel filter lines s
  | .setCapture slot channel source line edge => Sys2Proof.Machine.execSetCapture slot channel source line edge s
  | .setScore slot field value => Sys2Proof.Machine.execSetScore slot field value s
  | .addScore slot field delta => Sys2Proof.Machine.execAddScore slot field delta s
  | .setFlash slot frames => Sys2Proof.Machine.execSetFlash slot frames s
  | .defineSpot slot payload => Sys2Proof.Machine.execDefineSpot slot payload s
  | .withdrawSpot slot id => Sys2Proof.Machine.execWithdrawSpot slot id s
  | .setRotation slot zone count ids => Sys2Proof.Machine.execSetRotation slot zone count ids s
  | .setSting slot zone id => Sys2Proof.Machine.execSetSting slot zone id s
  | .setContract slot id seconds => Sys2Proof.Machine.execSetContract slot id seconds s
  | .resetTotals slot id => Sys2Proof.Machine.execResetTotals slot id s
  | .postMessage slot payload => Sys2Proof.Machine.execPostMessage slot payload s
  | .cancelMessage slot tag => Sys2Proof.Machine.execCancelMessage slot tag s
  | .clearMessages slot => Sys2Proof.Machine.execClearMessages slot s
  | .setTicker slot speed gap => Sys2Proof.Machine.execSetTicker slot speed gap s

end Sys2Proof.Machine
end

