-- ==== Sys2Proof/Safety.lean ====
section
/-! DEFINITION. The terms claims are stated in: what a host command answers, ticks without an edge, and the properties the manual says
hold at all times (R15, R29, R33, R37, R67, R82, R100, R127, R143, R149, R166, R169, R171), each as a predicate on a state. -/

namespace Sys2Proof.Machine

/-- A host command taken at a slot takes the state `s` to `s'` and then has its result delivered (R179 step 3, R181). -/
def Answers (c : Instr) (slot : RingSlot) (s s' : State) (r : Result) : Prop := exec c s = .next (finishCommand slot r s')

/-- A tick in which no line differs from its accepted level, so that no edge can be accepted, after the lines have been seeded. -/
def QuietTick (t : TickInput) (s : State) : Prop :=
  s.console.seeded = true ∧ ∀ n : Fin 8, rawLevel t.lines n = (s.console.lines[n]).accepted

/-- A tick in which the clocks only move: a RUNNING game clock reaches neither its end value nor a mark, and a RUNNING shot clock does not
reach 0 (R68, R75, R77). -/
def ClocksOnlyMove (c : ClockUnit) : Prop :=
  (c.game.state = .running →
    c.game.moved ≠ c.game.endValue ∧ c.mark0.value ≠ some c.game.moved ∧ c.mark1.value ≠ some c.game.moved) ∧
  (c.shot.state = .running → 1 < c.shot.value)

/-- Both byte stores stand in their canonical form. -/
def MemoryCanonical (s : State) : Prop := s.mem.wf none = true ∧ s.command.shadow.wf (some 0) = true

/-- The game clock lies in its range, and is ENDED exactly at its end value (R67). -/
def GameClock.Sound (g : GameClock) : Prop :=
  g.value ≤ Config.clockMax ∧ 1 ≤ g.limit ∧ g.limit ≤ Config.clockMax ∧ (g.direction = .up → g.value ≤ g.limit) ∧
  (g.state = .ended ↔ g.value = g.endValue)

/-- The shot clock lies in its range: above 0 when STOPPED or RUNNING, 0 when ENDED (R76). -/
def ShotClock.Sound (t : ShotClock) : Prop :=
  1000 ≤ t.preset ∧ t.preset ≤ 99000 ∧ t.value ≤ 99000 ∧ (t.state = .stopped ∨ t.state = .running → 0 < t.value) ∧
  (t.state = .ended → t.value = 0)

/-- The horn settings and timer lie in their ranges (R82). -/
def Horn.Sound (h : Horn) : Prop :=
  100 ≤ h.periodTime ∧ h.periodTime ≤ 5000 ∧ 100 ≤ h.shotTime ∧ h.shotTime ≤ 5000 ∧ h.timer ≤ 5000

/-- The clock unit's items lie in their ranges (R67, R74, R76, R82). -/
def ClocksSound (s : State) : Prop :=
  s.clock.game.Sound ∧ s.clock.shot.Sound ∧ s.clock.horn.Sound ∧ s.clock.mark0.value.getD 0 ≤ Config.clockMax ∧
  s.clock.mark1.value.getD 0 ≤ Config.clockMax

/-- Every field of the score record lies within its range, and the flash length and counters within theirs (R100). -/
def ScoresInRange (s : State) : Prop :=
  (∀ f : Fin 10, s.score.fields[f] ≤ fieldMax f) ∧ s.score.flashLength ≤ 255 ∧ s.score.homeFlash ≤ 255 ∧ s.score.guestFlash ≤ 255

/-- At most 1,024 records are unreleased (R143), and the missed count lies in its range (R131). -/
def LogBounded (s : State) : Prop := s.exposure.unreleased ≤ Config.logRecords ∧ s.exposure.missed ≤ 65535

/-- The tags of the entries held, waiting and showing. -/
def TickerUnit.tags (t : TickerUnit) : List Nat :=
  t.waiting.map TickerEntry.tag ++ (t.showing.map fun x => x.entry.tag).toList

/-- The chunks held by the entries. -/
def TickerUnit.heldChunks (t : TickerUnit) : Nat :=
  (t.waiting.map TickerEntry.chunks).sum + t.showing.elim 0 fun x => x.entry.chunks

/-- Tags are unique, chunks held and free number 128, and at most 32 entries are held (R147, R149). -/
def PoolBalanced (s : State) : Prop :=
  s.ticker.tags.Nodup ∧ s.ticker.heldChunks + s.ticker.freeChunks = Config.poolChunks ∧ s.ticker.heldCount ≤ Config.messagePlaces

/-- A spot is on air in at most one zone (R127), and a spot on air is defined. -/
def OnAirExclusive (s : State) : Prop :=
  (∀ z z' : ZoneIx, ∀ h ∈ (s.rotation.zones[z]).showing, ∀ h' ∈ (s.rotation.zones[z']).showing, h.spotId = h'.spotId → z = z') ∧
  ∀ z : ZoneIx, ∀ h ∈ (s.rotation.zones[z]).showing, (s.rotation.spot h.spotId).isSome = true

/-- The indices of the FILLING slots. -/
def Intake.fillingSlots (n : Intake) : List Nat :=
  (n.indexed.filter fun p => p.2.state == .filling).map Prod.fst

/-- The frame numbers of the READY and HELD slots. -/
def Intake.frames (n : Intake) : List Word := n.slots.filterMap fun r => r.state.frame

/-- The slot table fits the declaration, the FILLING slot is the intake slot, no frame number stands twice, and the held count is within
the hold limit (R29, R33). -/
def SlotTableSound (n : Intake) : Prop :=
  n.fillingSlots = n.intakeSlot.toList ∧ n.frames.Nodup ∧ n.heldCount ≤ n.holdLimit ∧
  match n.ring with
  | some r => n.slots.length = r.count ∧ 4 ≤ r.count ∧ r.count ≤ 64
  | none => n.slots = [] ∧ n.intakeSlot = none

/-- Every frame the show plan names is present, and an IDLE roller has no show plan (R37, R46). -/
def PlanPresent (r : Roller) (n : Intake) : Prop :=
  (r.state = .idle → r.showPlan = none) ∧
  ∀ p ∈ r.showPlan, n.present p.a = true ∧ ∀ b ∈ p.b, n.present b = true

/-- A slot's pin count is the number of pins the composer holds on it, and a pinned slot is READY or HELD (R21, R37). -/
def PinsSound (c : Composer) (n : Intake) : Prop :=
  (∀ p ∈ n.indexed, p.2.pins = c.pins.count p.1 ∧ (0 < p.2.pins → p.2.state.frame.isSome = true)) ∧
  ∀ k ∈ c.pins, k < n.slots.length

/-- The replay ring, the show plan and the pins agree (R21, R29, R33, R37). -/
def ReplaySound (s : State) : Prop :=
  SlotTableSound s.intake ∧ PlanPresent s.roller s.intake ∧ PinsSound s.composer s.intake

/-- A part write lies in the control area, holds 2 to 64 bytes and stays within one aligned 64-byte block (R171). -/
def PartWrite.Fits (w : PartWrite) : Prop :=
  2 ≤ w.data.length ∧ w.data.length ≤ 64 ∧ w.offset + w.data.length ≤ Config.controlBytes ∧
  w.offset / 64 = (w.offset + w.data.length - 1) / 64

/-- The part write queue holds at most 64 entries, and every write in it or waiting for it fits (R171). -/
def QueueSound (s : State) : Prop :=
  s.memctl.queue.length ≤ Config.queueCapacity ∧ (∀ w ∈ s.memctl.queue, w.Fits) ∧
  (∀ r ∈ s.memctl.waitCommand, r.write.Fits) ∧ ∀ w ∈ s.memctl.waitExposure, w.Fits

/-- Whether a beat on its way to memory writes an address: an unmasked byte of it lies there (R165, R168). -/
def ForwardBeat.writes (b : ForwardBeat) (a : Nat) : Bool :=
  decide (b.addr ≤ a) && decide (a < b.addr + 8) && b.mask.getLsbD (a - b.addr)

/-- The beats of a burst are in memory: each unmasked byte stands there, unless a later beat of the burst writes its address. -/
def BurstLanded (l : List ForwardBeat) (s : State) : Prop :=
  ∀ before b after, l = before ++ b :: after → ∀ j, j < 8 → b.mask.getLsbD j = true →
    (∀ c ∈ after, c.writes (b.addr + j) = false) → s.memByte (b.addr + j) = b.data.extractLsb' (8 * j) 8

/-- A host WRITE asks for memory only with all its beats received, and while the SDRAM serves the host's request that request is granted
and, of a WRITE, its beats are in memory (R166, R169). -/
def GrantSound (s : State) : Prop :=
  (∀ t ∈ s.port.transaction, t.request.isWrite = true → t.state.pending = true → t.beats = burstBeats t.request.length) ∧
  (s.memctl.access = some .playout → s.phase = .running ∧
    ∃ t, s.port.transaction = some t ∧ t.state = .granted ∧ (t.request.isWrite = true → BurstLanded t.forward s))

/-- A plan that could be put on a wall of w x h cells (R3): zones on the screen, the counts of kinds, the sizes of SCOREBUG and TICKER zones,
and SCOREBUG zones apart. -/
def Plan.Placeable (p : Plan) (w h : Nat) : Prop :=
  (∀ z : ZoneIx, (p[z]).enable = true → (p[z]).onScreen w h = true) ∧
  p.countOn .replay ≤ 1 ∧ p.countOn .ticker ≤ 1 ∧ p.countOn .scorebug ≤ 2 ∧ p.countOn .sponsor ≤ 4 ∧
  (∀ z : ZoneIx, (p[z]).isOn .scorebug = true → (p[z]).hasSize 16 3 = true) ∧
  (∀ z : ZoneIx, (p[z]).isOn .ticker = true → (p[z]).h.toNat = 1 ∧ 4 ≤ (p[z]).w.toNat) ∧
  ∀ z z' : ZoneIx, z ≠ z' → (p[z]).isOn .scorebug = true → (p[z']).isOn .scorebug = true → (p[z]).sharesCell p[z'] = false

/-- Both plans could be put on the screen as it stands, whose size lies in its range (R3, R7). -/
def PlansPlaceable (s : State) : Prop :=
  8 ≤ s.composer.screenW ∧ s.composer.screenW ≤ 128 ∧ 4 ≤ s.composer.screenH ∧ s.composer.screenH ≤ 48 ∧
  s.composer.live.Placeable s.composer.screenW s.composer.screenH ∧
  s.composer.staged.Placeable s.composer.screenW s.composer.screenH

end Sys2Proof.Machine
end

