-- ==== Sys2Proof/Certificates/Slice0/Obligations.lean ====
section
/-! DEFINITION. What the provers are asked to prove of the NJ-624. `Answers c slot s s' r` (Safety) says that the host command `c` taken
in state `s` answers a next state, in which the owning block has made `s'` of `s` and the result `r` has been delivered. A frame is said by
an equation `u = (s with these fields those of u)`: every field not listed is that of `s`. -/

open Sys2Proof Sys2Proof.Machine

/-! ### The machine -/

/-- A step runs the command at the front of the queue on the state with the queue's rest; an empty queue idles (the model's choice,
notes/assumptions/5). -/
def Obligations.StepRunsFrontCommand : Prop :=
  (∀ (c : Instr) (rest : List Instr) (s : State), s.pending = c :: rest → step s = exec c (s.withPending rest)) ∧
  ∀ s : State, s.pending = [] → step s = .next s

/-- No command faults or is refused, and none touches the queue of waiting commands.
That one which cannot come about leaves the state as it is, and that none faults, is the model's choice (notes/assumptions/9, 26). -/
def Obligations.EveryCommandAnswersNext : Prop :=
  ∀ (c : Instr) (s : State), ∃ t, exec c s = .next t ∧ t.pending = s.pending

/-- Every host command answers, while the part runs, with its rule's result delivered, and a refused one changes nothing else (R179,
R181): the counts, the flag and the result write are those of `finishCommand`. The result joins the part write queue at once, or, with the queue
full or an earlier result waiting, waits behind those that wait; a RESTART's result waits behind the records that wait (R171, R184). The codes are
those of Table 11.4.
A row acts as the taking of its slot (the model's choice, notes/assumptions/12). -/
def Obligations.HostCommandsDeliverResults : Prop :=
  (∀ (i : Instr) (slot : RingSlot) (rule : CommandRule) (s : State), commandSlot i = some slot → commandRule i = some rule →
    s.phase = .running →
    Answers i slot s (rule s).1 (rule s).2 ∧ ((rule s).2.code.counted = false → (rule s).1 = s)) ∧
  ∀ (slot : RingSlot) (r : Result) (s : State),
    let u := finishCommand slot r s
    u = { s with
            command := { s.command with taken := u.command.taken, refused := u.command.refused, flags := u.command.flags }
            memctl := { s.memctl with queue := u.memctl.queue, waitCommand := u.memctl.waitCommand } } ∧
    (r.code = .ok ∨ r.code = .clamped →
      u.command.taken = s.command.taken + 1 ∧ u.command.refused = s.command.refused ∧ u.command.flags = s.command.flags) ∧
    (r.code ≠ .ok → r.code ≠ .clamped →
      u.command.taken = s.command.taken ∧ u.command.refused = s.command.refused + 1 ∧ u.flagged .cmdRefused = true ∧
      ∀ f : Flag, f ≠ .cmdRefused → u.flagged f = s.flagged f) ∧
    (let write : PartWrite := { offset := 256 * slot.val + 4, data := leBytes 2 r.code.code ++ leBytes 2 r.detail }
    (r.afterRecords = false ∨ s.memctl.waitExposure = [] → s.memctl.waitCommand = [] → s.memctl.queue.length < 64 →
      u.memctl.queue = s.memctl.queue ++ [write] ∧ u.memctl.waitCommand = []) ∧
    (r.afterRecords = false → s.memctl.waitCommand ≠ [] ∨ 64 ≤ s.memctl.queue.length →
      u.memctl.queue = s.memctl.queue ∧ u.memctl.waitCommand = s.memctl.waitCommand ++ [{ write := write, behind := 0 }]) ∧
    (r.afterRecords = true → s.memctl.waitExposure ≠ [] ∨ s.memctl.waitCommand ≠ [] ∨ 64 ≤ s.memctl.queue.length →
      u.memctl.queue = s.memctl.queue ∧
      u.memctl.waitCommand = s.memctl.waitCommand ++ [{ write := write, behind := s.memctl.waitExposure.length }])) ∧
    [ResultCode.ok, .clamped, .unknownKind, .malformed, .outOfRange, .wrongState, .wrongMode, .notFound, .alreadyExists, .full, .overlap,
      .noZone, .sizeMismatch, .limit, .bound].map ResultCode.code = [1, 2, 3, 4, 5, 6, 7, 8, 9, 10, 11, 12, 13, 14, 15]

/-! ### Reset -/

/-- The value of every item of the state right after the reset that follows power-on, and that the invariants stated below hold there. Where
the manual gives an item no value, the value is the model's choice: the phase, the straps and the causes (notes/assumptions/3, 11), the store in
which nothing is written (1), the panel's fetch (19), the host transaction and the held-over retry (23), the refreshes due (28), the start-up
with its first step (33). -/
def Obligations.ResetStateValuesAndInvariants : Prop :=
  (let s := State.reset
  let desc : ZoneDesc :=
    { enable := false, source := .fill, x := 0, y := 0, w := 0, h := 0, level := 0, leadIn := 0, guard := ⟨0, 0, 0⟩,
      param := .colour ⟨0, 0, 0⟩ }
  s.pending = [] ∧ s.phase = .startUp ∧ s.straps = { msize := 0, bord := false, frate := false } ∧
  s.timing = { frameNumber := 0, blanking := true } ∧
  (s.composer.screenW = 64 ∧ s.composer.screenH = 18 ∧ s.composer.applyRequest = false ∧ s.composer.requestedMode = .black ∧
    s.composer.slate = none ∧ s.composer.font = none ∧ s.composer.pins = [] ∧
    ∀ z : ZoneIx, s.composer.live[z] = desc ∧ s.composer.staged[z] = desc ∧ s.composer.leadIn[z] = 0) ∧
  (s.composer.record.frame = 0 ∧ s.composer.record.mode = .black ∧ s.composer.record.w = 64 ∧ s.composer.record.h = 18 ∧
    s.composer.record.slate = none ∧ s.composer.record.font = none ∧
    ∀ z : ZoneIx, s.composer.record.zones[z] =
      { desc := desc, active := false, inLeadIn := false, changed := false, resized := false, visible := 0, draw := none }) ∧
  s.panel = { lineBuffer := [], fetchAt := 0, late := [] } ∧
  (s.intake.ring = none ∧ s.intake.slots = [] ∧ s.intake.intakeSlot = none ∧ s.intake.completions = 0 ∧
    s.intake.retryDue = false ∧ ∀ n : Fin 32, s.intake.trailer[n] = 0) ∧
  s.roller =
    { state := .idle, fIn := 0, outPoint := none, speed := 0, direction := .forward, rs := 1, endMode := .release, blend := false,
      cutOnClock := false, pInt := 0, pFrac := 0, rem := 0, showPlan := none, lastEnd := .none, gapCount := 0,
      starvedCount := 0 } ∧
  (s.clock.venue = 0 ∧ s.clock.game = { value := 0, direction := .down, limit := 5999000, tenths := true, state := .ended } ∧
    s.clock.mark0 = { value := none, flag := false, horn := false, stop := false } ∧ s.clock.mark1 = s.clock.mark0 ∧
    s.clock.shot =
      { value := 24000, preset := 24000, state := .blank, follow := true, startOnGame := false, shotHorn := true } ∧
    s.clock.horn = { periodTime := 2000, shotTime := 1000, endHorn := true, timer := 0 }) ∧
  s.console.seeded = false ∧
  (∀ n : Fin 8, s.console.lines[n] = { function := .none, activeHigh := true, filter := 8, accepted := false, diff := 0 }) ∧
  (∀ n : Fin 4, s.console.channels[n] = { source := .off, latest := none, previous := none, sequence := 0 }) ∧
  (∀ f : Fin 10, s.score.fields[f] = 0) ∧ s.score.flashLength = 48 ∧ s.score.homeFlash = 0 ∧ s.score.guestFlash = 0 ∧
  s.rotation.spots = [] ∧
  (∀ z : ZoneIx, s.rotation.zones[z] = { rotation := [], cursor := -1, sting := none, stingPending := false, showing := none }) ∧
  s.exposure = { nextRecord := 0, readMark := 0, missed := 0 } ∧
  s.ticker = { waiting := [], showing := none, freeChunks := 128, speed := 4, gap := 256, nextOrder := 0, lastRemoved := none } ∧
  (s.command.shadow = [] ∧ s.command.taken = 0 ∧ s.command.refused = 0 ∧ s.command.flags = 0 ∧ s.command.attnMask = 0 ∧
    s.command.causes = { powerOn := true, resetLine := false, restart := false } ∧ s.command.statusInFlight = false) ∧
  s.memctl =
    { queue := [], waitCommand := [], waitExposure := [], refreshDue := 0, lastPlayout := false, access := none, startUp := .wait,
      deadlineBegun := false } ∧
  s.port = { transaction := none, presented := none, readData := [] } ∧ s.mem = []) ∧
  (let s := State.reset
  MemoryCanonical s ∧ QueueSound s ∧ ClocksSound s ∧ ScoresInRange s ∧ LogBounded s ∧ PoolBalanced s ∧ OnAirExclusive s ∧
  ReplaySound s ∧ PlansPlaceable s ∧ GrantSound s)

/-- Power-on puts every block at its reset value with the causes {POWER_ON} and memory unknown (the straps keep their last sample, the
model's choice, notes/assumptions/3); the release samples the straps, adding RESET_LINE only after a RESET*; the start-up waits, precharges,
makes eight refreshes and sets the SDRAM's mode, in that order, a due refresh first; only then does start-up complete open the port, and a
transaction held off by WAIT* arrive. The refresh deadline runs from the start-up's step 3 on.
That the release after power-on adds no cause is the model's reading (notes/assumptions/11), that the start-up's steps are carried out by
ACCESS_END is its choice (notes/assumptions/33), and so is that REFRESH_DUE changes nothing before the deadline runs and START_UP_COMPLETE
nothing before step 4 has ended (notes/assumptions/9). -/
def Obligations.PowerUpSequence : Prop :=
  (∀ s : State, exec .powerOn s = .next
    { State.reset with pending := s.pending, powerOns := s.powerOns + 1, phase := .powerOnReset, straps := s.straps }) ∧
  (∀ (st : Straps) (s : State), s.phase = .powerOnReset →
    exec (.resetRelease st) s = .next { s with phase := .startUp, straps := st }) ∧
  (∀ (st : Straps) (s : State), s.phase = .resetLow →
    exec (.resetRelease st) s = .next
      { s with
        phase := .startUp
        straps := st
        command := { s.command with causes := { s.command.causes with resetLine := true } } }) ∧
  (∀ (i : ChoiceInput) (first : WriterBlock) (s : State), s.phase = .startUp → i.sent = 0 →
    (s.memctl.access = none → 0 < s.memctl.refreshDue →
      exec (.accessEnd i first) s = .next
        { s with memctl := { s.memctl with refreshDue := s.memctl.refreshDue - 1, access := some .refresh } }) ∧
    (s.memctl.refreshDue = 0 → s.memctl.access = none → s.memctl.startUp = .wait →
      exec (.accessEnd i first) s = .next
        (if i.waitOver = true then { s with memctl := { s.memctl with startUp := .precharge, access := some .startUp } } else s)) ∧
    (s.memctl.refreshDue = 0 → s.memctl.access = some .startUp → s.memctl.startUp = .precharge →
      exec (.accessEnd i first) s = .next
        { s with memctl := { s.memctl with startUp := .refreshes 0, deadlineBegun := true, access := some .startUp } }) ∧
    (∀ n, s.memctl.refreshDue = 0 → s.memctl.access = some .startUp → s.memctl.startUp = .refreshes n → n < 7 →
      exec (.accessEnd i first) s = .next
        { s with memctl := { s.memctl with startUp := .refreshes (n + 1), deadlineBegun := true, access := some .startUp } }) ∧
    (s.memctl.refreshDue = 0 → s.memctl.access = some .startUp → s.memctl.startUp = .refreshes 7 →
      exec (.accessEnd i first) s = .next { s with memctl := { s.memctl with startUp := .modeSet, access := some .startUp } }) ∧
    (s.memctl.refreshDue = 0 → s.memctl.access = some .startUp → s.memctl.startUp = .modeSet →
      exec (.accessEnd i first) s = .next { s with memctl := { s.memctl with startUp := .done, access := none } })) ∧
  (∀ s : State,
    (s.phase = .powerOnReset ∨ (s.phase ≠ .running ∧ s.memctl.deadlineBegun = false) → exec .refreshDue s = .next s) ∧
    (s.phase ≠ .powerOnReset → s.phase = .running ∨ s.memctl.deadlineBegun = true →
      exec .refreshDue s = .next { s with memctl := { s.memctl with refreshDue := s.memctl.refreshDue + 1 } })) ∧
  (∀ s : State, s.phase = .startUp → s.memctl.startUp ≠ .done → exec .startUpComplete s = .next s) ∧
  (∀ s : State, s.phase = .startUp → s.memctl.startUp = .done → s.port.presented = none →
    exec .startUpComplete s = .next { s with phase := .running, timing := { s.timing with blanking := true } }) ∧
  ∀ (s : State) (q : HostRequest), s.phase = .startUp → s.memctl.startUp = .done → s.port.presented = some q →
    ∃ t, exec .startUpComplete s = .next
        { s with
          phase := .running
          timing := { s.timing with blanking := true }
          port := { s.port with presented := none, transaction := some t } } ∧
      t.request = { q with addr := q.addr % s.memSize / 8 * 8 } ∧ t.beats = 0

/-- RESET* resets every block but the straps, the causes, the refresh deadline and the frame store; of the access in progress a queue
entry is finished, the unmasked bytes of a host WRITE's granted burst are in memory, and nothing else reaches it; queued and waiting writes
are lost (R171, R177). That the access in progress ends within this step, and that a granted burst is in memory since its grant (which
`GrantSound` says and every step keeps), is the model's choice (notes/assumptions/13, 32). -/
def Obligations.ResetLineKeepsMemory : Prop :=
  ∀ s : State, s.phase = .startUp ∨ s.phase = .running →
    ∃ t, exec .resetLineLow s = .next t ∧
      t = { State.reset with
              pending := s.pending
              powerOns := s.powerOns
              phase := .resetLow
              straps := s.straps
              command := CommandUnit.reset s.command.causes
              memctl :=
                { MemoryController.reset with
                  refreshDue := s.memctl.refreshDue
                  access := if s.memctl.access = some .refresh then some .refresh else none
                  deadlineBegun := s.memctl.deadlineBegun }
              port := { PlayoutPort.reset with presented := s.port.presented }
              mem := t.mem } ∧
      (∀ w, s.memctl.access = some (.queueEntry w) →
        (∀ i, (h : i < w.data.length) → t.memByte (s.controlBase + w.offset + i) = w.data[i]) ∧
        ∀ a, a < s.controlBase + w.offset ∨ s.controlBase + w.offset + w.data.length ≤ a → t.memByte a = s.memByte a) ∧
      (GrantSound s → s.memctl.access = some .playout → ∀ x ∈ s.port.transaction, x.request.isWrite = true →
        BurstLanded x.forward t) ∧
      ((∀ w, s.memctl.access ≠ some (.queueEntry w)) → t.mem = s.mem)

/-! ### The millisecond tick (Chapters 4 and 5) -/

/-- At every tick venue time rises by 1 and the lines are seeded from then on; only the clock unit, the console, the roller (by a cut on
clock) and the flags can change, and no flag falls. Without ticks nothing happens.
That a tick named where none can come changes nothing is the model's choice (notes/assumptions/9). -/
def Obligations.TickMovesVenueTime : Prop :=
  (∀ (t : TickInput) (s : State), s.phase = .startUp ∨ s.phase = .running →
    ∃ u, exec (.millisecondTick t) s = .next u ∧ u.clock.venue = s.clock.venue + 1 ∧ u.console.seeded = true ∧
      (∀ f : Flag, s.flagged f = true → u.flagged f = true) ∧
      u = { s with
              clock := u.clock
              console := u.console
              roller := u.roller
              command := { s.command with flags := u.command.flags } }) ∧
  ∀ (t : TickInput) (s : State), s.phase = .powerOnReset ∨ s.phase = .resetLow → exec (.millisecondTick t) s = .next s

/-- A tick without an edge in which the clocks only move: a RUNNING game clock moves by 1 toward its end value, a RUNNING shot clock
and a horn timer above 0 fall by 1, the lines' difference counts are 0, and nothing else changes. With the horn timer at 1 the same tick is
a HORN_TIMER_RUNS_OUT, after which only HORN lines drive the horn (R84).
The row is the whole step its event comes about in (the model's choice, notes/assumptions/4). -/
def Obligations.QuietTickMovesClocks : Prop :=
  ∀ (t : TickInput) (s : State), s.phase = .startUp ∨ s.phase = .running → QuietTick t s → ClocksOnlyMove s.clock →
    ∃ u, exec (.millisecondTick t) s = .next u ∧
      u = { s with
              console := { s.console with lines := u.console.lines }
              clock :=
                { s.clock with
                  venue := s.clock.venue + 1
                  game :=
                    { s.clock.game with
                      value :=
                        if s.clock.game.state = .running then
                          (if s.clock.game.direction = .up then s.clock.game.value + 1 else s.clock.game.value - 1)
                        else s.clock.game.value }
                  shot :=
                    { s.clock.shot with
                      value := if s.clock.shot.state = .running then s.clock.shot.value - 1 else s.clock.shot.value }
                  horn := { s.clock.horn with timer := s.clock.horn.timer - 1 } } } ∧
      (∀ n : Fin 8, u.console.lines[n] = { s.console.lines[n] with diff := 0 }) ∧
      (s.clock.horn.timer = 1 → exec (.hornTimerRunsOut t) s = .next u ∧ u.hornActive = s.console.hornIndication)

/-- A RUNNING game clock that a tick without edges brings to its end value ends its period: ENDED, GC_ENDED, the end horn, the shot
clock's reaction, and the GC_END captures (R68, R80, R87). A RUNNING shot clock that does not follow falls in the same tick, and at 0 ends with
SC_ENDED, its horn and its captures (R66, R77).
The row is the whole step its event comes about in (the model's choice, notes/assumptions/4). -/
def Obligations.PeriodEndsAtEndValue : Prop :=
  ∀ (t : TickInput) (s : State), s.phase = .startUp ∨ s.phase = .running → QuietTick t s → s.clock.game.state = .running →
    s.clock.game.moved = s.clock.game.endValue →
    ∃ u, exec (.periodEnd t) s = .next u ∧
      u.clock.game = { s.clock.game with value := s.clock.game.endValue, state := .ended } ∧
      u.clock.venue = s.clock.venue + 1 ∧ u.flagged .gcEnded = true ∧
      (s.clock.horn.endHorn = true → s.clock.horn.periodTime ≤ u.clock.horn.timer) ∧
      (s.clock.shot.follow = true → s.clock.shot.state = .running → u.clock.shot = { s.clock.shot with state := .stopped }) ∧
      (s.clock.shot.state ≠ .running → u.clock.shot = s.clock.shot) ∧
      (s.clock.shot.follow = false → s.clock.shot.state = .running →
        (1 < s.clock.shot.value →
          u.clock.shot = { s.clock.shot with value := s.clock.shot.value - 1 } ∧ u.flagged .scEnded = s.flagged .scEnded) ∧
        (s.clock.shot.value ≤ 1 →
          u.clock.shot = { s.clock.shot with value := 0, state := .ended } ∧ u.flagged .scEnded = true ∧
          (s.clock.shot.shotHorn = true → s.clock.horn.shotTime ≤ u.clock.horn.timer) ∧
          ∀ n : Fin 4, (s.console.channels[n]).source = .scEnd →
            u.console.channels[n] = (s.console.channels[n]).take u.clock ∧ u.flagged (captureFlag n) = true)) ∧
      (∀ n : Fin 4, (s.console.channels[n]).source = .gcEnd →
        u.console.channels[n] = (s.console.channels[n]).take u.clock ∧ u.flagged (captureFlag n) = true) ∧
      u = { s with clock := u.clock, console := u.console, command := { s.command with flags := u.command.flags } }

/-- A mark that a tick without edges brings a RUNNING game clock to fires, with its three actions and the MARK captures (R75).
The row is the whole step its event comes about in (the model's choice, notes/assumptions/4). -/
def Obligations.MarkFiresAtItsValue : Prop :=
  ∀ (t : TickInput) (s : State) (m : Mark) (f : Flag),
    (m = s.clock.mark0 ∧ f = .mark0) ∨ (m = s.clock.mark1 ∧ f = .mark1) →
    s.phase = .startUp ∨ s.phase = .running → QuietTick t s → s.clock.game.state = .running →
    m.value = some s.clock.game.moved →
    ∃ u, exec (.markFires t) s = .next u ∧ u.clock.game.value = s.clock.game.moved ∧
      (m.flag = true → u.flagged f = true) ∧ (m.flag = false → u.flagged f = s.flagged f) ∧
      (m.horn = true → s.clock.horn.periodTime ≤ u.clock.horn.timer) ∧
      (m.stop = true → s.clock.game.moved ≠ s.clock.game.endValue → u.clock.game.state = .stopped) ∧
      (s.clock.game.moved = s.clock.game.endValue → u.clock.game.state = .ended) ∧
      (∀ n : Fin 4, (s.console.channels[n]).source = .mark →
        u.console.channels[n] = (s.console.channels[n]).take u.clock ∧ u.flagged (captureFlag n) = true) ∧
      u = { s with clock := u.clock, console := u.console, command := { s.command with flags := u.command.flags } }

/-- A RUNNING shot clock at 1 that no stop of the game clock halts first ends at the tick: value 0, ENDED, SC_ENDED, its horn, and the
SC_END captures (R66, R77).
The row is the whole step its event comes about in (the model's choice, notes/assumptions/4). -/
def Obligations.ShotClockEndsAtZero : Prop :=
  ∀ (t : TickInput) (s : State), s.phase = .startUp ∨ s.phase = .running → QuietTick t s → s.clock.shot.state = .running →
    s.clock.shot.value = 1 →
    s.clock.shot.follow = false ∨ s.clock.game.state ≠ .running ∨
      (s.clock.game.moved ≠ s.clock.game.endValue ∧
        (s.clock.mark0.value = some s.clock.game.moved → s.clock.mark0.stop = false) ∧
        (s.clock.mark1.value = some s.clock.game.moved → s.clock.mark1.stop = false)) →
    ∃ u, exec (.shotClockEnd t) s = .next u ∧ u.clock.shot = { s.clock.shot with value := 0, state := .ended } ∧
      u.flagged .scEnded = true ∧ (s.clock.shot.shotHorn = true → s.clock.horn.shotTime ≤ u.clock.horn.timer) ∧
      (∀ n : Fin 4, (s.console.channels[n]).source = .scEnd →
        u.console.channels[n] = (s.console.channels[n]).take u.clock ∧ u.flagged (captureFlag n) = true) ∧
      u = { s with clock := u.clock, console := u.console, command := { s.command with flags := u.command.flags } }

/-- The sample that completes a line's acceptance count changes its accepted level: an edge. It fires the line's captures and makes the
request of the line's function; a refused request raises CONSOLE_REFUSED (R89, R90, R92). The order of the tick's parts is any.
The row is the whole step its event comes about in (the model's choice, notes/assumptions/4). -/
def Obligations.LineEdgeActs : Prop :=
  ∀ (t : TickInput) (s : State) (n : Fin 8), s.phase = .startUp ∨ s.phase = .running → s.console.seeded = true →
    (∀ m : Fin 8, m ≠ n → rawLevel t.lines m = (s.console.lines[m]).accepted) →
    rawLevel t.lines n ≠ (s.console.lines[n]).accepted →
    (s.console.lines[n]).filter = 0 ∨ (s.console.lines[n]).filter ≤ (s.console.lines[n]).diff + 1 →
    ∃ u, exec (.lineEdge n t) s = .next u ∧
      u.console.lines[n] = { s.console.lines[n] with accepted := rawLevel t.lines n, diff := 0 } ∧
      (∀ m : Fin 8, m ≠ n → u.console.lines[m] = { s.console.lines[m] with diff := 0 }) ∧
      (∀ (c : Fin 4) (e : CaptureEdge), (s.console.channels[c]).source = .line n e → e.covers (rawLevel t.lines n) = true →
        (u.console.channels[c]).sequence = (s.console.channels[c]).sequence + 1 ∧ u.flagged (captureFlag c) = true) ∧
      ((s.console.lines[n]).function = .none ∨ (s.console.lines[n]).function = .horn →
        u.flagged .consoleRefused = s.flagged .consoleRefused) ∧
      ((s.console.lines[n]).function = .start ∨ (s.console.lines[n]).function = .run →
        rawLevel t.lines n = (s.console.lines[n]).activeHigh →
        (s.clock.game.state = .ended → u.flagged .consoleRefused = true ∧ u.clock.game = s.clock.game) ∧
        (s.clock.game.state = .stopped → ClocksOnlyMove { s.clock with game := { s.clock.game with state := .running } } →
          u.clock.game.state = .running ∧ u.flagged .consoleRefused = s.flagged .consoleRefused)) ∧
      (((s.console.lines[n]).function = .stop ∧ rawLevel t.lines n = (s.console.lines[n]).activeHigh) ∨
          ((s.console.lines[n]).function = .run ∧ rawLevel t.lines n ≠ (s.console.lines[n]).activeHigh) →
        s.clock.game.state = .running → ClocksOnlyMove s.clock → u.clock.game.state = .stopped) ∧
      ((s.console.lines[n]).function = .shotReset → rawLevel t.lines n = (s.console.lines[n]).activeHigh →
        s.clock.game.state ≠ .running →
        u.clock.shot = { s.clock.shot with value := s.clock.shot.preset, state := .stopped }) ∧
      ((s.console.lines[n]).function = .shotToggle → rawLevel t.lines n = (s.console.lines[n]).activeHigh →
        (s.clock.shot.state = .blank ∨ s.clock.shot.state = .ended → u.flagged .consoleRefused = true) ∧
        (s.clock.shot.state = .stopped → ClocksOnlyMove s.clock → 1 < s.clock.shot.value → u.clock.shot.state = .running) ∧
        (s.clock.shot.state = .running → ClocksOnlyMove s.clock → u.clock.shot.state = .stopped)) ∧
      u = { s with
              clock := u.clock
              console := u.console
              roller := u.roller
              command := { s.command with flags := u.command.flags } }

/-- The line filter: samples opposite to the accepted level change it at the F-th in a row (at the first for filter time 0) and not before,
and a sample equal to it starts the count again (R89). -/
def Obligations.LineFilterCountsSamples : Prop :=
  ∀ (l : ConsoleLine) (raw : Bool) (k : Nat), l.diff = 0 → raw ≠ l.accepted →
    (k < max 1 l.filter →
      (fun x => ConsoleLine.sampled x raw)^[k] l = { l with diff := k } ∧
      ConsoleLine.sampled ((fun x => ConsoleLine.sampled x raw)^[k] l) l.accepted = l) ∧
    (k = max 1 l.filter → (fun x => ConsoleLine.sampled x raw)^[k] l = { l with accepted := raw, diff := 0 })

/-- An event is one capture in each channel whose source fires on it, carrying the clocks as they stand, and none in any other (R97). -/
def Obligations.ChannelsTakeTheirEvent : Prop :=
  ∀ (ev : CaptureEvent) (s : State),
    let u := fireCapture ev s
    (∀ n : Fin 4,
      u.console.channels[n] =
        (if (s.console.channels[n]).source.firesOn ev then
          { s.console.channels[n] with
            previous := (s.console.channels[n]).latest
            sequence := (s.console.channels[n]).sequence + 1
            latest := some
              { venue := s.clock.venue, gameValue := s.clock.game.value, gameState := s.clock.game.state,
                shotValue := s.clock.shot.value, shotState := s.clock.shot.state,
                sequence := (s.console.channels[n]).sequence + 1 } }
        else s.console.channels[n]) ∧
      u.flagged (captureFlag n) = (s.flagged (captureFlag n) || (s.console.channels[n]).source.firesOn ev)) ∧
    (∀ f : Flag, (∀ n : Fin 4, f ≠ captureFlag n) → u.flagged f = s.flagged f) ∧
    u = { s with
            console := { s.console with channels := u.console.channels }
            command := { s.command with flags := u.command.flags } }

/-! ### Clock commands (Chapter 4) -/

/-- START_CLOCK starts a STOPPED clock with the shot clock's reaction, the cut of a cut-on-clock roll and the GC_START captures; STOP_CLOCK
stops a RUNNING one with the reaction and the GC_STOP captures; in the other states nothing changes, and a START of an ENDED clock is
refused (R71, R72, R80). -/
def Obligations.StartAndStopByState : Prop :=
  ∀ (slot : RingSlot) (s : State), s.phase = .running →
    (s.clock.game.state = .stopped →
      ∃ s', Answers (.startClock slot) slot s s' { code := .ok } ∧
        s'.clock =
          { s.clock with
            game := { s.clock.game with state := .running }
            shot :=
              if s.clock.shot.startOnGame = true then { s.clock.shot with value := s.clock.shot.preset, state := .running }
              else if s.clock.shot.follow = true ∧ s.clock.shot.state = .stopped then { s.clock.shot with state := .running }
              else s.clock.shot } ∧
        (s.roller.state ≠ .idle → s.roller.cutOnClock = true →
          s'.roller = { s.roller with state := .idle, showPlan := none, lastEnd := .clock } ∧ s'.flagged .replayEnded = true) ∧
        (s.roller.state = .idle ∨ s.roller.cutOnClock = false →
          s'.roller = s.roller ∧ s'.flagged .replayEnded = s.flagged .replayEnded) ∧
        (∀ n : Fin 4, s'.console.channels[n] =
          if (s.console.channels[n]).source = .gcStart then (s.console.channels[n]).take s'.clock else s.console.channels[n]) ∧
        s' = { s with
                clock := s'.clock
                roller := s'.roller
                console := { s.console with channels := s'.console.channels }
                command := { s.command with flags := s'.command.flags } }) ∧
    (s.clock.game.state = .running → Answers (.startClock slot) slot s s { code := .ok }) ∧
    (s.clock.game.state = .ended → Answers (.startClock slot) slot s s { code := .wrongState }) ∧
    (s.clock.game.state = .running →
      ∃ s', Answers (.stopClock slot) slot s s' { code := .ok } ∧
        s'.clock =
          { s.clock with
            game := { s.clock.game with state := .stopped }
            shot :=
              if s.clock.shot.follow = true ∧ s.clock.shot.state = .running then { s.clock.shot with state := .stopped }
              else s.clock.shot } ∧
        (∀ n : Fin 4, s'.console.channels[n] =
          if (s.console.channels[n]).source = .gcStop then (s.console.channels[n]).take s'.clock else s.console.channels[n]) ∧
        s' = { s with
                clock := s'.clock
                console := { s.console with channels := s'.console.channels }
                command := { s.command with flags := s'.command.flags } }) ∧
    (s.clock.game.state ≠ .running → Answers (.stopClock slot) slot s s { code := .ok })

/-- SET_GAME_CLOCK, SET_MARK, SET_SHOT_CLOCK, SET_HORN and SOUND_HORN with operands in range store them and nothing else; a set clock
is ENDED exactly at its new end value, and a horn event never shortens the timer; SHOT_RESET, SHOT_START, SHOT_STOP and SHOT_BLANK act by
state (R70, R74, R76, R78, R79, R82, R83).
That the value of an absent mark is not checked is the model's reading (notes/assumptions/15). -/
def Obligations.ClockAndShotCommands : Prop :=
  (∀ (slot : RingSlot) (s : State), s.phase = .running →
    (∀ (value limit : Word) (direction tenths : Byte) (d : ClockDirection) (t : Bool),
      (direction = 0 ∧ d = .down) ∨ (direction = 1 ∧ d = .up) → (tenths = 0 ∧ t = false) ∨ (tenths = 1 ∧ t = true) →
      value.toNat ≤ 5999000 → 1 ≤ limit.toNat → limit.toNat ≤ 5999000 → (d = .up → value.toNat ≤ limit.toNat) →
      s.clock.game.state ≠ .running →
      Answers (.setGameClock slot value limit direction tenths) slot s
        { s with
          clock := { s.clock with
            game :=
              { value := value.toNat, direction := d, limit := limit.toNat, tenths := t,
                state := if value.toNat = (if d = .up then limit.toNat else 0) then .ended else .stopped } } }
        { code := .ok }) ∧
    (∀ (mark present actions : Byte) (value : Word) (p : Bool), mark = 0 ∨ mark = 1 →
      (present = 0 ∧ p = false) ∨ (present = 1 ∧ p = true) → (p = true → value.toNat ≤ 5999000) →
      let m : Mark :=
        { value := if p = true then some value.toNat else none, flag := actions.getLsbD 0, horn := actions.getLsbD 1,
          stop := actions.getLsbD 2 }
      Answers (.setMark slot mark present actions value) slot s
        { s with
          clock := { s.clock with
            mark0 := if mark = 0 then m else s.clock.mark0
            mark1 := if mark = 1 then m else s.clock.mark1 } }
        { code := .ok }) ∧
    (∀ (preset : Word) (follow start shotHorn : Byte) (f g h : Bool), 1000 ≤ preset.toNat → preset.toNat ≤ 99000 →
      (follow = 0 ∧ f = false) ∨ (follow = 1 ∧ f = true) → (start = 0 ∧ g = false) ∨ (start = 1 ∧ g = true) →
      (shotHorn = 0 ∧ h = false) ∨ (shotHorn = 1 ∧ h = true) →
      Answers (.setShotClock slot preset follow start shotHorn) slot s
        { s with
          clock := { s.clock with
            shot := { s.clock.shot with preset := preset.toNat, follow := f, startOnGame := g, shotHorn := h } } }
        { code := .ok }) ∧
    (∀ (periodTime shotTime : Half) (endHorn : Byte) (e : Bool), 100 ≤ periodTime.toNat → periodTime.toNat ≤ 5000 →
      100 ≤ shotTime.toNat → shotTime.toNat ≤ 5000 → (endHorn = 0 ∧ e = false) ∨ (endHorn = 1 ∧ e = true) →
      Answers (.setHorn slot periodTime shotTime endHorn) slot s
        { s with
          clock := { s.clock with
            horn := { s.clock.horn with periodTime := periodTime.toNat, shotTime := shotTime.toNat, endHorn := e } } }
        { code := .ok }) ∧
    ∀ duration : Half, 100 ≤ duration.toNat → duration.toNat ≤ 5000 →
      Answers (.soundHorn slot duration) slot s
        { s with
          clock := { s.clock with
            horn :=
              { s.clock.horn with
                timer := if s.clock.horn.timer < duration.toNat then duration.toNat else s.clock.horn.timer } } }
        { code := .ok }) ∧
  (∀ (slot : RingSlot) (s : State), s.phase = .running →
    let set (v : Nat) (st : ShotState) : State :=
      { s with clock := { s.clock with shot := { s.clock.shot with value := v, state := st } } }
    Answers (.shotReset slot) slot s
      (set s.clock.shot.preset (if s.clock.game.state = .running then .running else .stopped)) { code := .ok } ∧
    (s.clock.shot.state = .blank ∨ s.clock.shot.state = .ended →
      Answers (.shotStart slot) slot s s { code := .wrongState }) ∧
    (s.clock.shot.state = .stopped → Answers (.shotStart slot) slot s (set s.clock.shot.value .running) { code := .ok }) ∧
    (s.clock.shot.state = .running → Answers (.shotStart slot) slot s s { code := .ok }) ∧
    (s.clock.shot.state = .running → Answers (.shotStop slot) slot s (set s.clock.shot.value .stopped) { code := .ok }) ∧
    (s.clock.shot.state ≠ .running → Answers (.shotStop slot) slot s s { code := .ok }) ∧
    Answers (.shotBlank slot) slot s (set s.clock.shot.value .blank) { code := .ok })

/-- ADJUST_CLOCK adds its delta within the clock's range; a running clock brought to its end value ends its period, with GC_ENDED, the end
horn, the shot clock's reaction and the GC_END captures; any other clock is ENDED exactly at its end value and STOPPED otherwise, with no flag
(R68, R73, R80, R87). -/
def Obligations.AdjustClockCorrects : Prop :=
  ∀ (slot : RingSlot) (delta : Word) (s : State), s.phase = .running →
    (delta.toInt < -600000 ∨ 600000 < delta.toInt → Answers (.adjustClock slot delta) slot s s { code := .outOfRange }) ∧
    (delta.toInt = 0 → Answers (.adjustClock slot delta) slot s s { code := .ok }) ∧
    (-600000 ≤ delta.toInt → delta.toInt ≤ 600000 → delta.toInt ≠ 0 →
      ∀ v top fin : Nat, (s.clock.game.direction = .up → top = s.clock.game.limit ∧ fin = s.clock.game.limit) →
        (s.clock.game.direction = .down → top = 5999000 ∧ fin = 0) →
        (v : Int) = max 0 (min (top : Int) ((s.clock.game.value : Int) + delta.toInt)) →
        ∃ s', Answers (.adjustClock slot delta) slot s s'
            { code := if (v : Int) = (s.clock.game.value : Int) + delta.toInt then .ok else .clamped } ∧
          s'.clock.game =
            { s.clock.game with
              value := v
              state := if v = fin then .ended else if s.clock.game.state = .running then .running else .stopped } ∧
          (s.clock.game.state = .running → v = fin →
            s'.flagged .gcEnded = true ∧
            s'.clock =
              { s.clock with
                game := s'.clock.game
                shot :=
                  if s.clock.shot.follow = true ∧ s.clock.shot.state = .running then { s.clock.shot with state := .stopped }
                  else s.clock.shot
                horn :=
                  { s.clock.horn with
                    timer :=
                      if s.clock.horn.endHorn = true then max s.clock.horn.timer s.clock.horn.periodTime
                      else s.clock.horn.timer } } ∧
            (∀ n : Fin 4,
              s'.console.channels[n] =
                (if (s.console.channels[n]).source = .gcEnd then (s.console.channels[n]).take s'.clock else s.console.channels[n]) ∧
              s'.flagged (captureFlag n) = (s.flagged (captureFlag n) || decide ((s.console.channels[n]).source = .gcEnd))) ∧
            (∀ f : Flag, f ≠ .gcEnded → (∀ n : Fin 4, f ≠ captureFlag n) → s'.flagged f = s.flagged f) ∧
            s' = { s with
                    clock := s'.clock
                    console := { s.console with channels := s'.console.channels }
                    command := { s.command with flags := s'.command.flags } }) ∧
          (s.clock.game.state ≠ .running ∨ v ≠ fin →
            s' = { s with clock := { s.clock with game := s'.clock.game } }))

/-! ### Console, score and ticker settings (Chapters 5, 6, 9) -/

/-- SET_LINE stores a line's settings and re-seeds it from its raw level, without an edge; SET_CAPTURE stores a channel's source and keeps
its records; SET_FLASH stores the flash length; SET_TICKER a speed of 1 to 16 and a gap of at most 4,095 (R94, R95, R104, R154).
That SET_LINE re-seeds its line also before the first tick since reset is the model's choice (notes/assumptions/34). -/
def Obligations.ConsoleFlashAndTickerSettings : Prop :=
  (∀ (slot : RingSlot) (s : State), s.phase = .running →
    (∀ (line function level filter raw : Byte) (n : Fin 8) (f : LineFunction), line.toNat = n.val →
      lineFunction function = some f → level = 0 ∨ level = 1 →
      filter = 0 ∨ filter = 2 ∨ filter = 4 ∨ filter = 8 ∨ filter = 16 ∨ filter = 32 →
      ∃ s', Answers (.setLine slot line function level filter raw) slot s s' { code := .ok } ∧
        s'.console.lines[n] =
          { function := f, activeHigh := decide (level = 1), filter := filter.toNat, accepted := rawLevel raw n, diff := 0 } ∧
        (∀ m : Fin 8, m ≠ n → s'.console.lines[m] = s.console.lines[m]) ∧
        s' = { s with console := { s.console with lines := s'.console.lines } }) ∧
    (∀ (channel source line edge : Byte) (n : Fin 4) (src : CaptureSource), channel.toNat = n.val →
      captureSource source line edge = some src →
      ∃ s', Answers (.setCapture slot channel source line edge) slot s s' { code := .ok } ∧
        s'.console.channels[n] = { s.console.channels[n] with source := src } ∧
        (∀ m : Fin 4, m ≠ n → s'.console.channels[m] = s.console.channels[m]) ∧
        s' = { s with console := { s.console with channels := s'.console.channels } }) ∧
    (∀ frames : Half, frames.toNat ≤ 255 →
      Answers (.setFlash slot frames) slot s { s with score := { s.score with flashLength := frames.toNat } } { code := .ok }) ∧
    ∀ frames : Half, 255 < frames.toNat → Answers (.setFlash slot frames) slot s s { code := .outOfRange }) ∧
  (∀ (slot : RingSlot) (speed : Byte) (gap : Half) (s : State), s.phase = .running →
    (speed.toNat < 1 ∨ 16 < speed.toNat ∨ 4095 < gap.toNat →
      Answers (.setTicker slot speed gap) slot s s { code := .outOfRange }) ∧
    (1 ≤ speed.toNat → speed.toNat ≤ 16 → gap.toNat ≤ 4095 →
      Answers (.setTicker slot speed gap) slot s
        { s with ticker := { s.ticker with speed := speed.toNat, gap := gap.toNat } } { code := .ok }))

/-! ### Score (Chapter 6) -/

/-- SET_SCORE stores a value clamped to its field's range (Table 6.1); one that stores the value already held changes nothing. -/
def Obligations.SetScoreClampsToRange : Prop :=
  (List.finRange 10).map fieldMax = [999, 999, 9, 2, 9, 9, 99, 99, 1, 1] ∧
  ∀ (slot : RingSlot) (field : Byte) (value : Word) (s : State), s.phase = .running →
    (10 ≤ field.toNat → Answers (.setScore slot field value) slot s s { code := .outOfRange }) ∧
    ∀ (f : Fin 10) (v : Nat), f.val = field.toNat →
      v = (if value.toInt < 0 then 0 else if (fieldMax f : Int) < value.toInt then fieldMax f else value.toNat) →
      ∃ s', Answers (.setScore slot field value) slot s s'
          { code := if value.toInt < 0 ∨ (fieldMax f : Int) < value.toInt then .clamped else .ok } ∧
        s'.score.fields[f] = v ∧ (∀ g : Fin 10, g ≠ f → s'.score.fields[g] = s.score.fields[g]) ∧
        (v = s.score.fields[f] → s' = s) ∧
        s' = { s with
                score := s'.score
                rotation := s'.rotation
                console := { s.console with channels := s'.console.channels }
                command := { s.command with flags := s'.command.flags } }

/-- ADD_SCORE adds a delta to a numeric field within the field's range, with the three checks of R102 in order. -/
def Obligations.AddScoreClampsTheSum : Prop :=
  ∀ (slot : RingSlot) (field : Byte) (delta : Word) (s : State), s.phase = .running →
    (10 ≤ field.toNat ∨ field.toNat = 3 ∨ field.toNat = 8 ∨ field.toNat = 9 ∨ delta.toInt < -99 ∨ 99 < delta.toInt →
      Answers (.addScore slot field delta) slot s s { code := .outOfRange }) ∧
    ∀ (f : Fin 10) (v : Nat), f.val = field.toNat → f ≠ 3 → f ≠ 8 → f ≠ 9 → -99 ≤ delta.toInt → delta.toInt ≤ 99 →
      (v : Int) = max 0 (min (fieldMax f : Int) ((s.score.fields[f] : Int) + delta.toInt)) →
      ∃ s', Answers (.addScore slot field delta) slot s s'
          { code := if (v : Int) = (s.score.fields[f] : Int) + delta.toInt then .ok else .clamped } ∧
        s'.score.fields[f] = v ∧ (∀ g : Fin 10, g ≠ f → s'.score.fields[g] = s.score.fields[g]) ∧
        (v = s.score.fields[f] → s' = s) ∧
        s' = { s with
                score := s'.score
                rotation := s'.rotation
                console := { s.console with channels := s'.console.channels }
                command := { s.command with flags := s'.command.flags } }

/-- What a changed field causes, by SET_SCORE or ADD_SCORE, clamped or not: a change of a team's score takes the SCORE_CHANGE captures; a
rise also sets that score's flash counter to the flash length and makes a sting pending in every zone that has one; a change of any other
field causes nothing (R103, R119). -/
def Obligations.ScoreChangeHandedOn : Prop :=
  ∀ (slot : RingSlot) (field : Byte) (value : Word) (s : State) (f : Fin 10), s.phase = .running → f.val = field.toNat →
    let handedOn (s' : State) (v : Nat) : Prop :=
      s'.score.fields[f] = v ∧ s'.score.flashLength = s.score.flashLength ∧
      (∀ n : Fin 4, s'.console.channels[n] =
        if (f = 0 ∨ f = 1) ∧ (s.console.channels[n]).source = .scoreChange then (s.console.channels[n]).take s.clock
        else s.console.channels[n]) ∧
      (∀ n : Fin 4, f = 0 ∨ f = 1 → (s.console.channels[n]).source = .scoreChange → s'.flagged (captureFlag n) = true) ∧
      s'.score.homeFlash = (if f = 0 ∧ s.score.fields[f] < v then s.score.flashLength else s.score.homeFlash) ∧
      s'.score.guestFlash = (if f = 1 ∧ s.score.fields[f] < v then s.score.flashLength else s.score.guestFlash) ∧
      (∀ z : ZoneIx, s'.rotation.zones[z] =
        if (f = 0 ∨ f = 1) ∧ s.score.fields[f] < v ∧ (s.rotation.zones[z]).sting.isSome = true then
          { s.rotation.zones[z] with stingPending := true }
        else s.rotation.zones[z]) ∧
      s'.rotation.spots = s.rotation.spots
    (∀ v : Nat, (v : Int) = max 0 (min (fieldMax f : Int) value.toInt) → v ≠ s.score.fields[f] →
      ∃ s' r, Answers (.setScore slot field value) slot s s' r ∧ handedOn s' v) ∧
    (∀ v : Nat, f ≠ 3 → f ≠ 8 → f ≠ 9 → -99 ≤ value.toInt → value.toInt ≤ 99 →
      (v : Int) = max 0 (min (fieldMax f : Int) ((s.score.fields[f] : Int) + value.toInt)) → v ≠ s.score.fields[f] →
      ∃ s' r, Answers (.addScore slot field value) slot s s' r ∧ handedOn s' v)

/-! ### Screen, plan, modes and the frame record (Chapter 1) -/

/-- SET_SCREEN (with BLACK in force), SET_OUTPUT_MODE, SET_HOUSE_SLATE, SET_FONT, APPLY_PLAN and CANCEL_STAGE store what they carry and
nothing else (R4, R5, R7-R10).
That SET_SCREEN tests the mode first is the model's reading (notes/assumptions/14). -/
def Obligations.ComposerSettingsStored : Prop :=
  ∀ (slot : RingSlot) (s : State), s.phase = .running →
    (∀ w h : Byte, s.composer.record.mode = .black → 8 ≤ w.toNat → w.toNat ≤ 128 → 4 ≤ h.toNat → h.toNat ≤ 48 →
      (∀ z : ZoneIx, (s.composer.live[z]).enable = true → (s.composer.live[z]).onScreen w.toNat h.toNat = true) →
      (∀ z : ZoneIx, (s.composer.staged[z]).enable = true → (s.composer.staged[z]).onScreen w.toNat h.toNat = true) →
      (∀ b ∈ s.composer.slate, b.toNat + w.toNat * h.toNat * 4096 ≤ s.controlBase) →
      Answers (.setScreen slot w h) slot s
        { s with composer := { s.composer with screenW := w.toNat, screenH := h.toNat } } { code := .ok }) ∧
    (∀ w h : Byte, s.composer.record.mode ≠ .black → Answers (.setScreen slot w h) slot s s { code := .wrongMode }) ∧
    (∀ (b : Byte) (m : OutputMode), b.toNat = m.code →
      Answers (.setOutputMode slot b) slot s { s with composer := { s.composer with requestedMode := m } } { code := .ok }) ∧
    (∀ base : Word, base.toNat % 4096 = 0 → base.toNat + s.composer.screenW * s.composer.screenH * 4096 ≤ s.controlBase →
      Answers (.setHouseSlate slot 1 base) slot s { s with composer := { s.composer with slate := some base } } { code := .ok }) ∧
    (∀ base : Word,
      Answers (.setHouseSlate slot 0 base) slot s { s with composer := { s.composer with slate := none } } { code := .ok }) ∧
    (∀ base : Word, base.toNat % 4096 = 0 → base.toNat + 262144 ≤ s.controlBase →
      Answers (.setFont slot 1 base) slot s { s with composer := { s.composer with font := some base } } { code := .ok }) ∧
    (∀ base : Word, base.toNat % 4096 ≠ 0 ∨ s.controlBase < base.toNat + 262144 →
      Answers (.setFont slot 1 base) slot s s { code := .outOfRange }) ∧
    (∀ base : Word,
      Answers (.setFont slot 0 base) slot s { s with composer := { s.composer with font := none } } { code := .ok }) ∧
    Answers (.applyPlan slot) slot s { s with composer := { s.composer with applyRequest := true } } { code := .ok } ∧
    Answers (.cancelStage slot) slot s
      { s with composer := { s.composer with staged := s.composer.live, applyRequest := false } } { code := .ok }

/-- STAGE_ZONE by the conditions of Table 1.2 in their order: an index above 15 or an enable that is neither on nor off is OUT_OF_RANGE; a
disabled descriptor is stored as given; an enabled one is refused by the first of checks 3 to 12 that fails, and stored otherwise. Counts and
comparisons are made in the staged plan with the new descriptor in place (R3). An enabled FILL zone in range and on the screen is stored
whenever the staged plan could be placed. -/
def Obligations.StageZoneByItsChecks : Prop :=
  ∀ (slot : RingSlot) (index : Byte) (p : ZonePayload) (s : State), s.phase = .running →
    let refused (code : ResultCode) : Prop := Answers (.stageZone slot index p) slot s s { code := code }
    (15 < index.toNat ∨ 1 < p.enable.toNat → refused .outOfRange) ∧
    ∀ z : ZoneIx, index.toNat = z.val →
      let d (enable : Bool) : ZoneDesc :=
        { enable := enable, source := zoneSource p.source, x := p.x, y := p.y, w := p.w, h := p.h, level := p.level,
          leadIn := p.leadIn, guard := p.guard,
          param :=
            if p.source = 0 then .colour (wordColour p.param) else if p.source = 1 then .base p.param
            else if p.source.toNat ≤ 5 then .absent else .raw p.param }
      let w := p.w.toNat
      let h := p.h.toNat
      let live := s.composer.live[z]
      let plan (y : ZoneIx) : ZoneDesc := if y = z then d true else s.composer.staged[y]
      let count (k : ZoneSource) : Nat := (allZones.filter fun y => (plan y).enable && decide ((plan y).source = k)).length
      let stored (e : Bool) : Prop :=
        ∃ s', Answers (.stageZone slot index p) slot s s' { code := .ok } ∧ s'.composer.staged[z] = d e ∧
          (∀ y : ZoneIx, y ≠ z → s'.composer.staged[y] = s.composer.staged[y]) ∧
          s' = { s with composer := { s.composer with staged := s'.composer.staged } }
      let range : Prop :=
        (5 < p.source.toNat ∨ 127 < p.x.toNat ∨ 47 < p.y.toNat ∨ w < 1 ∨ 128 < w ∨ h < 1 ∨ 48 < h ∨ 15 < p.level.toNat ∨
          60 < p.leadIn.toNat) ∨
        (s.composer.screenW < p.x.toNat + w ∨ s.composer.screenH < p.y.toNat + h) ∨
        (p.source = 1 ∧ (p.param.toNat % 4096 ≠ 0 ∨ s.controlBase < p.param.toNat + w * h * 4096))
      let noRing : Prop := p.source = 3 ∧ s.intake.ring = none
      let limit : Prop := 1 < count .replay ∨ 1 < count .ticker ∨ 2 < count .scorebug ∨ 4 < count .sponsor
      let size : Prop :=
        (p.source = 4 ∧ ¬ (w = 16 ∧ h = 3)) ∨ (p.source = 5 ∧ (h ≠ 1 ∨ w < 4)) ∨
        (p.source = 3 ∧ ∃ r, s.intake.ring = some r ∧ ¬ (w = r.w ∧ h = r.h))
      let overlap : Prop :=
        p.source = 4 ∧ ∃ y : ZoneIx, y ≠ z ∧ (plan y).enable = true ∧ (plan y).source = .scorebug ∧
          p.x.toNat < (plan y).x.toNat + (plan y).w.toNat ∧ (plan y).x.toNat < p.x.toNat + w ∧
          p.y.toNat < (plan y).y.toNat + (plan y).h.toNat ∧ (plan y).y.toNat < p.y.toNat + h
      let bound : Prop :=
        p.source = 2 ∧ live.enable = true ∧ live.source = .sponsor ∧ (s.rotation.zones[z]).rotation ≠ [] ∧
        (live.w ≠ p.w ∨ live.h ≠ p.h)
      (p.enable = 0 → stored false) ∧
      (p.enable = 1 →
        (range → refused .outOfRange) ∧
        (¬ range → noRing → refused .noZone) ∧
        (¬ range → ¬ noRing → limit → refused .limit) ∧
        (¬ range → ¬ noRing → ¬ limit → size → refused .sizeMismatch) ∧
        (¬ range → ¬ noRing → ¬ limit → ¬ size → overlap → refused .overlap) ∧
        (¬ range → ¬ noRing → ¬ limit → ¬ size → ¬ overlap → bound → refused .bound) ∧
        (¬ range → ¬ noRing → ¬ limit → ¬ size → ¬ overlap → ¬ bound → stored true)) ∧
      (p.enable = 1 → p.source = 0 → p.x.toNat ≤ 127 → p.y.toNat ≤ 47 → 1 ≤ w → w ≤ 128 → 1 ≤ h → h ≤ 48 → p.level.toNat ≤ 15 →
        p.leadIn.toNat ≤ 60 → p.x.toNat + w ≤ s.composer.screenW → p.y.toNat + h ≤ s.composer.screenH →
        s.composer.staged.Placeable s.composer.screenW s.composer.screenH → stored true)

/-- A FRAME_START raises the frame number, transfers a staged plan that was requested, and builds the frame record: the mode, size and
declarations, and of each zone the descriptor, whether it is active (Table 1.4), its marks (R6), its lead-in (R14) and its draw state (R17). It
pins the replay slots drawn and releases those of the frame before (R21). Nothing else changes but the flags PLAN_APPLIED and MODE_CHANGED,
the fetch's place, and the status write-back, which snapshots the block of Table 11.8 as it stands after the record is built (R185). The late
cells were forgotten at the FRAME_END, and what was fetched in blanking is kept as far as it is the frame's start (the model's choice,
notes/assumptions/19); no command comes between the record and the snapshot (the model's choice, notes/assumptions/31). Of the block, that the
slot count is 0 with no ring (notes/assumptions/18), and that the unnamed bits of a byte shown as a set of bits are 0 (notes/assumptions/22), are
the model's deductions; the bits and bytes the manual does not state are free (the model's choice, notes/assumptions/2). -/
def Obligations.FrameStartBuildsRecord : Prop :=
  (∀ s : State, s.phase = .running → s.timing.blanking = true →
    let c := s.composer
    let plan : Plan := if c.applyRequest = true then c.staged else c.live
    ∃ u, exec .frameStart s = .next u ∧ u.timing = { frameNumber := s.timing.frameNumber + 1, blanking := false } ∧
      u.composer = { c with
        live := plan
        applyRequest := false
        leadIn := u.composer.leadIn
        pins := u.composer.pins
        record := u.composer.record } ∧
      u.composer.record.frame = s.timing.frameNumber + 1 ∧ u.composer.record.mode = c.requestedMode ∧
      u.composer.record.w = c.screenW ∧ u.composer.record.h = c.screenH ∧
      u.composer.record.slate = c.slate ∧ u.composer.record.font = c.font ∧
      (∀ z : ZoneIx,
        let old := c.live[z]
        let new := c.staged[z]
        let d := plan[z]
        let r := u.composer.record.zones[z]
        r.desc = d ∧
        (r.active = true ↔ d.enable = true ∧
          (d.source = .fill ∨ d.source = .slate ∨ d.source = .sponsor ∨ d.source = .scorebug ∨
            (d.source = .replay ∧ s.roller.state ≠ .idle) ∨ (d.source = .ticker ∧ s.ticker.showing ≠ none))) ∧
        (r.changed = true ↔ c.applyRequest = true ∧
          (old.enable ≠ new.enable ∨ old.source ≠ new.source ∨ old.w ≠ new.w ∨ old.h ≠ new.h ∨ old.param ≠ new.param)) ∧
        (r.resized = true ↔ c.applyRequest = true ∧ old.enable = true ∧ old.source = .sponsor ∧ new.enable = true ∧
          new.source = .sponsor ∧ (old.w ≠ new.w ∨ old.h ≠ new.h)) ∧
        u.composer.leadIn[z] =
          (if r.active = false then 0
          else if (c.record.zones[z]).active = false ∨ r.changed = true ∨ (c.record.mode ≠ .normal ∧ c.requestedMode = .normal) then
            d.leadIn.toNat
          else c.leadIn[z] - 1) ∧
        r.inLeadIn = decide (0 < u.composer.leadIn[z]) ∧
        (r.active = false → r.draw = none) ∧
        (r.active = true → ∀ colour, d.source = .fill → d.param = .colour colour → r.draw = some (.fill colour)) ∧
        (r.active = true → ∀ base, d.source = .slate → d.param = .base base → r.draw = some (.slate base.toNat)) ∧
        (r.active = true → d.source = .sponsor →
          ((s.rotation.zones[z]).showing = none → r.draw = some (.sponsor none)) ∧
          ∀ h p, (s.rotation.zones[z]).showing = some h → s.rotation.spot h.spotId = some p →
            r.draw = some (.sponsor (some { base := p.artBase, w := p.artW, h := p.artH }))) ∧
        (r.active = true → d.source = .replay →
          (s.roller.showPlan = none → r.draw = some (.replay none)) ∧
          ∀ p k x, s.roller.showPlan = some p → s.intake.frames.Nodup → s.intake.slots[k]? = some x → x.state.frame = some p.a →
            (p.b = none → r.draw = some (.replay (some { a := ⟨p.a, k⟩, b := none, w16 := p.w16 }))) ∧
            ∀ g j y, p.b = some g → s.intake.slots[j]? = some y → y.state.frame = some g →
              r.draw = some (.replay (some { a := ⟨p.a, k⟩, b := some ⟨g, j⟩, w16 := p.w16 }))) ∧
        (r.active = true → d.source = .scorebug → r.draw = some (.scorebug (renderScorebug s.score s.clock))) ∧
        (r.active = true → ∀ x, d.source = .ticker → s.ticker.showing = some x →
          r.draw = some (.ticker { text := x.entry.text, position := x.position, priority := x.entry.priority }))) ∧
      (∀ (z : ZoneIx) (d : ReplayDraw), (plan[z]).isOn .replay = true → (∀ y : ZoneIx, y ≠ z → (plan[y]).isOn .replay = false) →
        (u.composer.record.zones[z]).draw = some (.replay (some d)) →
        u.composer.pins = d.a.slot :: (d.b.map fun b => b.slot).toList) ∧
      ((∀ (z : ZoneIx) (d : ReplayDraw), (u.composer.record.zones[z]).draw ≠ some (.replay (some d))) → u.composer.pins = []) ∧
      u.intake.slots.length = s.intake.slots.length ∧
      (∀ (k : Nat) (x : SlotRecord), s.intake.slots[k]? = some x →
        u.intake.slots[k]? = some { state := x.state, pins := x.pins + u.composer.pins.count k - c.pins.count k }) ∧
      u.flagged .planApplied = (s.flagged .planApplied || c.applyRequest) ∧
      u.flagged .modeChanged = (s.flagged .modeChanged || decide (c.requestedMode ≠ c.record.mode)) ∧
      (∀ f : Flag, f ≠ .planApplied → f ≠ .modeChanged → u.flagged f = s.flagged f) ∧
      u.panel.lineBuffer <+: s.panel.lineBuffer ∧
      u.command.statusInFlight = true ∧ (s.command.statusInFlight = true → u.memctl = s.memctl) ∧
      (s.command.statusInFlight = false → s.memctl.waitCommand = [] → s.memctl.queue.length ≤ 35 →
        u.memctl.queue = s.memctl.queue ++
          [{ offset := 0x4000, data := (statusBytes u).take 4 }, { offset := 0x4004, data := ((statusBytes u).drop 4).take 60 }] ++
          ((List.range 25).map fun i => { offset := 0x4040 + 64 * i, data := ((statusBytes u).drop (64 + 64 * i)).take 64 }) ++
          [{ offset := 0x4680, data := ((statusBytes u).drop 0x680).take 32 },
            { offset := 0x4FFC, data := leBytes 4 (s.timing.frameNumber + 1).toNat }]) ∧
      u = { s with
              timing := u.timing
              composer := u.composer
              intake := { s.intake with slots := u.intake.slots }
              panel := { s.panel with lineBuffer := u.panel.lineBuffer, fetchAt := u.panel.fetchAt }
              command := { s.command with flags := u.command.flags, statusInFlight := true }
              memctl := { s.memctl with queue := u.memctl.queue, waitCommand := u.memctl.waitCommand } }) ∧
  ∀ s : State,
    let shows (o n v : Nat) : Prop := ofLeBytes (((statusBytes s).drop o).take n) = v % 256 ^ n
    let bit (b : Bool) (v : Nat) : Nat := if b = true then v else 0
    (statusBytes s).length = 1696 ∧
    (shows 0x000 4 s.timing.frameNumber.toNat ∧
      shows 0x004 1 (bit s.command.causes.powerOn 1 + bit s.command.causes.resetLine 2 + bit s.command.causes.restart 4) ∧
      shows 0x005 1 s.composer.record.mode.code ∧ shows 0x006 1 s.composer.screenW ∧ shows 0x007 1 s.composer.screenH ∧
      shows 0x008 4 s.command.flags.toNat ∧ shows 0x00C 4 s.command.attnMask.toNat ∧ shows 0x010 4 s.timing.frameNumber.toNat ∧
      shows 0x014 4 s.clock.venue.toNat ∧ shows 0x018 4 s.command.taken.toNat ∧ shows 0x01C 4 s.command.refused.toNat) ∧
    (shows 0x020 4 s.clock.game.value ∧ shows 0x024 3 s.clock.game.limit ∧ shows 0x027 1 s.clock.game.state.code ∧
      shows 0x028 3 (s.clock.mark0.value.getD 0xFFFFFF) ∧
      shows 0x02B 1 (bit s.clock.mark0.flag 1 + bit s.clock.mark0.horn 2 + bit s.clock.mark0.stop 4) ∧
      shows 0x02C 3 (s.clock.mark1.value.getD 0xFFFFFF) ∧
      shows 0x02F 1 (bit s.clock.mark1.flag 1 + bit s.clock.mark1.horn 2 + bit s.clock.mark1.stop 4) ∧
      shows 0x030 3 s.clock.shot.value ∧ shows 0x033 1 s.clock.shot.state.code ∧ shows 0x034 3 s.clock.shot.preset ∧
      shows 0x037 1 (bit s.clock.shot.follow 1 + bit s.clock.shot.startOnGame 2 + bit s.clock.shot.shotHorn 4) ∧
      shows 0x038 2 s.clock.horn.timer ∧
      shows 0x03A 1 (bit (decide (s.clock.game.direction = .up)) 1 + bit s.clock.game.tenths 2 + bit s.clock.horn.endHorn 4 +
        bit s.hornActive 8) ∧
      shows 0x03B 1 0 ∧ shows 0x03C 2 s.clock.horn.periodTime ∧ shows 0x03E 2 s.clock.horn.shotTime) ∧
    (∀ n : Fin 4,
      let c := s.console.channels[n]
      let o := 0x040 + 32 * n.val
      let record (at_ : Nat) (r : Option CaptureRecord) : Prop :=
        (r = none → shows at_ 14 0) ∧
        ∀ x, r = some x → shows at_ 4 x.venue.toNat ∧ shows (at_ + 4) 3 x.gameValue ∧ shows (at_ + 7) 1 x.gameState.code ∧
          shows (at_ + 8) 3 x.shotValue ∧ shows (at_ + 11) 1 x.shotState.code ∧ shows (at_ + 12) 2 x.sequence.toNat
      shows o 1 c.source.code ∧ (∀ l e, c.source = .line l e → shows (o + 1) 1 l.val ∧ shows (o + 2) 1 e.code) ∧
      shows (o + 3) 1 (bit c.latest.isSome 1 + bit c.previous.isSome 2) ∧ record (o + 4) c.latest ∧ record (o + 18) c.previous) ∧
    (shows 0x0C0 2 s.score.fields[0] ∧ shows 0x0C2 2 s.score.fields[1] ∧ shows 0x0C4 1 s.score.fields[2] ∧
      shows 0x0C5 1 s.score.fields[3] ∧ shows 0x0C6 1 s.score.fields[4] ∧ shows 0x0C7 1 s.score.fields[5] ∧
      shows 0x0C8 1 s.score.fields[6] ∧ shows 0x0C9 1 s.score.fields[7] ∧
      shows 0x0CA 1 (bit (decide (s.score.fields[8] = 1)) 1 + bit (decide (s.score.fields[9] = 1)) 2) ∧
      shows 0x0CB 1 s.score.flashLength ∧ shows 0x0CC 1 s.score.homeFlash ∧ shows 0x0CD 1 s.score.guestFlash ∧ shows 0x0CE 2 0) ∧
    (shows 0x0D0 1 s.roller.state.code ∧ shows 0x0D1 1 s.roller.lastEnd.code ∧ shows 0x0D2 1 s.roller.direction.code ∧
      shows 0x0D3 1 (bit s.roller.showPlan.isSome 1) ∧ shows 0x0D4 4 (s.roller.showPlan.elim 0 fun p => p.a.toNat) ∧
      shows 0x0D8 4 s.roller.pInt ∧ shows 0x0DC 2 s.roller.speed ∧ shows 0x0DE 2 s.roller.gapCount ∧
      shows 0x0E0 2 s.roller.starvedCount ∧ shows 0x0E2 1 (s.intake.intakeSlot.getD 0xFF) ∧
      shows 0x0E3 1 (bit s.intake.ring.isSome 1) ∧ shows 0x0E4 1 s.intake.heldCount ∧
      shows 0x0E5 1 (s.intake.ring.elim 0 fun r => r.count) ∧ shows 0x0E6 2 0 ∧ shows 0x0E8 4 s.intake.completions.toNat ∧
      shows 0x0EC 20 0) ∧
    (∀ k, k < 64 →
      (s.intake.slots[k]? = none → shows (0x100 + 8 * k) 8 0) ∧
      ∀ x, s.intake.slots[k]? = some x →
        shows (0x100 + 8 * k) 1 x.state.code ∧ shows (0x101 + 8 * k) 1 x.pins ∧ shows (0x102 + 8 * k) 2 0 ∧
        ∀ f, x.state.frame = some f → shows (0x104 + 8 * k) 4 f.toNat) ∧
    ((s.ticker.showing = none → shows 0x300 2 0) ∧
      (∀ x, s.ticker.showing = some x → shows 0x300 2 x.entry.tag ∧ shows 0x302 1 x.entry.priority ∧ shows 0x303 1 x.entry.repeats ∧
        shows 0x304 2 x.entry.passes ∧ shows 0x306 2 (BitVec.ofInt 16 x.position).toNat) ∧
      shows 0x308 1 s.ticker.waiting.length ∧ shows 0x309 1 s.ticker.freeChunks ∧ shows 0x30A 1 s.ticker.speed ∧
      shows 0x30B 1 (s.ticker.lastRemoved.elim 0 fun p => p.2.code) ∧ shows 0x30C 2 s.ticker.gap ∧
      ∀ p, s.ticker.lastRemoved = some p → shows 0x30E 2 p.1) ∧
    (∀ j, j < 4 →
      let o := 0x310 + 16 * j
      let zones := allZones.filter fun z => (s.composer.record.zones[z]).desc.isOn .sponsor
      (zones[j]? = none → shows o 1 0xFF ∧ shows (o + 1) 15 0) ∧
      ∀ z, zones[j]? = some z →
        let x := s.rotation.zones[z]
        shows o 1 z.val ∧ shows (o + 1) 1 (x.showing.elim 0 fun h => h.spotId) ∧ shows (o + 3) 1 (BitVec.ofInt 8 x.cursor).toNat ∧
        shows (o + 4) 1 x.rotation.length ∧ shows (o + 5) 1 (x.sting.getD 0) ∧ shows (o + 14) 2 0 ∧
        (x.showing = none → ofLeBytes (((statusBytes s).drop (o + 2)).take 1) / 4 = bit x.stingPending 1) ∧
        ∀ h, x.showing = some h → shows (o + 2) 1 (bit h.sting 1 + bit h.overrun 2 + bit x.stingPending 4) ∧
          shows (o + 6) 2 h.framesOnAir ∧ shows (o + 8) 2 h.countedFrames ∧ shows (o + 10) 4 h.credit) ∧
    (shows 0x350 4 s.exposure.nextRecord.toNat ∧ shows 0x354 4 s.exposure.readMark.toNat ∧ shows 0x358 2 s.exposure.missed ∧
      shows 0x35A 6 0) ∧
    (∀ j, j < 48 →
      let o := 0x360 + 16 * j
      (s.rotation.spots[j]? = none → shows o 16 0) ∧
      ∀ p, s.rotation.spots[j]? = some p → shows o 1 p.id ∧
        shows (o + 1) 1 (bit p.saturated 1 + bit p.contractMet 2 + bit p.withdrawing 4) ∧ shows (o + 2) 2 p.showings ∧
        shows (o + 4) 2 p.contract ∧ shows (o + 6) 2 0 ∧ shows (o + 8) 4 p.delivered ∧ shows (o + 12) 4 0) ∧
    (∀ z : ZoneIx,
      let o := 0x660 + 4 * z.val
      let r := s.composer.record.zones[z]
      shows o 2 r.visible ∧
      shows (o + 2) 1 (bit r.desc.enable 1 + bit r.active 2 + bit r.inLeadIn 4 + bit r.changed 8 + bit r.resized 16) ∧
      shows (o + 3) 1 s.composer.leadIn[z]) ∧
    ([OutputMode.normal, .black, .white, .slateOnly].map OutputMode.code = [0, 1, 2, 3] ∧
      [GameState.stopped, .running, .ended].map GameState.code = [0, 1, 2] ∧
      [ShotState.blank, .stopped, .running, .ended].map ShotState.code = [0, 1, 2, 3] ∧
      [CaptureSource.off, .line 0 .rising, .gcStart, .gcStop, .gcEnd, .scEnd, .scoreChange, .mark].map CaptureSource.code =
        [0, 1, 2, 3, 4, 5, 6, 7] ∧
      [CaptureEdge.rising, .falling, .any].map CaptureEdge.code = [0, 1, 2] ∧
      [RollerState.idle, .rolling, .starved, .holding].map RollerState.code = [0, 1, 2, 3] ∧
      [RollEnd.none, .outPoint, .frameGone, .stopped, .clock, .zoneRemoved, .restart].map RollEnd.code = [0, 1, 2, 3, 4, 5, 6] ∧
      [RollDirection.forward, .reverse].map RollDirection.code = [0, 1] ∧
      [SlotState.free, .filling, .ready 0 0, .held 0 0].map SlotState.code = [1, 2, 3, 4] ∧
      [RemovalReason.done, .expired, .cancelled, .cleared].map RemovalReason.code = [1, 2, 3, 4])

/-- The lead-in counter of an active zone that stays active and unchanged falls by 1 at each FRAME_START; at 1 the FRAME_START is a
LEAD_IN_END, from which the zone shows its content (R14).
The row is the whole step its event comes about in (the model's choice, notes/assumptions/4). -/
def Obligations.LeadInEndsAtZero : Prop :=
  ∀ (s : State) (z : ZoneIx), s.phase = .running → s.timing.blanking = true → (s.composer.record.zones[z]).active = true →
    zoneActive s s.composer.planNext[z] = true → s.composer.marksChanged z = false →
    s.composer.record.mode = .normal ∨ s.composer.requestedMode ≠ .normal →
    (∃ u, exec .frameStart s = .next u ∧ u.composer.leadIn[z] = s.composer.leadIn[z] - 1) ∧
    (s.composer.leadIn[z] = 1 →
      ∃ u, exec (.leadInEnd z) s = .next u ∧ exec .frameStart s = .next u ∧ u.composer.leadIn[z] = 0 ∧
        (u.composer.record.zones[z]).active = true ∧ (u.composer.record.zones[z]).inLeadIn = false)

/-- The owner of a cell is the active zone that contains it and stands last in draw order: a SCOREBUG zone above every other, then the
higher level, then the higher index. After a FRAME_START each zone's visible count is the number of the wall's cells it owns, so at most its
own cells; the counts together are at most the wall's cells, and all are 0 unless the mode in force is NORMAL (R15). -/
def Obligations.OwnershipAndVisibleCounts : Prop :=
  (∀ (p : Plan) (zones : List ZoneIx) (cx cy : Nat),
    (cellOwner p zones cx cy = none ↔ ∀ z ∈ zones, (p[z]).contains cx cy = false) ∧
    ∀ z, cellOwner p zones cx cy = some z →
      z ∈ zones ∧ (p[z]).contains cx cy = true ∧
      ∀ y ∈ zones, (p[y]).contains cx cy = true → y ≠ z →
        (((p[z]).source = .scorebug ∧ (p[y]).source ≠ .scorebug) ∨
          ((p[z]).source = .scorebug ∧ (p[y]).source = .scorebug ∧ y < z) ∨
          ((p[z]).source ≠ .scorebug ∧ (p[y]).source ≠ .scorebug ∧
            ((p[y]).level < (p[z]).level ∨ ((p[y]).level = (p[z]).level ∧ y < z))))) ∧
  (∀ s : State, s.phase = .running → s.timing.blanking = true →
    ∃ u, exec .frameStart s = .next u ∧
      (∀ z : ZoneIx,
        (u.composer.record.zones[z]).visible =
          ((List.range s.composer.screenH).flatMap fun cy => (List.range s.composer.screenW).filter fun cx =>
            decide (s.composer.requestedMode = .normal) &&
            decide (cellOwner u.composer.live (allZones.filter fun y => (u.composer.record.zones[y]).active) cx cy = some z)).length ∧
        (u.composer.record.zones[z]).visible ≤ (u.composer.live[z]).w.toNat * (u.composer.live[z]).h.toNat ∧
        ((u.composer.record.zones[z]).active = false → (u.composer.record.zones[z]).visible = 0)) ∧
      (allZones.map fun z => (u.composer.record.zones[z]).visible).sum ≤ s.composer.screenW * s.composer.screenH ∧
      (s.composer.requestedMode ≠ .normal → ∀ z : ZoneIx, (u.composer.record.zones[z]).visible = 0))

/-- A cell that falls due with its fetch unserved raises UNDERRUN and is sent in its owner's guard colour, black without an owner; every
other cell, the frame record and memory are as they were (R22). A cell that is not late shows what Tables 1.3 and 1.6 give it: colours, images,
the replay's blend, the glyphs of the scorebug in the layout of Table 6.3 with the clocks' texts of Tables 4.9 and 4.10, and the crawling text
(R18-R20, R57, R85, R86, R106-R108); the panel link sends the frame's lines in order, each with its number (R23).
Which unserved cell falls due is the command's operand, and a pixel whose block is not in the line buffer is drawn from what memory holds (the
model's choices, notes/assumptions/19); the frame's lines are sent as one list (the model's choice, notes/assumptions/20). -/
def Obligations.UnderrunSendsGuardColour : Prop :=
  (∀ (s : State) (cx cy : Nat), s.phase = .running → s.timing.blanking = false → s.cellUnserved cx cy = true →
    ∃ u, exec (.underrun cx cy) s = .next u ∧ u.flagged .underrun = true ∧
      (∀ px py, px / 32 = cx → py / 32 = cy → u.pixel px py =
        (match s.composer.record.owner cx cy with
          | some z => (s.composer.record.zones[z]).desc.guard
          | none => ⟨0, 0, 0⟩)) ∧
      (∀ px py, (px / 32, py / 32) ≠ (cx, cy) → u.pixel px py = s.pixel px py) ∧
      u = { s with panel := { s.panel with late := u.panel.late }, command := { s.command with flags := u.command.flags } }) ∧
  (∀ (s : State) (px py : Nat), (px / 32, py / 32) ∉ s.panel.late →
    let r := s.composer.record
    let reverse (c : Colour) : Colour := { red := 255 - c.red, green := 255 - c.green, blue := 255 - c.blue }
    let image (base iw x y : Nat) : Colour :=
      scanColour s (base + (y / 32 * iw + x / 32) * 4096 + 128 * (y % 32) + 4 * (x % 32))
    let glyph (font : Word) (code : Byte) (column row : Nat) : Colour :=
      scanColour s (font.toNat + (if 0x20 ≤ code.toNat ∧ code.toNat ≤ 0x7E then code.toNat else 0x3F) * 2048 + 64 * row + 4 * column)
    let blend (w : Nat) (a b : Byte) : Byte := BitVec.ofNat 8 ((a.toNat * (16 - w) + b.toNat * w + 8) / 16)
    let slate (otherwise : Colour) : Colour := r.slate.elim otherwise fun base => image base.toNat r.w px py
    (∀ a, (∀ b ∈ s.panel.lineBuffer, a < b.addr ∨ b.addr + b.bytes.length ≤ a) → scanByte s a = s.memByte a) ∧
    (r.mode = .black → s.pixel px py = ⟨0, 0, 0⟩) ∧ (r.mode = .white → s.pixel px py = ⟨255, 255, 255⟩) ∧
    (r.mode = .slateOnly → s.pixel px py = slate ⟨0, 0, 0⟩) ∧
    (r.mode = .normal → r.owner (px / 32) (py / 32) = none → s.pixel px py = slate ⟨0, 0, 0⟩) ∧
    ∀ z : ZoneIx, r.mode = .normal → r.owner (px / 32) (py / 32) = some z →
      let v := r.zones[z]
      let guard := v.desc.guard
      let x := px - 32 * v.desc.x.toNat
      let y := py - 32 * v.desc.y.toNat
      (v.inLeadIn = true → s.pixel px py = guard) ∧
      (∀ c, v.inLeadIn = false → v.draw = some (.fill c) → s.pixel px py = c) ∧
      (∀ base, v.inLeadIn = false → v.draw = some (.slate base) →
        s.pixel px py = if x / 32 < v.desc.w.toNat ∧ y / 32 < v.desc.h.toNat then image base v.desc.w.toNat x y else guard) ∧
      (∀ a, v.inLeadIn = false → v.draw = some (.sponsor (some a)) →
        s.pixel px py = if x / 32 < a.w ∧ y / 32 < a.h then image a.base a.w x y else guard) ∧
      (v.inLeadIn = false → v.draw = some (.sponsor none) → s.pixel px py = slate guard) ∧
      (v.inLeadIn = false → v.draw = some (.replay none) → s.pixel px py = guard) ∧
      (∀ d g, v.inLeadIn = false → v.draw = some (.replay (some d)) → s.intake.ring = some g →
        let shown (slot : Nat) : Colour := image (g.ringBase + slot * ((g.w * g.h + 1) * 4096)) g.w x y
        (¬ (x / 32 < g.w ∧ y / 32 < g.h) → s.pixel px py = guard) ∧
        (x / 32 < g.w ∧ y / 32 < g.h →
          (d.b = none → s.pixel px py = shown d.a.slot) ∧
          ∀ b, d.b = some b → s.pixel px py =
            { red := blend d.w16 (shown d.a.slot).red (shown b.slot).red
              green := blend d.w16 (shown d.a.slot).green (shown b.slot).green
              blue := blend d.w16 (shown d.a.slot).blue (shown b.slot).blue })) ∧
      (∀ m f (i : Fin 96), v.inLeadIn = false → v.draw = some (.scorebug m) → r.font = some f → i.val = 32 * (y / 32) + x / 16 →
        (m[i] = none → s.pixel px py = ⟨0, 0, 0⟩) ∧
        ∀ g, m[i] = some g → s.pixel px py =
          if g.reversed = true then reverse (glyph f g.code (x % 16) (y % 32)) else glyph f g.code (x % 16) (y % 32)) ∧
      (∀ t f, v.inLeadIn = false → v.draw = some (.ticker t) → r.font = some f →
        (∀ (n : Nat) (c : Byte) (column : Nat), t.text[n]? = some c → column < 16 → (x : Int) = t.position + 16 * n + column →
          s.pixel px py = if t.priority = 3 then reverse (glyph f c column (y % 32)) else glyph f c column (y % 32)) ∧
        ((x : Int) < t.position ∨ t.position + 16 * (t.text.length : Int) ≤ x → s.pixel px py = ⟨0, 0, 0⟩)) ∧
      (∀ m, v.inLeadIn = false → v.draw = some (.scorebug m) → r.font = none → s.pixel px py = guard) ∧
      (∀ t, v.inLeadIn = false → v.draw = some (.ticker t) → r.font = none → s.pixel px py = guard)) ∧
  (∀ (u : ScoreUnit) (c : ClockUnit), (∀ f : Fin 10, u.fields[f] ≤ fieldMax f) →
    let shot : List Byte := c.shotText.getD []
    let cell (row pos : Nat) : Option ScoreGlyph := ((renderScorebug u c)[32 * row + pos]?).bind id
    let flash (n : Nat) : Bool := decide (0 < n ∧ (n - 1) / 8 % 2 = 0)
    let number (row start places v : Nat) (reversed : Bool) : Prop :=
      ∀ i, i < places → cell row (start + places - 1 - i) =
        if i = 0 ∨ 10 ^ i ≤ v then some { code := BitVec.ofNat 8 (0x30 + v / 10 ^ i % 10), reversed := reversed } else none
    let mark (row pos : Nat) (on : Prop) (code : Byte) : Prop :=
      (on → cell row pos = some { code := code, reversed := false }) ∧ (¬ on → cell row pos = none)
    let centred (row : Nat) (l : List Byte) : Prop :=
      ∀ (i : Nat) (b : Byte), l[i]? = some b → cell row ((32 - l.length) / 2 + i) = some { code := b, reversed := false }
    number 0 2 3 u.fields[0] (flash u.homeFlash) ∧ number 0 16 1 u.fields[2] false ∧
    number 0 27 3 u.fields[1] (flash u.guestFlash) ∧ centred 1 c.game.text ∧ number 2 1 1 u.fields[4] false ∧
    number 2 3 2 u.fields[6] false ∧ mark 2 6 (u.fields[8] = 1) 0x42 ∧ mark 2 12 (u.fields[3] = 1) 0x3C ∧
    centred 2 shot ∧ mark 2 19 (u.fields[3] = 2) 0x3E ∧
    mark 2 25 (u.fields[9] = 1) 0x42 ∧ number 2 27 2 u.fields[7] false ∧ number 2 30 1 u.fields[5] false ∧
    (∀ pos, pos < 32 → pos ∉ [2, 3, 4, 16, 27, 28, 29] → cell 0 pos = none) ∧
    (∀ pos, pos < 32 → pos < (32 - c.game.text.length) / 2 ∨ (32 - c.game.text.length) / 2 + c.game.text.length ≤ pos →
      cell 1 pos = none) ∧
    (∀ pos, 13 ≤ pos → pos ≤ 17 → pos < (32 - shot.length) / 2 ∨ (32 - shot.length) / 2 + shot.length ≤ pos →
      cell 2 pos = none) ∧
    ∀ pos, pos < 32 → pos ∉ [1, 3, 4, 6, 12, 13, 14, 15, 16, 17, 19, 25, 27, 28, 30] → cell 2 pos = none) ∧
  (let digit (n : Nat) : Byte := BitVec.ofNat 8 (0x30 + n)
  let plain (n : Nat) : List Byte := if n < 10 then [digit n] else [digit (n / 10), digit (n % 10)]
  let minutes (sec : Nat) : List Byte := plain (sec / 60) ++ [0x3A, digit (sec % 60 / 10), digit (sec % 60 % 10)]
  let tenths (n : Nat) : List Byte := plain (n / 10) ++ [0x2E, digit (n % 10)]
  (∀ g : GameClock, g.value ≤ 5999000 →
    (g.direction = .up → g.text = minutes (g.value / 1000)) ∧
    (∀ sec, g.direction = .down → 60000 ≤ g.value ∨ g.tenths = false → g.value ≤ 1000 * sec → 1000 * sec < g.value + 1000 →
      g.text = minutes sec) ∧
    (g.direction = .down → g.value < 60000 → g.tenths = true → g.text = tenths (g.value / 100))) ∧
  ∀ c : ClockUnit, c.shot.value ≤ 99000 →
    let blank : Prop := c.shot.state = .blank ∨ (c.game.direction = .down ∧ c.game.value < c.shot.value)
    (blank → c.shotText = none) ∧
    (∀ sec, ¬ blank → 5000 ≤ c.shot.value → c.shot.value ≤ 1000 * sec → 1000 * sec < c.shot.value + 1000 →
      c.shotText = some (plain sec)) ∧
    (¬ blank → c.shot.value < 5000 → c.shotText = some (tenths (c.shot.value / 100)))) ∧
  ∀ s : State,
    (s.phase ≠ .running → s.linkSends = .nothing) ∧ (s.phase = .running → s.timing.blanking = true → s.linkSends = .marker) ∧
    (s.phase = .running → s.timing.blanking = false →
      ∃ frame, s.linkSends = .lines frame ∧ frame.length = 32 * s.composer.record.h ∧
        ∀ y, y < 32 * s.composer.record.h → ∃ l : List Colour, frame[y]? = some (y, l) ∧
          l.length = 32 * s.composer.record.w ∧ ∀ x, x < 32 * s.composer.record.w → l[x]? = some (s.pixel x y))

/-! ### The replay ring (Chapter 2) -/

/-- SET_RING with its checks met drops the old declaration and takes the new one: slot 0 FILLING and the intake slot, the others FREE, the
counter 0 and the trailer shadow cleared (R26-R28). -/
def Obligations.SetRingDeclares : Prop :=
  ∀ (slot : RingSlot) (ringBase aliasBase : Word) (w h count : Byte) (s : State), s.phase = .running →
    let size := (w.toNat * h.toNat + 1) * 4096
    1 ≤ w.toNat → w.toNat ≤ 128 → 1 ≤ h.toNat → h.toNat ≤ 48 → w.toNat * h.toNat ≤ 3072 → 4 ≤ count.toNat → count.toNat ≤ 64 →
    ringBase.toNat % 4096 = 0 → aliasBase.toNat % 4096 = 0 → ringBase.toNat + count.toNat * size ≤ s.controlBase →
    aliasBase.toNat + size ≤ s.controlBase →
    ringBase.toNat + count.toNat * size ≤ aliasBase.toNat ∨ aliasBase.toNat + size ≤ ringBase.toNat →
    s.roller.state = .idle → (∀ r ∈ s.intake.slots, r.pins = 0) →
    Answers (.setRing slot ringBase aliasBase w h count) slot s
      { s with
        intake :=
          { ring := some
              { ringBase := ringBase.toNat, aliasBase := aliasBase.toNat, w := w.toNat, h := h.toNat, count := count.toNat }
            slots := { state := .filling, pins := 0 } :: List.replicate (count.toNat - 1) { state := .free, pins := 0 }
            intakeSlot := some 0
            completions := 0
            trailer := Vector.replicate 32 0
            retryDue := false } }
      { code := .ok }

/-- HOLD_FRAMES makes READY slots in the range HELD, those of the lowest frame numbers first, as many as the hold limit leaves room for:
OK if that was all of them, CLAMPED otherwise, with their number as detail (R38, R39). -/
def Obligations.HoldFramesUpToLimit : Prop :=
  ∀ (slot : RingSlot) (first last : Word) (s : State), s.phase = .running → s.intake.ring.isSome = true →
    first.toNat ≤ last.toNat → s.intake.frames.Nodup → s.intake.heldCount ≤ s.intake.holdLimit →
    let inRange (r : SlotRecord) : Bool := (r.state.frame.elim false fun f => decide (first.toNat ≤ f.toNat ∧ f.toNat ≤ last.toNat))
    let ready := (s.intake.slots.filter fun r => inRange r && !r.state.isHeld).length
    let room := s.intake.holdLimit - s.intake.heldCount
    ∃ s', Answers (.holdFrames slot first last) slot s s'
        { code := if ready ≤ room then .ok else .clamped, detail := min ready room } ∧
      s'.intake.heldCount = s.intake.heldCount + min ready room ∧ s'.intake.heldCount ≤ s'.intake.holdLimit ∧
      s'.intake.slots.length = s.intake.slots.length ∧
      (∀ (k : Nat) (r : SlotRecord), s.intake.slots[k]? = some r →
        s'.intake.slots[k]? = some r ∨
          (inRange r = true ∧ r.state.isHeld = false ∧ s'.intake.slots[k]? = some { r with state := r.state.hold } ∧
            ∀ (j : Nat) (q : SlotRecord), s.intake.slots[j]? = some q → inRange q = true → q.state.isHeld = false →
              (q.state.frame.elim 0 BitVec.toNat) < (r.state.frame.elim 0 BitVec.toNat) →
              s'.intake.slots[j]? = some { q with state := q.state.hold })) ∧
      s' = { s with intake := { s.intake with slots := s'.intake.slots } }

/-- RELEASE_FRAMES makes every HELD slot in the range READY, keeping its frame number, sequence and pin count, with the number made READY
as detail; without a ring, or with first above last, it is refused and changes nothing (R38, R40).
That NO_ZONE is the code where both hold is the model's choice (notes/assumptions/29). -/
def Obligations.ReleaseFramesMakesReady : Prop :=
  ∀ (slot : RingSlot) (first last : Word) (s : State), s.phase = .running →
    (s.intake.ring = none → Answers (.releaseFrames slot first last) slot s s { code := .noZone }) ∧
    (s.intake.ring.isSome = true → last.toNat < first.toNat →
      Answers (.releaseFrames slot first last) slot s s { code := .outOfRange }) ∧
    (s.intake.ring.isSome = true → first.toNat ≤ last.toNat →
      ∃ s' n, Answers (.releaseFrames slot first last) slot s s' { code := .ok, detail := n } ∧
        s'.intake.heldCount + n = s.intake.heldCount ∧ s'.intake.slots.length = s.intake.slots.length ∧
        (∀ (k : Nat) (r : SlotRecord), s.intake.slots[k]? = some r →
          (∀ f q, r.state = .held f q → first.toNat ≤ f.toNat → f.toNat ≤ last.toNat →
            s'.intake.slots[k]? = some { r with state := .ready f q }) ∧
          ((∀ f q, r.state = .held f q → f.toNat < first.toNat ∨ last.toNat < f.toNat) → s'.intake.slots[k]? = some r)) ∧
        s' = { s with intake := { s.intake with slots := s'.intake.slots } })

/-- DISCARD_FRAMES frees the READY and HELD slots in the range but those that are pinned or that the show plan names, with the number
freed as detail (R38, R41). -/
def Obligations.DiscardFramesSparesPinnedAndNamed : Prop :=
  ∀ (slot : RingSlot) (first last : Word) (s : State), s.phase = .running → s.intake.ring.isSome = true →
    first.toNat ≤ last.toNat →
    let freed (r : SlotRecord) : Prop :=
      ∃ f, r.state.frame = some f ∧ first.toNat ≤ f.toNat ∧ f.toNat ≤ last.toNat ∧ r.pins = 0 ∧
        ∀ p ∈ s.roller.showPlan, p.a ≠ f ∧ p.b ≠ some f
    ∃ s' n, Answers (.discardFrames slot first last) slot s s' { code := .ok, detail := n } ∧
      s'.intake.frames.length + n = s.intake.frames.length ∧ s'.intake.slots.length = s.intake.slots.length ∧
      (∀ (k : Nat) (r : SlotRecord), s.intake.slots[k]? = some r →
        (freed r → s'.intake.slots[k]? = some { r with state := .free }) ∧ (¬ freed r → s'.intake.slots[k]? = some r)) ∧
      s' = { s with intake := { s.intake with slots := s'.intake.slots } }

/-- The three outcomes of a completion: TRAILER_BAD keeps slot and shadow, FRAME_DUPLICATE clears the shadow, and a good completion gives
the slot its frame and the next sequence, READY or, for keep 1 below the hold limit, HELD. The lowest FREE slot then becomes the intake slot;
with none FREE, the oldest slot but that one which is READY, not pinned and not named by the show plan; with none at all there is no intake
slot. Every other slot is unchanged (R33-R35). Of two of equal age the lower index is taken (the model's choice, notes/assumptions/30).
COMPLETION as a step of its own is the model's choice (notes/assumptions/10). -/
def Obligations.CompletionOutcomes : Prop :=
  ∀ (s : State) (r : RingDecl) (k : Nat) (x : SlotRecord), s.phase = .running → s.intake.ring = some r →
    s.intake.intakeSlot = some k → s.intake.slots[k]? = some x → x.state = .filling →
    let f := s.intake.trailerFrame
    (s.intake.completionWord ≠ ~~~f →
      ∃ u, exec .completion s = .next u ∧ u.flagged .trailerBad = true ∧
        u = { s with command := { s.command with flags := u.command.flags } }) ∧
    (s.intake.completionWord = ~~~f → f ∈ s.intake.frames →
      ∃ u, exec .completion s = .next u ∧ u.flagged .frameDuplicate = true ∧
        u = { s with
                intake := { s.intake with trailer := Vector.replicate 32 0 }
                command := { s.command with flags := u.command.flags } }) ∧
    (s.intake.completionWord = ~~~f → f ∉ s.intake.frames →
      let spare (i : Nat) : Prop :=
        ∃ y, s.intake.slots[i]? = some y ∧ y.state.readySeq.isSome = true ∧ y.pins = 0 ∧ s.roller.namesSlot y.state = false
      let age (i : Nat) : Nat :=
        (s.intake.slots[i]?).elim 0 fun y => y.state.readySeq.elim 0 fun q => (s.intake.completions + 1 - q).toNat
      ∃ u, exec .completion s = .next u ∧ u.intake.completions = s.intake.completions + 1 ∧
        u.intake.slots[k]? = some
          { x with
            state :=
              if s.intake.trailer[8] = 1 ∧ s.intake.heldCount < r.count - 3 then .held f (s.intake.completions + 1)
              else .ready f (s.intake.completions + 1) } ∧
        (∀ j, (∀ i < j, ∀ y, s.intake.slots[i]? = some y → y.state ≠ .free) →
          (∃ y, s.intake.slots[j]? = some y ∧ y.state = .free) →
          u.intake.intakeSlot = some j ∧ u.intake.trailer = Vector.replicate 32 0 ∧
          ∃ y, u.intake.slots[j]? = some y ∧ y.state = .filling) ∧
        ((∀ (i : Nat) (y : SlotRecord), s.intake.slots[i]? = some y → y.state ≠ .free) →
          ∀ j, spare j → (∀ i, spare i → i ≠ j → age i < age j ∨ (age i = age j ∧ j < i)) →
            u.intake.intakeSlot = some j ∧ u.intake.trailer = Vector.replicate 32 0 ∧
            ∃ y, s.intake.slots[j]? = some y ∧ u.intake.slots[j]? = some { y with state := .filling }) ∧
        ((∀ (i : Nat) (y : SlotRecord), s.intake.slots[i]? = some y →
            y.state ≠ .free ∧ (y.state.readySeq.isSome = true → 0 < y.pins ∨ s.roller.namesSlot y.state = true)) →
          u.intake.intakeSlot = none) ∧
        (∀ i, i ≠ k → u.intake.intakeSlot ≠ some i → u.intake.slots[i]? = s.intake.slots[i]?) ∧
        u = { s with
                intake := { s.intake with
                  slots := u.intake.slots
                  intakeSlot := u.intake.intakeSlot
                  completions := u.intake.completions
                  trailer := u.intake.trailer } })

/-- With the intake slot NONE, a retry takes the lowest FREE slot, else reclaims the oldest READY slot that is neither pinned nor named by
the show plan, clearing the trailer shadow, else stays NONE; while a host WRITE is in progress it is only held over. With an intake slot there
is nothing to retry (R34-R36). Of two slots of equal age the lower index is taken (the model's choice, notes/assumptions/30).
INTAKE_RETRY as a step of its own is the model's choice (notes/assumptions/10). -/
def Obligations.RetryTakesASlot : Prop :=
  ∀ (s : State) (r : RingDecl), s.phase = .running → s.intake.ring = some r →
    (s.intake.intakeSlot.isSome = true → exec .intakeRetry s = .next s) ∧
    (s.intake.intakeSlot = none → s.writeInProgress = true →
      exec .intakeRetry s = .next { s with intake := { s.intake with retryDue := true } }) ∧
    (s.intake.intakeSlot = none → s.writeInProgress = false →
      let spare (i : Nat) : Prop :=
        ∃ y, s.intake.slots[i]? = some y ∧ y.state.readySeq.isSome = true ∧ y.pins = 0 ∧ s.roller.namesSlot y.state = false
      let age (i : Nat) : Nat :=
        (s.intake.slots[i]?).elim 0 fun y => y.state.readySeq.elim 0 fun q => (s.intake.completions - q).toNat
      ∃ u, exec .intakeRetry s = .next u ∧ u.intake.retryDue = false ∧
        (u.intake.intakeSlot = none ↔
          ∀ (i : Nat) (y : SlotRecord), s.intake.slots[i]? = some y →
            y.state ≠ .free ∧ (y.state.readySeq.isSome = true → 0 < y.pins ∨ s.roller.namesSlot y.state = true)) ∧
        (u.intake.intakeSlot = none → u.intake.slots = s.intake.slots ∧ u.intake.trailer = s.intake.trailer) ∧
        (∀ k, u.intake.intakeSlot = some k →
          u.intake.trailer = Vector.replicate 32 0 ∧
          (∃ y, s.intake.slots[k]? = some y ∧ u.intake.slots[k]? = some { y with state := .filling } ∧
            ((y.state = .free ∧ ∀ (i : Nat) (v : SlotRecord), i < k → s.intake.slots[i]? = some v → v.state ≠ .free) ∨
              ((∀ (i : Nat) (v : SlotRecord), s.intake.slots[i]? = some v → v.state ≠ .free) ∧ spare k ∧
                ∀ i, spare i → i ≠ k → age i < age k ∨ (age i = age k ∧ k < i)))) ∧
          ∀ j, j ≠ k → u.intake.slots[j]? = s.intake.slots[j]?) ∧
        u = { s with
                intake := { s.intake with
                  slots := u.intake.slots
                  intakeSlot := u.intake.intakeSlot
                  trailer := u.intake.trailer
                  retryDue := false } })

/-! ### The roller (Chapter 3) -/

/-- ROLL, SET_SPEED and STOP_REPLAY: a roll that passes its checks starts at F_in with position 0, STARVED if F_in is absent; SET_SPEED at
the roll's own direction keeps the position; a change of direction rebases on the frame shown; STOP_REPLAY ends a roll (R48, R49, R58,
R59). -/
def Obligations.RollerCommands : Prop :=
  ∀ (slot : RingSlot) (s : State), s.phase = .running →
    (∀ (p : RollPayload) (o b c : Bool) (d : RollDirection) (e : EndMode), rollChoices p = some (o, d, e, b, c) →
      1 ≤ p.rs.toNat → p.rs.toNat ≤ 300 → s.intake.ring.isSome = true →
      (∃ z : ZoneIx, (s.composer.live[z]).enable = true ∧ (s.composer.live[z]).source = .replay) →
      (o = true → d = .forward → p.fIn.toNat ≤ p.fOut.toNat) → (o = true → d = .reverse → p.fOut.toNat ≤ p.fIn.toNat) →
      ∃ s', Answers (.roll slot p) slot s s' { code := if 1024 < p.speed.toNat then .clamped else .ok } ∧
        s'.roller =
          { s.roller with
            state := if p.fIn ∈ s.intake.frames then .rolling else .starved
            showPlan := if p.fIn ∈ s.intake.frames then some { a := p.fIn, b := none, w16 := 0 } else none
            fIn := p.fIn
            outPoint := if o = true then some p.fOut else none
            speed := min p.speed.toNat 1024
            direction := d
            rs := p.rs.toNat
            endMode := e
            blend := b
            cutOnClock := c
            pInt := 0
            pFrac := 0
            rem := 0
            gapCount := 0
            starvedCount := 0 } ∧
        s'.flagged .replayStarved = (s.flagged .replayStarved || decide (p.fIn ∉ s.intake.frames)) ∧
        s' = { s with roller := s'.roller, command := { s.command with flags := s'.command.flags } }) ∧
    (∀ (speed : Half) (direction : Byte) (d : RollDirection), rollDirection direction = some d →
      s.roller.state = .rolling ∨ s.roller.state = .starved →
      ∃ s', Answers (.setSpeed slot speed direction) slot s s' { code := if 1024 < speed.toNat then .clamped else .ok } ∧
        (d = s.roller.direction → s'.roller =
          { s.roller with
            speed := min speed.toNat 1024
            rem := if s.roller.speed = min speed.toNat 1024 then s.roller.rem else 0 }) ∧
        (d ≠ s.roller.direction → s'.roller =
          { s.roller with
            speed := min speed.toNat 1024
            direction := d
            pInt := 0
            pFrac := 0
            rem := 0
            outPoint := none
            fIn := s.roller.showPlan.elim s.roller.fIn ShowPlan.a
            showPlan := s.roller.showPlan.map fun p => { a := p.a, b := none, w16 := 0 } }) ∧
        s' = { s with roller := s'.roller }) ∧
    (∀ (speed : Half) (direction : Byte), (rollDirection direction).isSome = true →
      s.roller.state = .idle ∨ s.roller.state = .holding →
      Answers (.setSpeed slot speed direction) slot s s { code := .wrongState }) ∧
    (s.roller.state = .idle → Answers (.stopReplay slot) slot s s { code := .ok }) ∧
    (s.roller.state ≠ .idle →
      Answers (.stopReplay slot) slot s
        ({ s with roller := { s.roller with state := .idle, showPlan := none, lastEnd := .stopped } }.raise .replayEnded)
        { code := .ok })

/-! ### Frame ends, showings and exposure (Chapters 1, 7, 8) -/

/-- At a FRAME_END both flash counters above 0 fall by 1, the line buffer and the late cells are emptied and the blanking period begins;
beyond that only the intake, the roller, the rotation unit, the exposure counter, the ticker, the flags, and the queue's records can change (R11,
R36, R50, R104, R121, R156). In every zone the showing goes on or ends; each enabled SPONSOR zone then without one, whether or not one has just
ended there, begins a showing of its pending sting, else of the first owed spot its search meets, else of the first eligible one as overrun, else
none, the zones in ascending order, so that a spot which a lower zone has taken, or which goes on elsewhere, is not eligible (R121-R127). A ticker
entry that may not stay is cut, and with none showing the first eligible one is taken at the zone's right edge (R159, R160).
That the returning entry stands behind also an entry that holds the number next to be issued is the model's choice (notes/assumptions/38).
That the line buffer and the late cells are emptied here is the model's choice (notes/assumptions/19). -/
def Obligations.FrameEndWorksTheSources : Prop :=
  (∀ (b : Bool) (s : State), s.phase = .running → s.timing.blanking = false →
    ∃ u, exec (.frameEnd b) s = .next u ∧
      u = { s with
              timing := { s.timing with blanking := true }
              panel := { lineBuffer := [], fetchAt := 0, late := [] }
              score := { s.score with homeFlash := s.score.homeFlash - 1, guestFlash := s.score.guestFlash - 1 }
              intake := u.intake
              roller := u.roller
              rotation := u.rotation
              exposure := { s.exposure with nextRecord := u.exposure.nextRecord, missed := u.exposure.missed }
              ticker := u.ticker
              memctl := { s.memctl with queue := u.memctl.queue, waitExposure := u.memctl.waitExposure }
              command := { s.command with flags := u.command.flags } }) ∧
  (∀ (b : Bool) (s : State), s.phase = .running → s.timing.blanking = false → s.composer.record.mode = .normal →
    (∀ (y : ZoneIx) (h : Showing), (s.rotation.zones[y]).showing = some h →
      ∃ p, s.rotation.spot h.spotId = some p ∧
        (p.withdrawing = true → ∀ y' : ZoneIx, (s.rotation.zones[y']).shows h.spotId = true → y' = y)) →
    let record (z : ZoneIx) : ZoneRecord := s.composer.record.zones[z]
    let sponsor (z : ZoneIx) : Prop := (record z).desc.enable = true ∧ (record z).desc.source = .sponsor
    let old (z : ZoneIx) : SponsorZone :=
      if (record z).resized = true then
        { s.rotation.zones[z] with rotation := [], cursor := -1, sting := none, stingPending := false }
      else s.rotation.zones[z]
    let suits (p : Spot) : Prop :=
      (p.spotClass = .runningOnly → s.clock.game.state = .running) ∧ (p.spotClass = .stoppedOnly → s.clock.game.state ≠ .running)
    let counts (z : ZoneIx) (p : Spot) : Prop :=
      (record z).inLeadIn = false ∧ p.minVisible * ((record z).desc.w.toNat * (record z).desc.h.toNat) ≤ (record z).visible * 100
    let ends (z : ZoneIx) : Prop :=
      ∀ h p, (s.rotation.zones[z]).showing = some h → s.rotation.spot h.spotId = some p →
        (record z).changed = true ∨ (old z).stingPending = true ∨ (h.sting = false ∧ ¬ suits p) ∨ p.withdrawing = true ∨
          p.dwell ≤ h.countedFrames ∨ (counts z p ∧ p.dwell ≤ h.countedFrames + 1) ∨ 4 * p.dwell ≤ h.framesOnAir + 1
    let selects (z : ZoneIx) : Prop := sponsor z ∧ ends z
    ∃ u, exec (.frameEnd b) s = .next u ∧
      (∀ z : ZoneIx, ¬ sponsor z →
        u.rotation.zones[z] = { rotation := [], cursor := -1, sting := none, stingPending := false, showing := none }) ∧
      (∀ z : ZoneIx, sponsor z → ¬ ends z →
        ∃ h g, (s.rotation.zones[z]).showing = some h ∧ u.rotation.zones[z] = { old z with showing := some g } ∧
          g = { h with framesOnAir := h.framesOnAir + 1, countedFrames := g.countedFrames, credit := g.credit }) ∧
      (∀ z : ZoneIx, selects z →
        let x := old z
        let v := u.rotation.zones[z]
        let n := x.rotation.length
        let place (k : Nat) : Nat := ((x.cursor + 1 + (k : Int)) % (n : Int)).toNat
        let id (k : Nat) : Nat := x.rotation.getD (place k) 0
        let elsewhere (i : Nat) : Prop := ∃ y : ZoneIx, y ≠ z ∧ (y < z ∨ ¬ selects y) ∧ (u.rotation.zones[y]).shows i = true
        let fits (k : Nat) : Prop :=
          ∃ p, u.rotation.spot (id k) = some p ∧ p.withdrawing = false ∧ suits p ∧ ¬ elsewhere (id k)
        let owed (k : Nat) : Prop := ∃ p, u.rotation.spot (id k) = some p ∧ p.delivered < p.contract * 76800
        let begun (i : Nat) (sting overrun : Bool) : Prop :=
          v.showing = some
            { spotId := i, startVenue := s.clock.venue, gameValue := s.clock.game.value, period := s.score.fields[2], framesOnAir := 0,
              countedFrames := 0, credit := 0, sting := sting, overrun := overrun }
        v.rotation = x.rotation ∧ v.sting = x.sting ∧ v.stingPending = false ∧
        (∀ i, x.stingPending = true → x.sting = some i → ¬ elsewhere i → (u.rotation.spot i).isSome = true →
          begun i true false ∧ v.cursor = x.cursor) ∧
        (x.stingPending = false ∨ (∀ i, x.sting = some i → elsewhere i ∨ u.rotation.spot i = none) →
          (∀ k, k < n → fits k → owed k → (∀ j, j < k → ¬ (fits j ∧ owed j)) → begun (id k) false false ∧ v.cursor = place k) ∧
          (∀ k, k < n → fits k → (∀ j, j < n → ¬ (fits j ∧ owed j)) → (∀ j, j < k → ¬ fits j) →
            begun (id k) false true ∧ v.cursor = place k) ∧
          ((∀ k, k < n → ¬ fits k) → v.showing = none ∧ v.cursor = x.cursor))) ∧
      ∀ i,
        (s.rotation.spot i = none → u.rotation.spot i = none) ∧
        ∀ p, s.rotation.spot i = some p →
          (p.withdrawing = true → s.rotation.onAir i = true → u.rotation.spot i = none) ∧
          (p.withdrawing = false ∨ s.rotation.onAir i = false →
            ∃ q, u.rotation.spot i = some q ∧
              q = { p with
                      delivered := q.delivered
                      saturated := q.saturated
                      contractMet := q.contractMet
                      showings := q.showings } ∧
              (s.rotation.onAir i = false →
                q.delivered = p.delivered ∧ q.saturated = p.saturated ∧ q.contractMet = p.contractMet) ∧
              ((∃ z, selects z ∧ (u.rotation.zones[z]).shows i = true) → q.showings = min 65535 (p.showings + 1)) ∧
              ((∀ z, selects z → (u.rotation.zones[z]).shows i = false) → q.showings = p.showings))) ∧
  ∀ (b : Bool) (s : State) (z : ZoneRecord), s.phase = .running → s.timing.blanking = false → s.tickerZone = some z →
    (∀ e ∈ s.ticker.waiting, e.expired s.clock.venue = false) →
    let may (e : TickerEntry) : Prop := e.eligible s.clock.game.state = true
    let taken (u : State) (l : List TickerEntry) : Prop :=
      (∀ before e after, l = before ++ e :: after → (∀ y ∈ before, ¬ may y) → may e →
        u.ticker.waiting = before ++ after ∧
        u.ticker.showing = some { entry := e, position := 32 * (z.desc.w.toNat : Int), lastPass := false, cancel := none }) ∧
      ((∀ e ∈ l, ¬ may e) → u.ticker.waiting = l ∧ u.ticker.showing = none)
    (s.ticker.showing = none →
      ∃ u, exec (.frameEnd b) s = .next u ∧ taken u s.ticker.waiting ∧
        u.ticker = { s.ticker with waiting := u.ticker.waiting, showing := u.ticker.showing }) ∧
    ∀ x, s.ticker.showing = some x → x.cancel = none → x.lastPass = false → x.entry.expired s.clock.venue = false →
      let seenWhole : Bool :=
        decide (s.composer.record.mode = .normal) && z.active && !z.inLeadIn && decide (z.visible = z.desc.w.toNat * z.desc.h.toNat)
      let position : Int := if seenWhole = true then x.position - s.ticker.speed else x.position
      (seenWhole = true → 0 < position + 16 * (x.entry.text.length : Int)) →
      (may x.entry → (3 ≤ x.entry.priority ∨ ∀ e ∈ s.ticker.waiting, e.priority = 3 → ¬ may e) →
        ∃ u, exec (.frameEnd b) s = .next u ∧ u.ticker = { s.ticker with showing := some { x with position := position } }) ∧
      (¬ may x.entry ∨ (x.entry.priority < 3 ∧ ∃ e ∈ s.ticker.waiting, e.priority = 3 ∧ may e) →
        ∃ u before after, exec (.frameEnd b) s = .next u ∧ s.ticker.waiting = before ++ after ∧
          (∀ y ∈ before, x.entry.priority ≤ y.priority) ∧
          (∀ y ∈ after.head?, y.priority < x.entry.priority) ∧
          taken u (before ++ { x.entry with order := s.ticker.nextOrder } :: after) ∧
          u.ticker = { s.ticker with
            waiting := u.ticker.waiting
            showing := u.ticker.showing
            nextOrder := s.ticker.nextOrder + 1 })

/-- A FRAME_END of a frame that showed the replay moves a ROLLING or STARVED roll by the cadence: with the target present and the out point not
passed, the show plan's A is the target, w16 the fraction, and B the frame next to the target in the direction of the roll, named exactly when blend
is on, w16 is above 0, that frame is present and it has not passed the out point (R53). A target past the out point ends the roll under its end
mode; an absent one with a frame beyond it is a gap; with none beyond, a forward roll is STARVED and a reverse one ends with FRAME_GONE (R52-R56). A
frame that did not show it moves nothing, and a frame record without an enabled REPLAY zone ends any roll (R50, R61). The cadence keeps no rounding:
n advances at one speed move the position, counted in 1/(4,096 Ro) of a frame with the remainder, by exactly n times the speed times Rs times 16
(R51). -/
def Obligations.CadenceStepsTheRoll : Prop :=
  (∀ (b : Bool) (s : State) (z : ZoneRecord) (f : Word), s.phase = .running → s.timing.blanking = false →
    s.composer.record.zoneOn .replay = some z → z.active = true → z.inLeadIn = false →
    s.roller.state = .rolling ∨ s.roller.state = .starved → s.intake.blocked = false ∨ b = false →
    let a := s.roller.advance (if s.straps.frate = true then 60 else 50)
    a.target = (if s.roller.direction = .forward then (s.roller.fIn.toNat : Int) + a.pInt else (s.roller.fIn.toNat : Int) - a.pInt) ∧
    (a.target = f.toNat → f ∈ s.intake.frames →
      (∀ o ∈ s.roller.outPoint, (s.roller.direction = .forward → a.target ≤ o.toNat) ∧
        (s.roller.direction = .reverse → (o.toNat : Int) ≤ a.target)) →
      ∃ u, exec (.frameEnd b) s = .next u ∧ u.roller.state = .rolling ∧ u.roller.pInt = a.pInt ∧ u.roller.pFrac = a.pFrac ∧
        u.roller.rem = a.rem ∧ ∃ p, u.roller.showPlan = some p ∧ p.a = f ∧ p.w16 = a.pFrac / 256 ∧
          ∀ g : Word, p.b = some g ↔ s.roller.blend = true ∧ 0 < p.w16 ∧ g ∈ s.intake.frames ∧
            (g.toNat : Int) = (if s.roller.direction = .forward then a.target + 1 else a.target - 1) ∧
            ∀ o ∈ s.roller.outPoint, (s.roller.direction = .forward → g.toNat ≤ o.toNat) ∧
              (s.roller.direction = .reverse → o.toNat ≤ g.toNat))) ∧
  (∀ (b : Bool) (s : State) (z : ZoneRecord), s.phase = .running → s.timing.blanking = false →
    s.composer.record.zoneOn .replay = some z → z.active = true → z.inLeadIn = false →
    s.roller.state = .rolling ∨ s.roller.state = .starved → s.intake.blocked = false ∨ b = false →
    let r := s.roller
    let a := r.advance (if s.straps.frate = true then 60 else 50)
    let passed : Prop :=
      ∃ o, r.outPoint = some o ∧
        ((r.direction = .forward ∧ (o.toNat : Int) < a.target) ∨ (r.direction = .reverse ∧ a.target < o.toNat))
    let inNumbers : Prop := 0 ≤ a.target ∧ a.target < 4294967296
    let beyond : Prop :=
      inNumbers ∧ ∃ g ∈ s.intake.frames,
        (r.direction = .forward ∧ a.target < g.toNat) ∨ (r.direction = .reverse ∧ (g.toNat : Int) < a.target)
    let absent : Prop := ∀ g ∈ s.intake.frames, (g.toNat : Int) ≠ a.target
    let alone : Option ShowPlan := r.showPlan.map fun p => { a := p.a, b := none, w16 := 0 }
    let ended (reason : RollEnd) (u : State) : Prop :=
      u.flagged .replayEnded = true ∧
      (r.endMode = .release → u.roller = { r with state := .idle, showPlan := none, lastEnd := reason }) ∧
      (r.endMode = .hold → u.roller = { r with
        state := .holding
        showPlan := (match r.outPoint with
          | some o => if o ∈ s.intake.frames then some { a := o, b := none, w16 := 0 } else alone
          | none => alone)
        lastEnd := reason })
    ∃ u, exec (.frameEnd b) s = .next u ∧
      (passed → ended .outPoint u) ∧
      (¬ passed → absent → beyond → u.roller = { r with
        state := .rolling
        pInt := a.pInt
        pFrac := a.pFrac
        rem := a.rem
        showPlan := alone
        gapCount := min 65535 (r.gapCount + 1) }) ∧
      (¬ passed → absent → ¬ beyond → r.direction = .forward →
        u.roller = { r with state := .starved, starvedCount := min 65535 (r.starvedCount + 1) } ∧
        (r.state = .rolling → u.flagged .replayStarved = true)) ∧
      (¬ passed → absent → ¬ beyond → r.direction = .reverse → ended .frameGone u)) ∧
  (∀ (b : Bool) (s : State), s.phase = .running → s.timing.blanking = false →
    ∃ u, exec (.frameEnd b) s = .next u ∧
      (s.composer.record.zoneOn .replay = none → s.roller.state = .idle → u.roller = s.roller) ∧
      (s.composer.record.zoneOn .replay = none → s.roller.state ≠ .idle →
        u.roller = { s.roller with state := .idle, showPlan := none, lastEnd := .zoneRemoved } ∧ u.flagged .replayEnded = true) ∧
      ∀ z, s.composer.record.zoneOn .replay = some z →
        z.active = false ∨ z.inLeadIn = true ∨ s.roller.state = .idle ∨ s.roller.state = .holding → u.roller = s.roller) ∧
  (∀ (ro n : Nat) (r : Roller), 0 < ro → r.pFrac < 4096 → r.rem < ro →
    let r' := (fun x : Roller => x.keep (x.advance ro))^[n] r
    (r'.pInt * 4096 + r'.pFrac) * ro + r'.rem = (r.pInt * 4096 + r.pFrac) * ro + r.rem + n * (r.speed * r.rs * 16) ∧
    r'.pFrac < 4096 ∧ r'.rem < ro ∧ r'.speed = r.speed ∧ r'.fIn = r.fIn)

/-- A FRAME_END at which the one showing on the wall reaches its dwell, or failing that its cover limit, ends it: the frame is accounted
first, then the record is numbered and written at its position in the log, the number modulo 1,024, waiting behind earlier ones while the queue
has no room, or missed with LOG_FULL, and any showing that follows in the zone is a new one. A pending sting,
a class that no longer matches, or a withdrawal ends it before those, in that order, also after the accounting; a plan change, or failing that a
mode other than NORMAL, ends it without accounting, and a withdrawn spot is deleted with its showing (R122-R124, R133-R135, R140, R141, R171). A
zone the frame record marks as resized has lost its list and its sting, pending or not, before the causes are tested (R122). The
bytes of the record are those of Table 11.7; that bits 3 to 7 of its byte 7 are 0 is the model's deduction (notes/assumptions/22).
The row is the whole step its event comes about in (the model's choice, notes/assumptions/4). -/
def Obligations.ShowingEndsAreLogged : Prop :=
  (∀ (b : Bool) (s : State) (z : ZoneIx) (h : Showing) (p : Spot), s.phase = .running → s.timing.blanking = false →
    s.composer.record.mode = .normal → (s.composer.record.zones[z]).changed = false →
    (s.composer.record.zones[z]).desc.enable = true → (s.composer.record.zones[z]).desc.source = .sponsor →
    (s.rotation.zones[z]).showing = some h → (∀ y : ZoneIx, y ≠ z → (s.rotation.zones[y]).showing = none) →
    s.rotation.spot h.spotId = some p → (s.rotation.zones[z]).stingPending = false →
    (h.sting = true ∨ p.spotClass.matches s.clock.game.state = true) → p.withdrawing = false →
    let zr := s.composer.record.zones[z]
    let cells := zr.desc.w.toNat * zr.desc.h.toNat
    let counts : Bool := !zr.inLeadIn && decide (p.minVisible * cells ≤ zr.visible * 100)
    let credit := if counts = true then (if s.straps.frate = true then 5 else 6) * 256 * zr.visible / cells else 0
    let h' : Showing :=
      { h with
        framesOnAir := h.framesOnAir + 1
        countedFrames := h.countedFrames + (if counts = true then 1 else 0)
        credit := h.credit + credit }
    let saturated : Bool := p.saturated || decide (4294967295 < p.delivered + credit)
    let logged (reason : ShowingEnd) (u : State) : Prop :=
      (∀ g ∈ (u.rotation.zones[z]).showing, g.framesOnAir = 0 ∧ g.startVenue = s.clock.venue) ∧
      (s.exposure.unreleased < 1024 →
        u.exposure = { s.exposure with nextRecord := s.exposure.nextRecord + 1 } ∧
        u.memctl = s.memctl.offerExposure
          { offset := 0x8000 + 32 * (s.exposure.nextRecord.toNat % 1024)
            data := proofRecord s.exposure.nextRecord z reason saturated s.clock.venue h' }) ∧
      (1024 ≤ s.exposure.unreleased →
        u.exposure = { s.exposure with missed := min 65535 (s.exposure.missed + 1) } ∧ u.memctl = s.memctl ∧
        u.flagged .logFull = true)
    (p.delivered ≤ 4294967295 → p.dwell ≤ h'.countedFrames →
      ∃ u, exec (.dwellDone z b) s = .next u ∧ exec (.frameEnd b) s = .next u ∧ logged .dwellDone u) ∧
    (p.delivered ≤ 4294967295 → h'.countedFrames < p.dwell → 4 * p.dwell ≤ h'.framesOnAir →
      ∃ u, exec (.coverLimit z b) s = .next u ∧ exec (.frameEnd b) s = .next u ∧ logged .coverLimit u)) ∧
  (∀ (b : Bool) (s : State) (z : ZoneIx) (h : Showing) (p : Spot), s.phase = .running → s.timing.blanking = false →
    (s.rotation.zones[z]).showing = some h → (∀ y : ZoneIx, y ≠ z → (s.rotation.zones[y]).showing = none) →
    s.rotation.spot h.spotId = some p → p.delivered ≤ 4294967295 →
    let zr := s.composer.record.zones[z]
    let normal : Prop := s.composer.record.mode = .normal
    let planned : Prop := zr.changed = false ∧ zr.desc.enable = true ∧ zr.desc.source = .sponsor
    let pending : Prop := zr.resized = false ∧ (s.rotation.zones[z]).stingPending = true
    let mismatched : Prop := h.sting = false ∧ p.spotClass.matches s.clock.game.state = false
    let cells := zr.desc.w.toNat * zr.desc.h.toNat
    let counts : Bool := !zr.inLeadIn && decide (p.minVisible * cells ≤ zr.visible * 100)
    let credit := if counts = true then (if s.straps.frate = true then 5 else 6) * 256 * zr.visible / cells else 0
    let accounted : Showing :=
      { h with
        framesOnAir := h.framesOnAir + 1
        countedFrames := h.countedFrames + (if counts = true then 1 else 0)
        credit := h.credit + credit }
    let saturated : Bool := p.saturated || decide (4294967295 < p.delivered + credit)
    ∃ u, exec (.frameEnd b) s = .next u ∧
      let logged (reason : ShowingEnd) (sat : Bool) (g : Showing) : Prop :=
        (∀ g' ∈ (u.rotation.zones[z]).showing, g'.framesOnAir = 0 ∧ g'.startVenue = s.clock.venue) ∧
        (s.exposure.unreleased < 1024 →
          u.exposure = { s.exposure with nextRecord := s.exposure.nextRecord + 1 } ∧
          u.memctl = s.memctl.offerExposure
            { offset := 0x8000 + 32 * (s.exposure.nextRecord.toNat % 1024)
              data := proofRecord s.exposure.nextRecord z reason sat s.clock.venue g }) ∧
        (1024 ≤ s.exposure.unreleased →
          u.exposure = { s.exposure with missed := min 65535 (s.exposure.missed + 1) } ∧ u.memctl = s.memctl ∧
          u.flagged .logFull = true) ∧
        (p.withdrawing = true → u.rotation.spot h.spotId = none)
      (¬ planned → logged .planChange p.saturated h) ∧
      (¬ (zr.desc.enable = true ∧ zr.desc.source = .sponsor) ∨ zr.resized = true → ¬ planned →
        u.rotation.zones[z] = { rotation := [], cursor := -1, sting := none, stingPending := false, showing := none }) ∧
      (planned → ¬ normal → logged .outputMode p.saturated h ∧ (u.rotation.zones[z]).showing = none ∧
        (u.rotation.zones[z]).stingPending = false) ∧
      (planned → normal → pending → logged .sting saturated accounted) ∧
      (planned → normal → ¬ pending → mismatched → logged .clockClass saturated accounted) ∧
      (planned → normal → ¬ pending → ¬ mismatched → p.withdrawing = true → logged .withdrawn saturated accounted)) ∧
  (∀ (m : MemoryController) (w : PartWrite),
    (m.waitExposure = [] → m.queue.length < 64 → m.offerExposure w = { m with queue := m.queue ++ [w] }) ∧
    (m.waitExposure ≠ [] ∨ 64 ≤ m.queue.length → m.offerExposure w = { m with waitExposure := m.waitExposure ++ [w] })) ∧
  ∀ (number : Word) (zone : ZoneIx) (reason : ShowingEnd) (saturated : Bool) (endVenue : Word) (h : Showing),
    let record := proofRecord number zone reason saturated endVenue h
    let holds (o n v : Nat) : Prop := ofLeBytes ((record.drop o).take n) = v % 256 ^ n
    record.length = 32 ∧ holds 0 4 number.toNat ∧ holds 4 1 h.spotId ∧ holds 5 1 zone.val ∧
    holds 6 1 (match reason with
      | .dwellDone => 1
      | .coverLimit => 2
      | .clockClass => 3
      | .sting => 4
      | .withdrawn => 5
      | .planChange => 6
      | .outputMode => 7
      | .restart => 8) ∧
    holds 7 1 ((if h.sting = true then 1 else 0) + (if h.overrun = true then 2 else 0) + (if saturated = true then 4 else 0)) ∧
    holds 8 4 h.startVenue.toNat ∧ holds 12 4 endVenue.toNat ∧ holds 16 2 h.framesOnAir ∧ holds 18 2 h.countedFrames ∧
    holds 20 4 h.credit ∧ holds 24 4 h.gameValue ∧ holds 28 1 h.period ∧ holds 29 3 0

/-- A FRAME_END at which a showing goes on accounts the frame: frames on air, and for a frame that counts its credit, added to S and to D,
which stays at 2^32 - 1, with the contract test after it (R123, R133-R136). -/
def Obligations.FrameEndCreditsTheShowing : Prop :=
  ∀ (b : Bool) (s : State) (z : ZoneIx) (h : Showing) (p : Spot), s.phase = .running → s.timing.blanking = false →
    OnAirExclusive s → s.composer.record.mode = .normal → (s.composer.record.zones[z]).changed = false →
    (s.composer.record.zones[z]).desc.enable = true → (s.composer.record.zones[z]).desc.source = .sponsor →
    (s.rotation.zones[z]).showing = some h → s.rotation.spot h.spotId = some p →
    (s.rotation.zones[z]).stingPending = false → (h.sting = true ∨ p.spotClass.matches s.clock.game.state = true) →
    p.withdrawing = false →
    let zr := s.composer.record.zones[z]
    let cells := zr.desc.w.toNat * zr.desc.h.toNat
    let counts : Bool := !zr.inLeadIn && decide (p.minVisible * cells ≤ zr.visible * 100)
    let credit := if counts = true then (if s.straps.frate = true then 5 else 6) * 256 * zr.visible / cells else 0
    let counted := h.countedFrames + (if counts = true then 1 else 0)
    let total := min 4294967295 (p.delivered + credit)
    p.delivered ≤ 4294967295 → counted < p.dwell → h.framesOnAir + 1 < 4 * p.dwell →
      ∃ u, exec (.frameEnd b) s = .next u ∧
        (u.rotation.zones[z]).showing = some
          { h with framesOnAir := h.framesOnAir + 1, countedFrames := counted, credit := h.credit + credit } ∧
        u.rotation.spot h.spotId = some
          { p with
            delivered := total
            saturated := p.saturated || decide (4294967295 < p.delivered + credit)
            contractMet := p.contractMet || (counts && decide (p.contract * 76800 ≤ total)) } ∧
        (counts = true → p.contractMet = false → p.contract * 76800 ≤ total → u.flagged .contractMet = true) ∧
        (4294967295 < p.delivered + credit → p.saturated = false → u.flagged .creditSaturated = true)

/-- DEFINE_SPOT of an id that is not defined, with its checks met, puts a spot with fresh totals in its place; of an off-air spot it
redefines it, keeping totals and marks but the contract-met mark under a new contract (R110-R112).
That the sizes compared are the live plan's is the model's reading (notes/assumptions/17). -/
def Obligations.DefineSpotCreatesOrRedefines : Prop :=
  ∀ (slot : RingSlot) (p : SpotPayload) (c : SpotClass) (s : State), s.phase = .running → spotClass p.spotClass = some c →
    p.id ≠ 0 → 1 ≤ p.artW.toNat → p.artW.toNat ≤ 128 → 1 ≤ p.artH.toNat → p.artH.toNat ≤ 48 → p.contract.toNat ≤ 50000 →
    30 ≤ p.dwell.toNat → p.dwell.toNat ≤ 3000 → p.minVisible.toNat ≤ 100 → p.artBase.toNat % 4096 = 0 →
    p.artBase.toNat + p.artW.toNat * p.artH.toNat * 4096 ≤ s.controlBase →
    let fresh : Spot :=
      { id := p.id.toNat, artBase := p.artBase.toNat, artW := p.artW.toNat, artH := p.artH.toNat, contract := p.contract.toNat,
        dwell := p.dwell.toNat, minVisible := p.minVisible.toNat, spotClass := c, delivered := 0, showings := 0,
        saturated := false, contractMet := false, withdrawing := false }
    (s.rotation.spot p.id.toNat = none → s.rotation.spots.length < 48 →
      ∃ s', Answers (.defineSpot slot p) slot s s' { code := .ok, detail := 0 } ∧
        s'.rotation.spot p.id.toNat = some fresh ∧ (∀ id, id ≠ p.id.toNat → s'.rotation.spot id = s.rotation.spot id) ∧
        (s.rotation.spots.Pairwise (fun x y => x.id < y.id) → s'.rotation.spots.Pairwise (fun x y => x.id < y.id)) ∧
        s'.rotation.spots.length = s.rotation.spots.length + 1 ∧
        s' = { s with rotation := { s.rotation with spots := s'.rotation.spots } }) ∧
    (s.rotation.spot p.id.toNat = none → 48 ≤ s.rotation.spots.length →
      Answers (.defineSpot slot p) slot s s { code := .full }) ∧
    (∀ old, s.rotation.spot p.id.toNat = some old → old.withdrawing = false → s.rotation.onAir p.id.toNat = false →
      (∀ z : ZoneIx, (s.rotation.zones[z]).names p.id.toNat = true →
        (s.composer.live[z]).w.toNat = p.artW.toNat ∧ (s.composer.live[z]).h.toNat = p.artH.toNat) →
      ∃ s', Answers (.defineSpot slot p) slot s s' { code := .ok, detail := 1 } ∧
        s'.rotation.spot p.id.toNat = some
          { fresh with
            delivered := old.delivered
            showings := old.showings
            saturated := old.saturated
            contractMet := old.contractMet && decide (p.contract.toNat = old.contract) } ∧
        (∀ id, id ≠ p.id.toNat → s'.rotation.spot id = s.rotation.spot id) ∧
        s' = { s with rotation := { s.rotation with spots := s'.rotation.spots } })

/-- WITHDRAW_SPOT takes a spot out of every list and sting, and deletes it at once when it is off air; on air it is marked withdrawing
(R113, R117). A zone whose list does not hold the spot keeps its cursor, and one whose sting is another its pending mark. -/
def Obligations.WithdrawSpotLeavesNoTrace : Prop :=
  ∀ (slot : RingSlot) (id : Byte) (s : State), s.phase = .running →
    (s.rotation.spot id.toNat = none → Answers (.withdrawSpot slot id) slot s s { code := .notFound }) ∧
    ∀ p, s.rotation.spot id.toNat = some p →
      (p.withdrawing = true → Answers (.withdrawSpot slot id) slot s s { code := .ok }) ∧
      (p.withdrawing = false →
        ∃ s', Answers (.withdrawSpot slot id) slot s s'
            { code := .ok, detail := if s.rotation.onAir id.toNat = true then 1 else 0 } ∧
          (∀ z : ZoneIx,
            (s'.rotation.zones[z]).rotation = (s.rotation.zones[z]).rotation.filter (fun x => x != id.toNat) ∧
            (s'.rotation.zones[z]).showing = (s.rotation.zones[z]).showing ∧
            (s'.rotation.zones[z]).sting = (if (s.rotation.zones[z]).sting = some id.toNat then none else (s.rotation.zones[z]).sting) ∧
            ((s.rotation.zones[z]).sting = some id.toNat → (s'.rotation.zones[z]).stingPending = false) ∧
            ((s.rotation.zones[z]).sting ≠ some id.toNat →
              (s'.rotation.zones[z]).stingPending = (s.rotation.zones[z]).stingPending) ∧
            (id.toNat ∉ (s.rotation.zones[z]).rotation → (s'.rotation.zones[z]).cursor = (s.rotation.zones[z]).cursor) ∧
            ((s.rotation.zones[z]).cursor = -1 → (s'.rotation.zones[z]).cursor = -1) ∧
            (0 ≤ (s.rotation.zones[z]).cursor → id.toNat ∈ (s.rotation.zones[z]).rotation →
              (s'.rotation.zones[z]).cursor + 1 =
                (((s.rotation.zones[z]).rotation.take ((s.rotation.zones[z]).cursor.toNat + 1)).filter (fun x => x != id.toNat)).length)) ∧
          s'.rotation.spot id.toNat = (if s.rotation.onAir id.toNat = true then some { p with withdrawing := true } else none) ∧
          (∀ other, other ≠ id.toNat → s'.rotation.spot other = s.rotation.spot other) ∧
          s' = { s with rotation := s'.rotation })

/-- SET_CONTRACT stores a defined spot's contract and clears its contract-met mark; RESET_TOTALS clears the totals and marks of the spots it
reaches (id 0: every spot) and the S of their showings. Neither changes anything else (R114, R137).
That an id not defined is NOT_FOUND also with too large a contract is the model's choice (notes/assumptions/36). -/
def Obligations.ContractAndTotalsCommands : Prop :=
  (∀ (slot : RingSlot) (id : Byte) (seconds : Word) (s : State), s.phase = .running →
    (s.rotation.spot id.toNat = none → Answers (.setContract slot id seconds) slot s s { code := .notFound }) ∧
    (s.rotation.spot id.toNat ≠ none → 50000 < seconds.toNat →
      Answers (.setContract slot id seconds) slot s s { code := .outOfRange }) ∧
    ∀ p, s.rotation.spot id.toNat = some p → seconds.toNat ≤ 50000 →
      ∃ s', Answers (.setContract slot id seconds) slot s s' { code := .ok } ∧
        s'.rotation.spot id.toNat = some { p with contract := seconds.toNat, contractMet := false } ∧
        (∀ other, other ≠ id.toNat → s'.rotation.spot other = s.rotation.spot other) ∧
        s' = { s with rotation := { s.rotation with spots := s'.rotation.spots } }) ∧
  (∀ (slot : RingSlot) (id : Byte) (s : State), s.phase = .running →
    (id ≠ 0 → s.rotation.spot id.toNat = none → Answers (.resetTotals slot id) slot s s { code := .notFound }) ∧
    (id = 0 ∨ s.rotation.spot id.toNat ≠ none →
      ∃ s', Answers (.resetTotals slot id) slot s s'
          { code := .ok, detail := (s.rotation.spots.filter fun p => id == 0 || p.id == id.toNat).length } ∧
        (∀ other, s'.rotation.spot other = (s.rotation.spot other).map fun p =>
          if id = 0 ∨ other = id.toNat then
            { p with delivered := 0, showings := 0, saturated := false, contractMet := false }
          else p) ∧
        (∀ z : ZoneIx, s'.rotation.zones[z] =
          { s.rotation.zones[z] with
            showing := (s.rotation.zones[z]).showing.map fun h =>
              if id = 0 ∨ h.spotId = id.toNat then { h with credit := 0 } else h }) ∧
        s' = { s with rotation := s'.rotation }))

/-- SET_ROTATION and SET_STING for an enabled SPONSOR zone of the live plan, with ids of usable spots of the zone's size: the list replaces
the old one with the cursor at -1; a sting is stored, and none clears the pending mark (R116, R118). -/
def Obligations.RotationAndStingStored : Prop :=
  ∀ (slot : RingSlot) (zone : Byte) (z : ZoneIx) (s : State), s.phase = .running → zone.toNat = z.val →
    (s.composer.live[z]).enable = true → (s.composer.live[z]).source = .sponsor →
    let usable (id : Nat) : Prop :=
      ∃ p, s.rotation.spot id = some p ∧ p.withdrawing = false ∧ (s.composer.live[z]).w.toNat = p.artW ∧
        (s.composer.live[z]).h.toNat = p.artH
    (∀ (count : Byte) (ids : List Byte), count.toNat ≤ 16 → count.toNat ≤ ids.length →
      (∀ x ∈ ids.take count.toNat, usable x.toNat) →
      ∃ s', Answers (.setRotation slot zone count ids) slot s s' { code := .ok, detail := count.toNat } ∧
        s'.rotation.zones[z] =
          { s.rotation.zones[z] with rotation := (ids.take count.toNat).map BitVec.toNat, cursor := -1 } ∧
        (∀ y : ZoneIx, y ≠ z → s'.rotation.zones[y] = s.rotation.zones[y]) ∧
        s' = { s with rotation := { s.rotation with zones := s'.rotation.zones } }) ∧
    (∀ id : Byte, id = 0 ∨ usable id.toNat →
      ∃ s', Answers (.setSting slot zone id) slot s s' { code := .ok } ∧
        s'.rotation.zones[z] =
          (if id = 0 then { s.rotation.zones[z] with sting := none, stingPending := false }
          else { s.rotation.zones[z] with sting := some id.toNat }) ∧
        (∀ y : ZoneIx, y ≠ z → s'.rotation.zones[y] = s.rotation.zones[y]) ∧
        s' = { s with rotation := { s.rotation with zones := s'.rotation.zones } })

/-! ### The ticker (Chapter 9) -/

/-- POST_MESSAGE puts an entry in its place in waiting order, taking its chunks and the next order number; a tag held is refused with
ALREADY_EXISTS, and want of a place or of chunks with FULL, detail 1 or 2 (R147-R151).
That the new entry stands behind also an entry that holds the number next to be issued is the model's choice (notes/assumptions/38). -/
def Obligations.PostMessageJoinsWaiting : Prop :=
  ∀ (slot : RingSlot) (p : MessagePayload) (only : Bool) (s : State), s.phase = .running → onOff p.stoppageOnly = some only →
    p.tag ≠ 0 → p.priority.toNat ≤ 3 → p.repeats.toNat ≤ 15 → p.lifetime.toNat ≤ 3600 → 1 ≤ p.length.toNat →
    p.length.toNat ≤ 200 → p.length.toNat ≤ p.text.length →
    let chunks := (p.length.toNat + 31) / 32
    (p.tag.toNat ∈ s.ticker.tags → Answers (.postMessage slot p) slot s s { code := .alreadyExists }) ∧
    (p.tag.toNat ∉ s.ticker.tags → 32 ≤ s.ticker.heldCount →
      Answers (.postMessage slot p) slot s s { code := .full, detail := 1 }) ∧
    (p.tag.toNat ∉ s.ticker.tags → s.ticker.heldCount < 32 → s.ticker.freeChunks < chunks →
      Answers (.postMessage slot p) slot s s { code := .full, detail := 2 }) ∧
    (p.tag.toNat ∉ s.ticker.tags → s.ticker.heldCount < 32 → chunks ≤ s.ticker.freeChunks →
      ∃ s' before after, Answers (.postMessage slot p) slot s s' { code := .ok, detail := s.ticker.freeChunks - chunks } ∧
        s.ticker.waiting = before ++ after ∧ (∀ x ∈ before, p.priority.toNat ≤ x.priority) ∧
        (∀ y ∈ after.head?, y.priority < p.priority.toNat) ∧
        s' = { s with
                ticker := { s.ticker with
                  freeChunks := s.ticker.freeChunks - chunks
                  nextOrder := s.ticker.nextOrder + 1
                  waiting := before ++
                    { tag := p.tag.toNat, priority := p.priority.toNat, repeats := p.repeats.toNat,
                      expiry := if p.lifetime = 0 then none
                        else some (s.clock.venue + BitVec.ofNat 32 (p.lifetime.toNat * 1000)),
                      stoppageOnly := only, order := s.ticker.nextOrder, text := p.text.take p.length.toNat,
                      passes := 0 } :: after } })

/-- CANCEL_MESSAGE removes a waiting entry at once and marks a showing one, CLEAR_MESSAGES does so for all; a tag of 0 or one not held is
refused (R152, R153, R155). That the last removed record then shows the last entry in waiting order is the model's choice
(notes/assumptions/40). -/
def Obligations.CancelAndClearMessages : Prop :=
  ∀ (slot : RingSlot) (s : State), s.phase = .running →
    (∀ tag : Half, tag = 0 ∨ tag.toNat ∉ s.ticker.tags → Answers (.cancelMessage slot tag) slot s s { code := .notFound }) ∧
    (∀ (tag : Half) (before after : List TickerEntry) (e : TickerEntry), tag ≠ 0 → s.ticker.waiting = before ++ e :: after →
      e.tag = tag.toNat → (∀ x ∈ before ++ after, x.tag ≠ tag.toNat) →
      Answers (.cancelMessage slot tag) slot s
        ({ s with
            ticker := { s.ticker with
              waiting := before ++ after
              freeChunks := s.ticker.freeChunks + (e.text.length + 31) / 32
              lastRemoved := some (tag.toNat, .cancelled) } }.raise .messageDone)
        { code := .ok }) ∧
    (∀ (tag : Half) (x : ShowingEntry), tag ≠ 0 → s.ticker.showing = some x → x.entry.tag = tag.toNat →
      (∀ e ∈ s.ticker.waiting, e.tag ≠ tag.toNat) →
      Answers (.cancelMessage slot tag) slot s
        { s with
          ticker := { s.ticker with showing := some { x with cancel := some (x.cancel.getD .cancelled) } } }
        { code := .ok, detail := 1 }) ∧
    ∃ s', Answers (.clearMessages slot) slot s s' { code := .ok, detail := s.ticker.tags.length } ∧ s'.ticker.waiting = [] ∧
      s'.ticker.showing = (s.ticker.showing.map fun x => { x with cancel := some .cleared }) ∧
      s'.ticker.freeChunks = s.ticker.freeChunks + (s.ticker.waiting.map TickerEntry.chunks).sum ∧
      s'.ticker.speed = s.ticker.speed ∧ s'.ticker.gap = s.ticker.gap ∧ s'.ticker.nextOrder = s.ticker.nextOrder ∧
      (s.ticker.waiting = [] → s'.ticker.lastRemoved = s.ticker.lastRemoved ∧ s'.command = s.command) ∧
      (∀ e ∈ s.ticker.waiting.getLast?, s'.ticker.lastRemoved = some (e.tag, .cleared) ∧ s'.flagged .messageDone = true) ∧
      s' = { s with ticker := s'.ticker, command := { s.command with flags := s'.command.flags } }

/-- A FRAME_END that finds a waiting entry expired removes it with MESSAGE_DONE, whatever is showing; none is left waiting that has expired, but for
a showing entry that this FRAME_END returns to the list, and none that had not expired is lost; a message on the wall crawls on beside it. An entry
has expired from its expiry on, and is not eligible while it is stoppage-only and the game clock runs (R148, R150). A showing entry whose cancel is
pending is removed first, with its reason CANCELLED or CLEARED. One that has expired, or that has its last-pass mark, is removed with EXPIRED if the
frame record has no enabled TICKER zone; with such a zone one that expires takes the last-pass mark and crawls on (R155-R157). That a waiting entry
is removed before the showing one by expiry is the model's deduction (notes/assumptions/35).
The row is the whole step its event comes about in (the model's choice, notes/assumptions/4). -/
def Obligations.ExpiredMessagesRemoved : Prop :=
  (∀ (b : Bool) (s : State), s.phase = .running → s.timing.blanking = false →
    ((∃ e ∈ s.ticker.waiting, e.expired s.clock.venue = true) →
      let expired : List TickerEntry := s.ticker.waiting.filter fun e => e.expired s.clock.venue
      let kept : List TickerEntry := s.ticker.waiting.filter fun e => !e.expired s.clock.venue
      ∃ u, exec (.messageExpiry b) s = .next u ∧ exec (.frameEnd b) s = .next u ∧ u.flagged .messageDone = true ∧
        (∀ e ∈ u.ticker.waiting, e ∈ kept ∨
          ∃ x, s.ticker.showing = some x ∧ x.cancel = none ∧
            (e = { x.entry with order := s.ticker.nextOrder } ∨
              e = { x.entry with
                      order := s.ticker.nextOrder
                      passes := min 65535 (x.entry.passes + 1)
                      repeats := x.entry.repeats - 1 })) ∧
        (∀ e ∈ kept, e ∈ u.ticker.waiting ∨ ∃ y, u.ticker.showing = some y ∧ y.entry = e) ∧
        u.ticker.freeChunks + u.ticker.heldChunks = s.ticker.freeChunks + s.ticker.heldChunks ∧
        (s.ticker.showing = none → u.ticker.freeChunks = s.ticker.freeChunks + (expired.map TickerEntry.chunks).sum ∧
          ∀ e ∈ expired.getLast?, u.ticker.lastRemoved = some (e.tag, .expired)) ∧
        ∀ x, s.ticker.showing = some x → x.cancel = none → x.lastPass = false → x.entry.expired s.clock.venue = false →
          x.entry.eligible s.clock.game.state = true →
          (3 ≤ x.entry.priority ∨ ∀ e ∈ kept, e.priority = 3 → e.eligible s.clock.game.state = false) →
          let crawls : Prop := ∃ z, s.tickerZone = some z ∧ crawlZone s.composer.record z = true
          (crawls → 0 < x.position - s.ticker.speed + 16 * (x.entry.text.length : Int)) →
          ∃ position : Int, (crawls → position = x.position - s.ticker.speed) ∧ (¬ crawls → position = x.position) ∧
            u.ticker = { s.ticker with
              waiting := kept
              showing := some { x with position := position }
              freeChunks := s.ticker.freeChunks + (expired.map TickerEntry.chunks).sum
              lastRemoved := expired.getLast?.map fun e => (e.tag, .expired) }) ∧
    (∀ x, s.ticker.showing = some x → x.cancel = none → x.lastPass = true ∨ x.entry.expired s.clock.venue = true →
      s.tickerZone = none →
      ∃ u, exec (.messageExpiry b) s = .next u ∧ exec (.frameEnd b) s = .next u ∧ u.flagged .messageDone = true ∧
        u.ticker.showing = none ∧ u.ticker.lastRemoved = some (x.entry.tag, .expired) ∧
        ∀ e ∈ u.ticker.waiting, e.expired s.clock.venue = false) ∧
    (∀ x c, s.ticker.showing = some x → x.cancel = some c →
      let expired : List TickerEntry := s.ticker.waiting.filter fun e => e.expired s.clock.venue
      ∃ u, exec (.frameEnd b) s = .next u ∧ u.flagged .messageDone = true ∧
        (∀ y, u.ticker.showing = some y → y.entry ∈ s.ticker.waiting) ∧
        (∀ e ∈ u.ticker.waiting, e ∈ s.ticker.waiting ∧ e.expired s.clock.venue = false) ∧
        (∀ e ∈ s.ticker.waiting, e.expired s.clock.venue = false →
          e ∈ u.ticker.waiting ∨ ∃ y, u.ticker.showing = some y ∧ y.entry = e) ∧
        (expired = [] → u.ticker.lastRemoved = some (x.entry.tag,
          match c with
          | .cancelled => .cancelled
          | .cleared => .cleared)) ∧
        (∀ e ∈ expired.getLast?, u.ticker.lastRemoved = some (e.tag, .expired)) ∧
        u.ticker = { s.ticker with
          waiting := u.ticker.waiting
          showing := u.ticker.showing
          freeChunks := s.ticker.freeChunks + (x.entry.text.length + 31) / 32 + (expired.map TickerEntry.chunks).sum
          lastRemoved := u.ticker.lastRemoved }) ∧
    ∀ x z, s.ticker.showing = some x → x.cancel = none → x.lastPass = false → x.entry.expired s.clock.venue = true →
      s.tickerZone = some z → (∀ e ∈ s.ticker.waiting, e.expired s.clock.venue = false) →
      x.entry.eligible s.clock.game.state = true →
      (3 ≤ x.entry.priority ∨ ∀ e ∈ s.ticker.waiting, e.priority = 3 → e.eligible s.clock.game.state = false) →
      let position : Int := if crawlZone s.composer.record z = true then x.position - s.ticker.speed else x.position
      (crawlZone s.composer.record z = true → 0 < position + 16 * (x.entry.text.length : Int)) →
      ∃ u, exec (.messageExpiry b) s = .next u ∧ exec (.frameEnd b) s = .next u ∧
        u.ticker = { s.ticker with showing := some { x with position := position, lastPass := true } }) ∧
  ∀ e : TickerEntry,
    (∀ venue, e.expired venue = true ↔ ∃ x, e.expiry = some x ∧ (venue - x).toNat < 2147483648) ∧
    (∀ g, e.eligible g = false ↔ e.stoppageOnly = true ∧ g = .running) ∧ e.chunks = (e.text.length + 31) / 32

/-- A FRAME_END at which the crawl carries the showing entry past its last character ends a pass: the last repeat removes the entry with
DONE; otherwise, with nothing waiting, the next pass begins one gap to the right of the zone, and a waiting entry of no lower priority
takes its turn, the showing one rejoining the waiting list (R158, R160). An entry that has its last-pass mark, or has expired, is removed at
its pass end, with DONE if that was the last repeat and EXPIRED otherwise (R157, R158). The crawl moves only in a frame of mode NORMAL whose TICKER
zone was active, past its lead-in and seen whole (R158). That the showing one
rejoins behind also an entry that holds the number next to be issued is the model's choice (notes/assumptions/38).
The row is the whole step its event comes about in (the model's choice, notes/assumptions/4). -/
def Obligations.PassEndsAtLeftEdge : Prop :=
  (∀ (b : Bool) (s : State) (x : ShowingEntry) (z : ZoneRecord), s.phase = .running → s.timing.blanking = false →
    s.ticker.showing = some x → x.cancel = none → x.lastPass = false → x.entry.expired s.clock.venue = false →
    s.tickerZone = some z → crawlZone s.composer.record z = true → x.entry.eligible s.clock.game.state = true →
    x.position - s.ticker.speed + 16 * (x.entry.text.length : Int) ≤ 0 →
    let counted : TickerEntry :=
      { x.entry with passes := min 65535 (x.entry.passes + 1), repeats := x.entry.repeats - 1 }
    (x.entry.repeats = 1 → s.ticker.waiting = [] →
      ∃ u, exec (.passEnd b) s = .next u ∧ exec (.frameEnd b) s = .next u ∧ u.flagged .messageDone = true ∧
        u.ticker = { s.ticker with
          showing := none
          freeChunks := s.ticker.freeChunks + (x.entry.text.length + 31) / 32
          lastRemoved := some (x.entry.tag, .done) }) ∧
    (x.entry.repeats ≠ 1 → s.ticker.waiting = [] →
      ∃ u, exec (.passEnd b) s = .next u ∧ exec (.frameEnd b) s = .next u ∧
        u.ticker = { s.ticker with
          showing := some
            { x with entry := counted, position := 32 * (z.desc.w.toNat : Int) + s.ticker.gap } }) ∧
    (∀ e, x.entry.repeats ≠ 1 → s.ticker.waiting = [e] → e.expired s.clock.venue = false →
      e.eligible s.clock.game.state = true → x.entry.priority ≤ e.priority →
      ∃ u, exec (.passEnd b) s = .next u ∧ exec (.frameEnd b) s = .next u ∧
        u.ticker = { s.ticker with
          waiting := [{ counted with order := s.ticker.nextOrder }]
          nextOrder := s.ticker.nextOrder + 1
          showing := some { entry := e, position := 32 * (z.desc.w.toNat : Int), lastPass := false, cancel := none } })) ∧
  (∀ (b : Bool) (s : State) (x : ShowingEntry) (z : ZoneRecord), s.phase = .running → s.timing.blanking = false →
    s.ticker.showing = some x → x.cancel = none → x.lastPass = true ∨ x.entry.expired s.clock.venue = true →
    s.tickerZone = some z → crawlZone s.composer.record z = true →
    x.position - s.ticker.speed + 16 * (x.entry.text.length : Int) ≤ 0 →
    (∀ e ∈ s.ticker.waiting, e.expired s.clock.venue = false) →
    ∃ u, exec (.passEnd b) s = .next u ∧ exec (.frameEnd b) s = .next u ∧ u.flagged .messageDone = true ∧
      (∀ y, u.ticker.showing = some y → y.entry ∈ s.ticker.waiting) ∧ (∀ e ∈ u.ticker.waiting, e ∈ s.ticker.waiting) ∧
      (∀ e ∈ s.ticker.waiting, e ∈ u.ticker.waiting ∨ ∃ y, u.ticker.showing = some y ∧ y.entry = e) ∧
      u.ticker = { s.ticker with
        waiting := u.ticker.waiting
        showing := u.ticker.showing
        freeChunks := s.ticker.freeChunks + (x.entry.text.length + 31) / 32
        lastRemoved := some (x.entry.tag, if x.entry.repeats = 1 then .done else .expired) }) ∧
  ∀ (r : FrameRecord) (z : ZoneRecord), crawlZone r z = true ↔
    r.mode = .normal ∧ z.active = true ∧ z.inLeadIn = false ∧ z.visible = z.desc.w.toNat * z.desc.h.toNat

/-! ### The host port and the memory controller (Chapter 10) -/

/-- A running part with no transaction in progress takes a presented WRITE or READ at its address reduced modulo the frame store and to a multiple
of 8, a READ making its memory request at once, for its own block or, in the alias while there is an intake slot, for the slot's; before start-up is
complete it is held off. A watched write moves the read mark by at most the unreleased count, else raises LOG_READ_HELD; a refresh falls due; a
waiting write joins the queue when it has room, a RESTART's result only after the records that stood before it (R142, R164-R166, R170, R171, R173,
R184). WATCHED_WRITE and QUEUE_JOIN as steps of their own are the
model's choice (notes/assumptions/10). -/
def Obligations.PortAndControllerEvents : Prop :=
  (∀ (addr : Word) (l : BurstLength) (s : State),
    (s.phase = .running → s.port.transaction = none →
      ∃ t v, exec (.hostWriteArrival addr l) s = .next { s with port := { s.port with transaction := some t } } ∧
        t.request = { isWrite := true, addr := addr.toNat % s.memSize / 8 * 8, length := l } ∧ t.beats = 0 ∧ t.forward = [] ∧
        t.state = .none ∧
        exec (.hostRead addr l) s = .next { s with port := { s.port with transaction := some v } } ∧
        v.request = { isWrite := false, addr := addr.toNat % s.memSize / 8 * 8, length := l } ∧ v.state = .waiting ∧
        (s.intake.ring = none ∨ s.intake.intakeSlot = none → v.readBase = blockBase v.request.addr l) ∧
        (∀ r, s.intake.ring = some r → v.request.addr < r.aliasBase ∨ r.aliasBase + r.slotBytes ≤ v.request.addr →
          v.readBase = blockBase v.request.addr l) ∧
        (∀ r k, s.intake.ring = some r → s.intake.intakeSlot = some k → r.aliasBase ≤ v.request.addr →
          v.request.addr < r.aliasBase + r.slotBytes →
          v.readBase = r.ringBase + k * r.slotBytes + (blockBase v.request.addr l - r.aliasBase))) ∧
    (s.phase ≠ .running → s.port.presented = none →
      exec (.hostWriteArrival addr l) s = .next
        { s with port := { s.port with presented := some { isWrite := true, addr := addr.toNat, length := l } } } ∧
      exec (.hostRead addr l) s = .next
        { s with port := { s.port with presented := some { isWrite := false, addr := addr.toNat, length := l } } })) ∧
  (∀ s : State, s.phase = .running →
    (∀ v : Word, (v - s.exposure.readMark).toNat ≤ (s.exposure.nextRecord - s.exposure.readMark).toNat →
      exec (.watchedWrite v) s = .next { s with exposure := { s.exposure with readMark := v } }) ∧
    (∀ v : Word, (s.exposure.nextRecord - s.exposure.readMark).toNat < (v - s.exposure.readMark).toNat →
      exec (.watchedWrite v) s = .next (s.raise .logReadHeld)) ∧
    exec .refreshDue s = .next { s with memctl := { s.memctl with refreshDue := s.memctl.refreshDue + 1 } } ∧
    (∀ first : WriterBlock, 64 ≤ s.memctl.queue.length → exec (.queueJoin first) s = .next s) ∧
    (∀ (first : WriterBlock) (w : PartWrite) (rest : List PartWrite), s.memctl.queue.length < 64 →
      s.memctl.waitExposure = w :: rest →
      first = .exposureCounter ∨ s.memctl.waitCommand = [] ∨ (∃ r ∈ s.memctl.waitCommand.head?, 0 < r.behind) →
      exec (.queueJoin first) s = .next
        { s with
          memctl := { s.memctl with
            queue := s.memctl.queue ++ [w]
            waitExposure := rest
            waitCommand := s.memctl.waitCommand.map fun r => { r with behind := r.behind - 1 } } }) ∧
    (∀ (first : WriterBlock) (w : PartWrite) (rest : List WaitingResult), s.memctl.queue.length < 64 →
      s.memctl.waitCommand = { write := w, behind := 0 } :: rest → first = .commandUnit ∨ s.memctl.waitExposure = [] →
      exec (.queueJoin first) s = .next
        { s with memctl := { s.memctl with queue := s.memctl.queue ++ [w], waitCommand := rest } }))

/-- A write beat by the region of its address (Table 10.4): the status block and the log are dropped with FILTERED_WRITE, a pinned slot and
the art of a spot on air too; an alias beat with the intake slot NONE is dropped with INTAKE_BLOCKED; every other beat goes to memory, a
ring beat into the shadow as well (a canonical one). A wholly masked beat counts for nothing. No beat changes memory before the burst is
granted (R166-R168). Rows 8 and 9 close the ring slots with a pin count above 0 and the art of the spots on air; a beat's address follows from its
number by the order of Table 10.3, which visits every index of the block once; with the last beat a burst that has something to write asks for
memory; the frame store and the control area lie as Table 10.1 gives (R164-R167). -/
def Obligations.WriteBeatByRegion : Prop :=
  (∀ (data : Beat) (mask : Byte) (s : State) (t : HostTransaction), s.phase = .running → s.port.transaction = some t →
    t.request.isWrite = true → t.beats < burstBeats t.request.length →
    let a := s.beatAddr t.request t.beats
    let dropped (f : Flag) : Prop := exec (.writeBeat data mask) s = .next (setTransaction (some t.counted) (s.raise f))
    let sent : HostTransaction :=
      { t with forward := t.forward ++ [{ addr := a, data := data, mask := mask, remapped := false }] }
    (mask = 0 → exec (.writeBeat data mask) s = .next (setTransaction (some t.counted) s)) ∧
    (mask ≠ 0 → s.controlBase + 0x4000 ≤ a → a < s.controlBase + 0x5000 → dropped .filteredWrite) ∧
    (mask ≠ 0 → s.controlBase + 0x8000 ≤ a → dropped .filteredWrite) ∧
    (mask ≠ 0 → s.controlBase + 0x5008 ≤ a → a < s.controlBase + 0x8000 →
      exec (.writeBeat data mask) s = .next (setTransaction (some sent.counted) s)) ∧
    (mask ≠ 0 → s.controlBase + 0x5000 ≤ a → a < s.controlBase + 0x5008 →
      exec (.writeBeat data mask) s = .next (setTransaction (some
        ({ sent with
            watched :=
              if mask.getLsbD 0 = true ∧ mask.getLsbD 1 = true ∧ mask.getLsbD 2 = true ∧ mask.getLsbD 3 = true then
                some (data.extractLsb' 0 32)
              else t.watched }).counted) s)) ∧
    (mask ≠ 0 → s.controlBase ≤ a → a < s.controlBase + 0x4000 → s.command.shadow.wf (some 0) = true →
      ∃ u x, exec (.writeBeat data mask) s = .next u ∧ u.port.transaction = some x ∧ x.forward = sent.forward ∧
        x.beats = t.beats + 1 ∧
        x.closing =
          (if (a - s.controlBase) % 256 = 248 ∧ mask.getLsbD 4 = true ∧ mask.getLsbD 5 = true ∧ mask.getLsbD 6 = true ∧
              mask.getLsbD 7 = true then some (Fin.ofNat 64 ((a - s.controlBase) / 256))
          else t.closing) ∧
        (∀ j, j < 8 → u.shadowByte (a - s.controlBase + j) =
          if mask.getLsbD j = true then data.extractLsb' (8 * j) 8 else s.shadowByte (a - s.controlBase + j)) ∧
        (∀ o, o < a - s.controlBase ∨ a - s.controlBase + 8 ≤ o → u.shadowByte o = s.shadowByte o) ∧
        u = { s with
                command := { s.command with shadow := u.command.shadow }
                port := { s.port with transaction := u.port.transaction } }) ∧
    (∀ r, mask ≠ 0 → a < s.controlBase → s.intake.ring = some r → r.aliasBase ≤ a → a < r.aliasBase + r.slotBytes →
      (s.intake.intakeSlot = none → dropped .intakeBlocked) ∧
      (∀ k, s.intake.intakeSlot = some k →
        ∃ u x, exec (.writeBeat data mask) s = .next u ∧ u.port.transaction = some x ∧
          x.forward = t.forward ++
            [{ addr := r.ringBase + k * r.slotBytes + (a - r.aliasBase), data := data, mask := mask, remapped := true }] ∧
          x.completion = (t.completion ||
            decide (a = r.aliasBase + r.w * r.h * 4096 + 24 ∧ mask.getLsbD 4 = true ∧ mask.getLsbD 5 = true ∧
              mask.getLsbD 6 = true ∧ mask.getLsbD 7 = true)) ∧
          (∀ n : Fin 32, u.intake.trailer[n] =
            let o := r.aliasBase + r.w * r.h * 4096 + n.val
            if a ≤ o ∧ o < a + 8 ∧ mask.getLsbD (o - a) = true then data.extractLsb' (8 * (o - a)) 8 else s.intake.trailer[n]) ∧
          u = { s with
                  intake := { s.intake with trailer := u.intake.trailer }
                  port := { s.port with transaction := u.port.transaction } })) ∧
    (mask ≠ 0 → a < s.controlBase →
      (∀ r, s.intake.ring = some r → a < r.aliasBase ∨ r.aliasBase + r.slotBytes ≤ a) →
      (s.closed a = true → dropped .filteredWrite) ∧
      (s.closed a = false → exec (.writeBeat data mask) s = .next (setTransaction (some sent.counted) s)))) ∧
  (∀ (s : State) (a : Nat), s.closed a = true ↔
    (∃ r k x, s.intake.ring = some r ∧ k < r.count ∧ s.intake.slots[k]? = some x ∧ 0 < x.pins ∧
      r.ringBase + k * ((r.w * r.h + 1) * 4096) ≤ a ∧ a < r.ringBase + (k + 1) * ((r.w * r.h + 1) * 4096)) ∨
    ∃ (z : ZoneIx) (h : Showing) (p : Spot), (s.rotation.zones[z]).showing = some h ∧ s.rotation.spot h.spotId = some p ∧
      p.artBase ≤ a ∧ a < p.artBase + p.artW * p.artH * 4096) ∧
  (∀ (s : State) (q : HostRequest),
    let l := match q.length with
      | .one => 1
      | .two => 2
      | .four => 4
      | .eight => 8
    let base := q.addr / (8 * l) * (8 * l)
    let start := q.addr % (8 * l) / 8
    burstBeats q.length = l ∧
    (∀ k, k < l → s.beatAddr q k = base + 8 * (if s.straps.bord = true then start ^^^ k else (start + k) % l)) ∧
    ∀ i, i < l → ∃ k, k < l ∧ s.beatAddr q k = base + 8 * i ∧ ∀ k', k' < l → s.beatAddr q k' = base + 8 * i → k' = k) ∧
  (∀ t : HostTransaction,
    t.counted = { t with
      beats := t.beats + 1
      state := if t.beats + 1 = burstBeats t.request.length ∧ t.forward ≠ [] then .waiting else t.state }) ∧
  ∀ s : State,
    s.memSize = (if s.straps.msize = 0 then 0x08000000 else if s.straps.msize = 1 then 0x10000000 else 0x20000000) ∧
    s.controlBase + 0x10000 = s.memSize

/-- A WRITE that has received its beats and been served ends, and what its beats completed is handed on: a closed slot is taken as the command
its bytes spell, or refused as malformed or of an unknown kind; a completion, a watched write, or a retry held over is made (R36, R166, R179). -/
def Obligations.WriteEndHandsOn : Prop :=
  ∀ (lines : Byte) (b : Bool) (s : State) (t : HostTransaction), s.phase = .running → s.port.transaction = some t →
    t.request.isWrite = true → t.beats = burstBeats t.request.length →
    t.state = .served ∨ (t.state = .none ∧ t.forward = []) →
    let s' := setTransaction none s
    (t.closing = none → t.completion = false → t.watched = none → s.intake.retryDue = false →
      exec (.hostWriteEnd lines b) s = .next s') ∧
    (t.closing = none → t.completion = false → t.watched = none → s.intake.retryDue = true →
      exec (.hostWriteEnd lines b) s = exec .intakeRetry { s' with intake := { s'.intake with retryDue := false } }) ∧
    (t.closing = none → t.completion = true → t.watched = none → s.intake.retryDue = false →
      exec (.hostWriteEnd lines b) s = exec .completion s') ∧
    (∀ v, t.closing = none → t.completion = false → t.watched = some v → s.intake.retryDue = false →
      exec (.hostWriteEnd lines b) s = exec (.watchedWrite v) s') ∧
    ∀ slot, t.closing = some slot → t.completion = false → t.watched = none → s.intake.retryDue = false →
      (∀ i, decodeSlot slot lines (s.slotByte slot) = .command i → exec (.hostWriteEnd lines b) s = exec i s') ∧
      (decodeSlot slot lines (s.slotByte slot) = .malformed →
        ∃ u, u = finishCommand slot { code := .malformed } s' ∧ exec (.hostWriteEnd lines b) s = .next u) ∧
      (decodeSlot slot lines (s.slotByte slot) = .unknownKind →
        ∃ u, u = finishCommand slot { code := .unknownKind } s' ∧ exec (.hostWriteEnd lines b) s = .next u)

/-- The arbiter's choice when the SDRAM is free: a refresh due, else the scan-out fetch, else the queue when it is at 48 entries and the last
of the two was the host, else the host, else the queue. The scan-out asks for the frame's next block still to be fetched while the line buffer
holds less than half its capacity, and for none where no block is left; a frame of one colour needs none. At its grant a host WRITE loses the
beats that have become closed, and the others' unmasked bytes are in memory, the last written standing, with no other byte changed (R169, R172,
R174).
That the blocks are fetched in the order of the scan (notes/assumptions/19), and that each takes room for 16 pixels and an unfetched pixel none
(notes/assumptions/39), is the model's choice; that a granted WRITE's bytes are in memory at once is its deduction (notes/assumptions/32). -/
def Obligations.ArbiterGrantsInOrder : Prop :=
  (∀ (i : ChoiceInput) (first : WriterBlock) (s : State), s.phase = .running → s.memctl.access = none → i.sent = 0 →
    (0 < s.memctl.refreshDue →
      exec (.accessEnd i first) s = .next
        { s with memctl := { s.memctl with refreshDue := s.memctl.refreshDue - 1, access := some .refresh } }) ∧
    (∀ p a, s.memctl.refreshDue = 0 → s.scanRequest = some (p, a) →
      exec (.accessEnd i first) s = .next
        { s with memctl := { s.memctl with access := some (.scan p a) }, panel := { s.panel with fetchAt := p + 1 } }) ∧
    (∀ w rest, s.memctl.refreshDue = 0 → s.scanRequest = none → s.memctl.queue = w :: rest →
      (48 ≤ s.memctl.queue.length ∧ s.memctl.lastPlayout = true) ∨ s.playoutWaits = false →
      ∃ u, exec (.accessEnd i first) s = .next u ∧ u.memctl.access = some (.queueEntry w) ∧ u.memctl.lastPlayout = false ∧
        (s.memctl.waitCommand = [] → s.memctl.waitExposure = [] → u.memctl.queue = rest) ∧
        u.memctl.queue.length ≤ rest.length + 1 ∧ rest <+: u.memctl.queue ∧ u = { s with memctl := u.memctl }) ∧
    (∀ t, s.memctl.refreshDue = 0 → s.scanRequest = none → s.port.transaction = some t → t.state = .waiting →
      s.memctl.queue.length < 48 ∨ s.memctl.lastPlayout = false →
      ∃ u x, exec (.accessEnd i first) s = .next u ∧ u.port.transaction = some x ∧ x.state = .granted ∧
        x.forward = t.forward.filter (fun b => b.remapped || !s.closed b.addr) ∧
        u.flagged .filteredWrite =
          (s.flagged .filteredWrite || t.forward.any fun b => !b.remapped && s.closed b.addr) ∧
        (t.request.isWrite = false → u.mem = s.mem) ∧
        (t.request.isWrite = true → BurstLanded x.forward u ∧
          ∀ a, (∀ b ∈ x.forward, ∀ j, j < 8 → b.mask.getLsbD j = true → a ≠ b.addr + j) → u.memByte a = s.memByte a) ∧
        u = { s with
                memctl := { s.memctl with access := some .playout, lastPlayout := true }
                port := { s.port with transaction := some { t with forward := x.forward, state := .granted } }
                mem := u.mem
                command := { s.command with flags := u.command.flags } }) ∧
    (s.memctl.refreshDue = 0 → s.scanRequest = none → s.memctl.queue = [] → s.playoutWaits = false →
      exec (.accessEnd i first) s = .next s)) ∧
  ∀ s : State,
    let blocks (p : Nat) : Option Nat := (s.groupBlocks (p / 4))[p % 4]?
    let groups := 2 * s.composer.record.w * (32 * s.composer.record.h)
    (4096 ≤ 16 * s.panel.lineBuffer.length → s.scanRequest = none) ∧
    (∀ p a, s.scanRequest = some (p, a) →
      16 * s.panel.lineBuffer.length < 4096 ∧ s.panel.fetchAt ≤ p ∧ p / 4 < groups ∧ blocks p = some a ∧ a % 64 = 0 ∧
      ∀ q, s.panel.fetchAt ≤ q → q < p → blocks q = none) ∧
    (16 * s.panel.lineBuffer.length < 4096 → s.scanRequest = none → ∀ q, s.panel.fetchAt ≤ q → q / 4 < groups → blocks q = none) ∧
    (s.composer.record.mode = .black ∨ s.composer.record.mode = .white → ∀ g, s.groupBlocks g = [])

/-- The end of an access, after which the arbiter chooses as with the SDRAM free: a refresh changes nothing; a scan-out access's 64 bytes join
the line buffer unless the cell has been sent late or the frame is over; a queue entry's bytes are in memory and no others change, and only the
tail word ends a status write-back; a host WRITE has been served, its bytes in memory since its grant; a READ's beats are returned and it ends.
The blocks that the panel link has sent leave the line buffer (R22, R166, R168, R169, R171, R172, R174, R185).
That their number is the command's operand, what the late cells are, and that a block behind the point the fetch begins again at is dropped, is
the model's choice (notes/assumptions/19); that a WRITE's bytes are in memory since its grant is its deduction (notes/assumptions/32). -/
def Obligations.AccessEndLandsBytes : Prop :=
  ∀ (i : ChoiceInput) (first : WriterBlock) (s : State), s.phase = .running →
    let idle : ChoiceInput := { i with sent := 0 }
    let sent (l : List LineBlock) : PanelScan := { s.panel with lineBuffer := l.drop i.sent }
    let free : MemoryController := { s.memctl with access := none }
    (∃ u, exec (.accessEnd i first) s = .next u) ∧
    (s.memctl.access = none ∨ s.memctl.access = some .refresh →
      exec (.accessEnd i first) s = exec (.accessEnd idle first) { s with memctl := free, panel := sent s.panel.lineBuffer }) ∧
    (∀ p a, s.memctl.access = some (.scan p a) →
      (s.panel.fetchAt ≤ p ∨ (p / 4 % (2 * s.composer.record.w) / 2, p / 4 / (2 * s.composer.record.w) / 32) ∈ s.panel.late →
        exec (.accessEnd i first) s = exec (.accessEnd idle first) { s with memctl := free, panel := sent s.panel.lineBuffer }) ∧
      (p < s.panel.fetchAt → (p / 4 % (2 * s.composer.record.w) / 2, p / 4 / (2 * s.composer.record.w) / 32) ∉ s.panel.late →
        ∃ bytes : List Byte, bytes.length = 64 ∧ (∀ j, j < 64 → bytes[j]? = some (s.memByte (a + j))) ∧
          exec (.accessEnd i first) s = exec (.accessEnd idle first)
            { s with memctl := free, panel := sent (s.panel.lineBuffer ++ [{ addr := a, bytes := bytes }]) })) ∧
    (∀ w, s.memctl.access = some (.queueEntry w) →
      ∃ v, exec (.accessEnd i first) s = exec (.accessEnd idle first) v ∧
        (∀ k, (h : k < w.data.length) → v.memByte (s.controlBase + w.offset + k) = w.data[k]) ∧
        (∀ a, a < s.controlBase + w.offset ∨ s.controlBase + w.offset + w.data.length ≤ a → v.memByte a = s.memByte a) ∧
        v = { s with
                mem := v.mem
                memctl := free
                panel := sent s.panel.lineBuffer
                command := { s.command with
                  statusInFlight := if w.offset = 0x4FFC then false else s.command.statusInFlight } }) ∧
    (∀ t, s.memctl.access = some .playout → s.port.transaction = some t → t.request.isWrite = true →
      (GrantSound s → BurstLanded t.forward s) ∧
      exec (.accessEnd i first) s = exec (.accessEnd idle first)
        { s with
          memctl := free
          panel := sent s.panel.lineBuffer
          port := { s.port with transaction := some { t with state := .served } } }) ∧
    (∀ t, s.memctl.access = some .playout → s.port.transaction = some t → t.request.isWrite = false →
      exec (.accessEnd i first) s = exec (.accessEnd idle first)
        { s with
          memctl := free
          panel := sent s.panel.lineBuffer
          port := { s.port with
            transaction := none
            readData := (List.range (burstBeats t.request.length)).map fun k =>
              s.beatAt (t.readBase + 8 * beatIndex s.straps.bord t.request.length (startIndex t.request.addr t.request.length) k) } })

/-! ### The command unit (Chapter 11) -/

/-- NOP changes nothing; ACK_FLAGS clears the flags of its mask; SET_ATTN_MASK stores its low 24 bits, which with the flags drive ATTN*;
ACK_CAUSES empties the reset causes. A closed slot whose closing word is not its kind and tag is refused as MALFORMED, one of a kind Table
11.2 does not have as UNKNOWN_KIND; the kinds known are those that decode to a command (R179, R182, R183).
The flags' numbers are those of Table 11.5 and the codes of the choices those of Table 11.3.
UNKNOWN_KIND as a step of its own is the model's choice (notes/assumptions/10). -/
def Obligations.CommandUnitTakesAndRefuses : Prop :=
  ((∀ (slot : RingSlot) (kind tag : Half) (closing : Word) (s : State), s.phase = .running →
    (closing ≠ kind ++ tag → Answers (.unknownKind slot kind tag closing) slot s s { code := .malformed }) ∧
    (closing = kind ++ tag → knownKind kind = false →
      Answers (.unknownKind slot kind tag closing) slot s s { code := .unknownKind })) ∧
  ∀ (slot : RingSlot) (lines : Byte) (kind : Half) (b : Nat → Byte),
    knownKind kind = (decodeCommand slot lines kind.toNat b).isSome) ∧
  (∀ (slot : RingSlot) (mask : Word) (s : State), s.phase = .running →
    Answers (.nop slot) slot s s { code := .ok } ∧
    (∃ s', Answers (.ackFlags slot mask) slot s s' { code := .ok } ∧
      (∀ f : Flag, s'.flagged f = (s.flagged f && !mask.getLsbD f.number)) ∧
      s' = { s with command := { s.command with flags := s'.command.flags } }) ∧
    (∃ s', Answers (.setAttnMask slot mask) slot s s' { code := .ok } ∧
      (∀ n, n < 24 → s'.command.attnMask.getLsbD n = mask.getLsbD n) ∧
      (s'.attnActive = true ↔ ∃ f : Flag, s.flagged f = true ∧ mask.getLsbD f.number = true) ∧
      s' = { s with command := { s.command with attnMask := s'.command.attnMask } }) ∧
    Answers (.ackCauses slot) slot s
      { s with command := { s.command with causes := { powerOn := false, resetLine := false, restart := false } } }
      { code := .ok }) ∧
  ([Flag.cmdRefused, .planApplied, .modeChanged, .underrun, .filteredWrite, .intakeBlocked, .frameDuplicate, .trailerBad, .replayEnded,
      .replayStarved, .gcEnded, .scEnded, .mark0, .mark1, .capture0, .capture1, .capture2, .capture3, .consoleRefused, .contractMet,
      .creditSaturated, .logFull, .logReadHeld, .messageDone].map Flag.number = List.range 24 ∧
    (∀ n : Fin 4, (captureFlag n).number = 14 + n.val) ∧
    ∀ (s : State) (f g : Flag), s.flagged f = s.command.flags.getLsbD f.number ∧
      (s.raise f).flagged g = (s.flagged g || decide (g = f))) ∧
  ∀ c : Byte,
    let coded {α : Type} (read : Byte → Option α) (choices : List α) : Prop := read c = choices[c.toNat]?
    coded onOff [false, true] ∧ coded outputMode [.normal, .black, .white, .slateOnly] ∧ coded rollDirection [.forward, .reverse] ∧
    coded endMode [.hold, .release] ∧ coded clockDirection [.down, .up] ∧
    coded lineFunction [.none, .start, .stop, .run, .shotReset, .shotToggle, .horn] ∧ coded captureEdge [.rising, .falling, .any] ∧
    coded spotClass [.any, .runningOnly, .stoppedOnly] ∧
    (∀ line edge : Byte,
      (c ≠ 1 → captureSource c line edge =
        [CaptureSource.off, .off, .gcStart, .gcStop, .gcEnd, .scEnd, .scoreChange, .mark][c.toNat]?) ∧
      ∀ (n : Fin 8) (e : CaptureEdge), line.toNat = n.val → captureEdge edge = some e →
        captureSource 1 line edge = some (.line n e)) ∧
    zoneSource c = ([ZoneSource.fill, .slate, .sponsor, .replay, .scorebug, .ticker][c.toNat]?).getD (.unknown c)

/-- RESTART ends every showing, disables every zone of both plans with its other fields zero, empties the lists, stings and messages, stops a roll
and adds its cause; clocks, console, score, ring, memory and the queue's entries are kept, and every spot that is not withdrawing, on air or not,
with its totals (R25, R62, R129, R162, R184). A record with reason RESTART is formed for each showing, in ascending order of the zones, and follows
what waits for the queue; those the log has no room for are missed. The result waits behind the records if one of them has to wait. -/
def Obligations.RestartClearsTheShow : Prop :=
  ∀ (slot : RingSlot) (s : State), s.phase = .running →
    let shown := allZones.filter fun z => (s.rotation.zones[z]).showing.isSome
    let logged := min shown.length (1024 - s.exposure.unreleased)
    ∃ s' b, Answers (.restart slot) slot s s' { code := .ok, afterRecords := b } ∧
      (b = true ↔ s.memctl.waitExposure.length < s'.memctl.waitExposure.length) ∧
      (∀ z : ZoneIx, s'.rotation.zones[z] =
        { rotation := [], cursor := -1, sting := none, stingPending := false, showing := none }) ∧
      (∀ id, s.rotation.onAir id = false → s'.rotation.spot id = s.rotation.spot id) ∧
      (∀ id p, s'.rotation.spot id = some p → s.rotation.spot id = some p) ∧
      (∀ id p, s.rotation.spot id = some p → p.withdrawing = false → s'.rotation.spot id = some p) ∧
      (∀ id p, s.rotation.spot id = some p → p.withdrawing = true → s.rotation.onAir id = true → s'.rotation.spot id = none) ∧
      s'.composer = { s.composer with
        live := s'.composer.live
        staged := s'.composer.staged
        applyRequest := false
        requestedMode := if s.composer.slate.isSome = true then .slateOnly else .black } ∧
      (let desc : ZoneDesc :=
        { enable := false, source := .fill, x := 0, y := 0, w := 0, h := 0, level := 0, leadIn := 0, guard := ⟨0, 0, 0⟩,
          param := .colour ⟨0, 0, 0⟩ }
      ∀ z : ZoneIx, s'.composer.live[z] = desc ∧ s'.composer.staged[z] = desc) ∧
      s'.roller = { s.roller with
        state := .idle
        showPlan := none
        lastEnd := if s.roller.state = .idle then s.roller.lastEnd else .restart } ∧
      s'.ticker = { s.ticker with waiting := [], showing := none, freeChunks := 128 } ∧
      s'.command.causes = { s.command.causes with restart := true } ∧
      (∀ f : Flag, f ≠ .logFull → s'.flagged f = s.flagged f) ∧
      (s'.flagged .logFull = (s.flagged .logFull || decide (logged < shown.length))) ∧
      s'.exposure.nextRecord = s.exposure.nextRecord + BitVec.ofNat 32 logged ∧
      (s.exposure.missed ≤ 65535 → s'.exposure.missed = min 65535 (s.exposure.missed + (shown.length - logged))) ∧
      s.memctl.queue <+: s'.memctl.queue ∧
      (OnAirExclusive s →
        s'.memctl.queue ++ s'.memctl.waitExposure = s.memctl.queue ++ s.memctl.waitExposure ++
          ((shown.take logged).zipIdx.map fun q =>
            let k := s.exposure.nextRecord + BitVec.ofNat 32 q.2
            let h := (s.rotation.zones[q.1]).showing
            recordWrite k (h.elim [] fun g =>
              proofRecord k q.1 .restart ((s.rotation.spot g.spotId).elim false fun p => p.saturated) s.clock.venue g))) ∧
      s' = { s with
              rotation := s'.rotation
              composer := s'.composer
              roller := s'.roller
              ticker := s'.ticker
              exposure := { s.exposure with nextRecord := s'.exposure.nextRecord, missed := s'.exposure.missed }
              memctl := { s.memctl with queue := s'.memctl.queue, waitExposure := s'.memctl.waitExposure }
              command := { s.command with causes := s'.command.causes, flags := s'.command.flags } }

/-- Decoding the slot that submits a command, under any tag, gives the command back with all its operands (Tables 11.1, 11.2). A command with a
list is one whose list holds exactly what its length field counts. -/
def Obligations.SlotRoundTrip : Prop :=
  ∀ (i : Instr) (slot : RingSlot) (kind tag : Half), i.exact = true → commandSlot i = some slot → commandKind i = some kind →
    decodeSlot slot (commandLines i) (slotImage kind tag (payloadBytes i)) = .command i

/-! ### Invariants that every step keeps -/

/-- Every step keeps both byte stores in their canonical form, and the part write queue within 64 entries, each of which lies in one aligned
64-byte block of the control area (R171); and it keeps a granted WRITE's bytes in memory until the SDRAM has served it (R166, R169; that they
are there from the grant on is the model's choice, notes/assumptions/32). -/
def Obligations.StepKeepsMemoryAndQueue : Prop :=
  (∀ s t : State, MemoryCanonical s → step s = .next t → MemoryCanonical t) ∧
  (∀ s t : State, QueueSound s → step s = .next t → QueueSound t) ∧
  (∀ s t : State, GrantSound s → step s = .next t → GrantSound t)

/-- Every step keeps the clocks, marks and horn in their ranges, the game clock ENDED exactly at its end value; the score record and the
flash counters in theirs; and at most 1,024 records unreleased (R67, R74, R76, R82, R100, R143). -/
def Obligations.StepKeepsUnitRanges : Prop :=
  (∀ s t : State, ClocksSound s → step s = .next t → ClocksSound t) ∧
  (∀ s t : State, ScoresInRange s → LogBounded s → step s = .next t → ScoresInRange t ∧ LogBounded t)

/-- Every step keeps message tags unique, chunks held and free together 128, and at most 32 messages (R147, R149). -/
def Obligations.StepKeepsPoolBalanced : Prop :=
  ∀ s t : State, PoolBalanced s → step s = .next t → PoolBalanced t

/-- Every step keeps each spot on air in at most one zone, and every spot on air defined (R127). -/
def Obligations.StepKeepsOnAirExclusive : Prop :=
  ∀ s t : State, OnAirExclusive s → step s = .next t → OnAirExclusive t

/-- Every step keeps the slot table, the show plan and the pins in agreement: one FILLING slot, no frame number twice, no more HELD than the hold
limit, every frame shown present, every pin counted (R21, R29, R33, R37, R46). -/
def Obligations.StepKeepsReplaySound : Prop :=
  ∀ s t : State, ReplaySound s → step s = .next t → ReplaySound t

/-- Every step keeps both plans such that they could be put on the screen (R3, R7). -/
def Obligations.StepKeepsPlansPlaceable : Prop :=
  ∀ s t : State, PlansPlaceable s → step s = .next t → PlansPlaceable t
end

