-- ==== Sys2Proof/Laws/State.lean ====
section
/-! SUPPORT. One lemma per field per named update of the state: which fields an update leaves alone. -/

namespace Sys2Proof.Machine

/-! ### State_raise -/

@[simp] theorem State_raise_pending (f : Flag) (s : State) : (s.raise f).pending = s.pending := rfl
@[simp] theorem State_raise_powerOns (f : Flag) (s : State) : (s.raise f).powerOns = s.powerOns := rfl
@[simp] theorem State_raise_phase (f : Flag) (s : State) : (s.raise f).phase = s.phase := rfl
@[simp] theorem State_raise_straps (f : Flag) (s : State) : (s.raise f).straps = s.straps := rfl
@[simp] theorem State_raise_timing (f : Flag) (s : State) : (s.raise f).timing = s.timing := rfl
@[simp] theorem State_raise_composer (f : Flag) (s : State) : (s.raise f).composer = s.composer := rfl
@[simp] theorem State_raise_panel (f : Flag) (s : State) : (s.raise f).panel = s.panel := rfl
@[simp] theorem State_raise_intake (f : Flag) (s : State) : (s.raise f).intake = s.intake := rfl
@[simp] theorem State_raise_roller (f : Flag) (s : State) : (s.raise f).roller = s.roller := rfl
@[simp] theorem State_raise_clock (f : Flag) (s : State) : (s.raise f).clock = s.clock := rfl
@[simp] theorem State_raise_console (f : Flag) (s : State) : (s.raise f).console = s.console := rfl
@[simp] theorem State_raise_score (f : Flag) (s : State) : (s.raise f).score = s.score := rfl
@[simp] theorem State_raise_rotation (f : Flag) (s : State) : (s.raise f).rotation = s.rotation := rfl
@[simp] theorem State_raise_exposure (f : Flag) (s : State) : (s.raise f).exposure = s.exposure := rfl
@[simp] theorem State_raise_ticker (f : Flag) (s : State) : (s.raise f).ticker = s.ticker := rfl
@[simp] theorem State_raise_memctl (f : Flag) (s : State) : (s.raise f).memctl = s.memctl := rfl
@[simp] theorem State_raise_port (f : Flag) (s : State) : (s.raise f).port = s.port := rfl
@[simp] theorem State_raise_mem (f : Flag) (s : State) : (s.raise f).mem = s.mem := rfl

/-! ### State_putByte -/

@[simp] theorem State_putByte_pending (a : Nat) (v : Byte) (s : State) : (s.putByte a v).pending = s.pending := rfl
@[simp] theorem State_putByte_powerOns (a : Nat) (v : Byte) (s : State) : (s.putByte a v).powerOns = s.powerOns := rfl
@[simp] theorem State_putByte_phase (a : Nat) (v : Byte) (s : State) : (s.putByte a v).phase = s.phase := rfl
@[simp] theorem State_putByte_straps (a : Nat) (v : Byte) (s : State) : (s.putByte a v).straps = s.straps := rfl
@[simp] theorem State_putByte_timing (a : Nat) (v : Byte) (s : State) : (s.putByte a v).timing = s.timing := rfl
@[simp] theorem State_putByte_composer (a : Nat) (v : Byte) (s : State) : (s.putByte a v).composer = s.composer := rfl
@[simp] theorem State_putByte_panel (a : Nat) (v : Byte) (s : State) : (s.putByte a v).panel = s.panel := rfl
@[simp] theorem State_putByte_intake (a : Nat) (v : Byte) (s : State) : (s.putByte a v).intake = s.intake := rfl
@[simp] theorem State_putByte_roller (a : Nat) (v : Byte) (s : State) : (s.putByte a v).roller = s.roller := rfl
@[simp] theorem State_putByte_clock (a : Nat) (v : Byte) (s : State) : (s.putByte a v).clock = s.clock := rfl
@[simp] theorem State_putByte_console (a : Nat) (v : Byte) (s : State) : (s.putByte a v).console = s.console := rfl
@[simp] theorem State_putByte_score (a : Nat) (v : Byte) (s : State) : (s.putByte a v).score = s.score := rfl
@[simp] theorem State_putByte_rotation (a : Nat) (v : Byte) (s : State) : (s.putByte a v).rotation = s.rotation := rfl
@[simp] theorem State_putByte_exposure (a : Nat) (v : Byte) (s : State) : (s.putByte a v).exposure = s.exposure := rfl
@[simp] theorem State_putByte_ticker (a : Nat) (v : Byte) (s : State) : (s.putByte a v).ticker = s.ticker := rfl
@[simp] theorem State_putByte_command (a : Nat) (v : Byte) (s : State) : (s.putByte a v).command = s.command := rfl
@[simp] theorem State_putByte_memctl (a : Nat) (v : Byte) (s : State) : (s.putByte a v).memctl = s.memctl := rfl
@[simp] theorem State_putByte_port (a : Nat) (v : Byte) (s : State) : (s.putByte a v).port = s.port := rfl

/-! ### State_putShadow -/

@[simp] theorem State_putShadow_pending (o : Nat) (v : Byte) (s : State) : (s.putShadow o v).pending = s.pending := rfl
@[simp] theorem State_putShadow_powerOns (o : Nat) (v : Byte) (s : State) : (s.putShadow o v).powerOns = s.powerOns := rfl
@[simp] theorem State_putShadow_phase (o : Nat) (v : Byte) (s : State) : (s.putShadow o v).phase = s.phase := rfl
@[simp] theorem State_putShadow_straps (o : Nat) (v : Byte) (s : State) : (s.putShadow o v).straps = s.straps := rfl
@[simp] theorem State_putShadow_timing (o : Nat) (v : Byte) (s : State) : (s.putShadow o v).timing = s.timing := rfl
@[simp] theorem State_putShadow_composer (o : Nat) (v : Byte) (s : State) : (s.putShadow o v).composer = s.composer := rfl
@[simp] theorem State_putShadow_panel (o : Nat) (v : Byte) (s : State) : (s.putShadow o v).panel = s.panel := rfl
@[simp] theorem State_putShadow_intake (o : Nat) (v : Byte) (s : State) : (s.putShadow o v).intake = s.intake := rfl
@[simp] theorem State_putShadow_roller (o : Nat) (v : Byte) (s : State) : (s.putShadow o v).roller = s.roller := rfl
@[simp] theorem State_putShadow_clock (o : Nat) (v : Byte) (s : State) : (s.putShadow o v).clock = s.clock := rfl
@[simp] theorem State_putShadow_console (o : Nat) (v : Byte) (s : State) : (s.putShadow o v).console = s.console := rfl
@[simp] theorem State_putShadow_score (o : Nat) (v : Byte) (s : State) : (s.putShadow o v).score = s.score := rfl
@[simp] theorem State_putShadow_rotation (o : Nat) (v : Byte) (s : State) : (s.putShadow o v).rotation = s.rotation := rfl
@[simp] theorem State_putShadow_exposure (o : Nat) (v : Byte) (s : State) : (s.putShadow o v).exposure = s.exposure := rfl
@[simp] theorem State_putShadow_ticker (o : Nat) (v : Byte) (s : State) : (s.putShadow o v).ticker = s.ticker := rfl
@[simp] theorem State_putShadow_memctl (o : Nat) (v : Byte) (s : State) : (s.putShadow o v).memctl = s.memctl := rfl
@[simp] theorem State_putShadow_port (o : Nat) (v : Byte) (s : State) : (s.putShadow o v).port = s.port := rfl
@[simp] theorem State_putShadow_mem (o : Nat) (v : Byte) (s : State) : (s.putShadow o v).mem = s.mem := rfl

/-! ### setTransaction -/

@[simp] theorem setTransaction_pending (t : Option HostTransaction) (s : State) : (setTransaction t s).pending = s.pending := rfl
@[simp] theorem setTransaction_powerOns (t : Option HostTransaction) (s : State) : (setTransaction t s).powerOns = s.powerOns := rfl
@[simp] theorem setTransaction_phase (t : Option HostTransaction) (s : State) : (setTransaction t s).phase = s.phase := rfl
@[simp] theorem setTransaction_straps (t : Option HostTransaction) (s : State) : (setTransaction t s).straps = s.straps := rfl
@[simp] theorem setTransaction_timing (t : Option HostTransaction) (s : State) : (setTransaction t s).timing = s.timing := rfl
@[simp] theorem setTransaction_composer (t : Option HostTransaction) (s : State) : (setTransaction t s).composer = s.composer := rfl
@[simp] theorem setTransaction_panel (t : Option HostTransaction) (s : State) : (setTransaction t s).panel = s.panel := rfl
@[simp] theorem setTransaction_intake (t : Option HostTransaction) (s : State) : (setTransaction t s).intake = s.intake := rfl
@[simp] theorem setTransaction_roller (t : Option HostTransaction) (s : State) : (setTransaction t s).roller = s.roller := rfl
@[simp] theorem setTransaction_clock (t : Option HostTransaction) (s : State) : (setTransaction t s).clock = s.clock := rfl
@[simp] theorem setTransaction_console (t : Option HostTransaction) (s : State) : (setTransaction t s).console = s.console := rfl
@[simp] theorem setTransaction_score (t : Option HostTransaction) (s : State) : (setTransaction t s).score = s.score := rfl
@[simp] theorem setTransaction_rotation (t : Option HostTransaction) (s : State) : (setTransaction t s).rotation = s.rotation := rfl
@[simp] theorem setTransaction_exposure (t : Option HostTransaction) (s : State) : (setTransaction t s).exposure = s.exposure := rfl
@[simp] theorem setTransaction_ticker (t : Option HostTransaction) (s : State) : (setTransaction t s).ticker = s.ticker := rfl
@[simp] theorem setTransaction_command (t : Option HostTransaction) (s : State) : (setTransaction t s).command = s.command := rfl
@[simp] theorem setTransaction_memctl (t : Option HostTransaction) (s : State) : (setTransaction t s).memctl = s.memctl := rfl
@[simp] theorem setTransaction_mem (t : Option HostTransaction) (s : State) : (setTransaction t s).mem = s.mem := rfl

/-! ### setTrailer -/

@[simp] theorem setTrailer_pending (t : Vector Byte 32) (s : State) : (setTrailer t s).pending = s.pending := rfl
@[simp] theorem setTrailer_powerOns (t : Vector Byte 32) (s : State) : (setTrailer t s).powerOns = s.powerOns := rfl
@[simp] theorem setTrailer_phase (t : Vector Byte 32) (s : State) : (setTrailer t s).phase = s.phase := rfl
@[simp] theorem setTrailer_straps (t : Vector Byte 32) (s : State) : (setTrailer t s).straps = s.straps := rfl
@[simp] theorem setTrailer_timing (t : Vector Byte 32) (s : State) : (setTrailer t s).timing = s.timing := rfl
@[simp] theorem setTrailer_composer (t : Vector Byte 32) (s : State) : (setTrailer t s).composer = s.composer := rfl
@[simp] theorem setTrailer_panel (t : Vector Byte 32) (s : State) : (setTrailer t s).panel = s.panel := rfl
@[simp] theorem setTrailer_roller (t : Vector Byte 32) (s : State) : (setTrailer t s).roller = s.roller := rfl
@[simp] theorem setTrailer_clock (t : Vector Byte 32) (s : State) : (setTrailer t s).clock = s.clock := rfl
@[simp] theorem setTrailer_console (t : Vector Byte 32) (s : State) : (setTrailer t s).console = s.console := rfl
@[simp] theorem setTrailer_score (t : Vector Byte 32) (s : State) : (setTrailer t s).score = s.score := rfl
@[simp] theorem setTrailer_rotation (t : Vector Byte 32) (s : State) : (setTrailer t s).rotation = s.rotation := rfl
@[simp] theorem setTrailer_exposure (t : Vector Byte 32) (s : State) : (setTrailer t s).exposure = s.exposure := rfl
@[simp] theorem setTrailer_ticker (t : Vector Byte 32) (s : State) : (setTrailer t s).ticker = s.ticker := rfl
@[simp] theorem setTrailer_command (t : Vector Byte 32) (s : State) : (setTrailer t s).command = s.command := rfl
@[simp] theorem setTrailer_memctl (t : Vector Byte 32) (s : State) : (setTrailer t s).memctl = s.memctl := rfl
@[simp] theorem setTrailer_port (t : Vector Byte 32) (s : State) : (setTrailer t s).port = s.port := rfl
@[simp] theorem setTrailer_mem (t : Vector Byte 32) (s : State) : (setTrailer t s).mem = s.mem := rfl

/-! ### setShowing -/

@[simp] theorem setShowing_pending (x : Option ShowingEntry) (s : State) : (setShowing x s).pending = s.pending := rfl
@[simp] theorem setShowing_powerOns (x : Option ShowingEntry) (s : State) : (setShowing x s).powerOns = s.powerOns := rfl
@[simp] theorem setShowing_phase (x : Option ShowingEntry) (s : State) : (setShowing x s).phase = s.phase := rfl
@[simp] theorem setShowing_straps (x : Option ShowingEntry) (s : State) : (setShowing x s).straps = s.straps := rfl
@[simp] theorem setShowing_timing (x : Option ShowingEntry) (s : State) : (setShowing x s).timing = s.timing := rfl
@[simp] theorem setShowing_composer (x : Option ShowingEntry) (s : State) : (setShowing x s).composer = s.composer := rfl
@[simp] theorem setShowing_panel (x : Option ShowingEntry) (s : State) : (setShowing x s).panel = s.panel := rfl
@[simp] theorem setShowing_intake (x : Option ShowingEntry) (s : State) : (setShowing x s).intake = s.intake := rfl
@[simp] theorem setShowing_roller (x : Option ShowingEntry) (s : State) : (setShowing x s).roller = s.roller := rfl
@[simp] theorem setShowing_clock (x : Option ShowingEntry) (s : State) : (setShowing x s).clock = s.clock := rfl
@[simp] theorem setShowing_console (x : Option ShowingEntry) (s : State) : (setShowing x s).console = s.console := rfl
@[simp] theorem setShowing_score (x : Option ShowingEntry) (s : State) : (setShowing x s).score = s.score := rfl
@[simp] theorem setShowing_rotation (x : Option ShowingEntry) (s : State) : (setShowing x s).rotation = s.rotation := rfl
@[simp] theorem setShowing_exposure (x : Option ShowingEntry) (s : State) : (setShowing x s).exposure = s.exposure := rfl
@[simp] theorem setShowing_command (x : Option ShowingEntry) (s : State) : (setShowing x s).command = s.command := rfl
@[simp] theorem setShowing_memctl (x : Option ShowingEntry) (s : State) : (setShowing x s).memctl = s.memctl := rfl
@[simp] theorem setShowing_port (x : Option ShowingEntry) (s : State) : (setShowing x s).port = s.port := rfl
@[simp] theorem setShowing_mem (x : Option ShowingEntry) (s : State) : (setShowing x s).mem = s.mem := rfl

/-! ### setLineState -/

@[simp] theorem setLineState_pending (n : Fin 8) (l : ConsoleLine) (s : State) : (setLineState n l s).pending = s.pending := rfl
@[simp] theorem setLineState_powerOns (n : Fin 8) (l : ConsoleLine) (s : State) : (setLineState n l s).powerOns = s.powerOns := rfl
@[simp] theorem setLineState_phase (n : Fin 8) (l : ConsoleLine) (s : State) : (setLineState n l s).phase = s.phase := rfl
@[simp] theorem setLineState_straps (n : Fin 8) (l : ConsoleLine) (s : State) : (setLineState n l s).straps = s.straps := rfl
@[simp] theorem setLineState_timing (n : Fin 8) (l : ConsoleLine) (s : State) : (setLineState n l s).timing = s.timing := rfl
@[simp] theorem setLineState_composer (n : Fin 8) (l : ConsoleLine) (s : State) : (setLineState n l s).composer = s.composer := rfl
@[simp] theorem setLineState_panel (n : Fin 8) (l : ConsoleLine) (s : State) : (setLineState n l s).panel = s.panel := rfl
@[simp] theorem setLineState_intake (n : Fin 8) (l : ConsoleLine) (s : State) : (setLineState n l s).intake = s.intake := rfl
@[simp] theorem setLineState_roller (n : Fin 8) (l : ConsoleLine) (s : State) : (setLineState n l s).roller = s.roller := rfl
@[simp] theorem setLineState_clock (n : Fin 8) (l : ConsoleLine) (s : State) : (setLineState n l s).clock = s.clock := rfl
@[simp] theorem setLineState_score (n : Fin 8) (l : ConsoleLine) (s : State) : (setLineState n l s).score = s.score := rfl
@[simp] theorem setLineState_rotation (n : Fin 8) (l : ConsoleLine) (s : State) : (setLineState n l s).rotation = s.rotation := rfl
@[simp] theorem setLineState_exposure (n : Fin 8) (l : ConsoleLine) (s : State) : (setLineState n l s).exposure = s.exposure := rfl
@[simp] theorem setLineState_ticker (n : Fin 8) (l : ConsoleLine) (s : State) : (setLineState n l s).ticker = s.ticker := rfl
@[simp] theorem setLineState_command (n : Fin 8) (l : ConsoleLine) (s : State) : (setLineState n l s).command = s.command := rfl
@[simp] theorem setLineState_memctl (n : Fin 8) (l : ConsoleLine) (s : State) : (setLineState n l s).memctl = s.memctl := rfl
@[simp] theorem setLineState_port (n : Fin 8) (l : ConsoleLine) (s : State) : (setLineState n l s).port = s.port := rfl
@[simp] theorem setLineState_mem (n : Fin 8) (l : ConsoleLine) (s : State) : (setLineState n l s).mem = s.mem := rfl

/-! ### setShotState -/

@[simp] theorem setShotState_pending (x : ShotState) (s : State) : (setShotState x s).pending = s.pending := rfl
@[simp] theorem setShotState_powerOns (x : ShotState) (s : State) : (setShotState x s).powerOns = s.powerOns := rfl
@[simp] theorem setShotState_phase (x : ShotState) (s : State) : (setShotState x s).phase = s.phase := rfl
@[simp] theorem setShotState_straps (x : ShotState) (s : State) : (setShotState x s).straps = s.straps := rfl
@[simp] theorem setShotState_timing (x : ShotState) (s : State) : (setShotState x s).timing = s.timing := rfl
@[simp] theorem setShotState_composer (x : ShotState) (s : State) : (setShotState x s).composer = s.composer := rfl
@[simp] theorem setShotState_panel (x : ShotState) (s : State) : (setShotState x s).panel = s.panel := rfl
@[simp] theorem setShotState_intake (x : ShotState) (s : State) : (setShotState x s).intake = s.intake := rfl
@[simp] theorem setShotState_roller (x : ShotState) (s : State) : (setShotState x s).roller = s.roller := rfl
@[simp] theorem setShotState_console (x : ShotState) (s : State) : (setShotState x s).console = s.console := rfl
@[simp] theorem setShotState_score (x : ShotState) (s : State) : (setShotState x s).score = s.score := rfl
@[simp] theorem setShotState_rotation (x : ShotState) (s : State) : (setShotState x s).rotation = s.rotation := rfl
@[simp] theorem setShotState_exposure (x : ShotState) (s : State) : (setShotState x s).exposure = s.exposure := rfl
@[simp] theorem setShotState_ticker (x : ShotState) (s : State) : (setShotState x s).ticker = s.ticker := rfl
@[simp] theorem setShotState_command (x : ShotState) (s : State) : (setShotState x s).command = s.command := rfl
@[simp] theorem setShotState_memctl (x : ShotState) (s : State) : (setShotState x s).memctl = s.memctl := rfl
@[simp] theorem setShotState_port (x : ShotState) (s : State) : (setShotState x s).port = s.port := rfl
@[simp] theorem setShotState_mem (x : ShotState) (s : State) : (setShotState x s).mem = s.mem := rfl

/-! ### stageDescriptor -/

@[simp] theorem stageDescriptor_pending (z : ZoneIx) (d : ZoneDesc) (s : State) : (stageDescriptor z d s).pending = s.pending := rfl
@[simp] theorem stageDescriptor_powerOns (z : ZoneIx) (d : ZoneDesc) (s : State) : (stageDescriptor z d s).powerOns = s.powerOns := rfl
@[simp] theorem stageDescriptor_phase (z : ZoneIx) (d : ZoneDesc) (s : State) : (stageDescriptor z d s).phase = s.phase := rfl
@[simp] theorem stageDescriptor_straps (z : ZoneIx) (d : ZoneDesc) (s : State) : (stageDescriptor z d s).straps = s.straps := rfl
@[simp] theorem stageDescriptor_timing (z : ZoneIx) (d : ZoneDesc) (s : State) : (stageDescriptor z d s).timing = s.timing := rfl
@[simp] theorem stageDescriptor_panel (z : ZoneIx) (d : ZoneDesc) (s : State) : (stageDescriptor z d s).panel = s.panel := rfl
@[simp] theorem stageDescriptor_intake (z : ZoneIx) (d : ZoneDesc) (s : State) : (stageDescriptor z d s).intake = s.intake := rfl
@[simp] theorem stageDescriptor_roller (z : ZoneIx) (d : ZoneDesc) (s : State) : (stageDescriptor z d s).roller = s.roller := rfl
@[simp] theorem stageDescriptor_clock (z : ZoneIx) (d : ZoneDesc) (s : State) : (stageDescriptor z d s).clock = s.clock := rfl
@[simp] theorem stageDescriptor_console (z : ZoneIx) (d : ZoneDesc) (s : State) : (stageDescriptor z d s).console = s.console := rfl
@[simp] theorem stageDescriptor_score (z : ZoneIx) (d : ZoneDesc) (s : State) : (stageDescriptor z d s).score = s.score := rfl
@[simp] theorem stageDescriptor_rotation (z : ZoneIx) (d : ZoneDesc) (s : State) : (stageDescriptor z d s).rotation = s.rotation := rfl
@[simp] theorem stageDescriptor_exposure (z : ZoneIx) (d : ZoneDesc) (s : State) : (stageDescriptor z d s).exposure = s.exposure := rfl
@[simp] theorem stageDescriptor_ticker (z : ZoneIx) (d : ZoneDesc) (s : State) : (stageDescriptor z d s).ticker = s.ticker := rfl
@[simp] theorem stageDescriptor_command (z : ZoneIx) (d : ZoneDesc) (s : State) : (stageDescriptor z d s).command = s.command := rfl
@[simp] theorem stageDescriptor_memctl (z : ZoneIx) (d : ZoneDesc) (s : State) : (stageDescriptor z d s).memctl = s.memctl := rfl
@[simp] theorem stageDescriptor_port (z : ZoneIx) (d : ZoneDesc) (s : State) : (stageDescriptor z d s).port = s.port := rfl
@[simp] theorem stageDescriptor_mem (z : ZoneIx) (d : ZoneDesc) (s : State) : (stageDescriptor z d s).mem = s.mem := rfl

/-! ### clearAccess -/

@[simp] theorem clearAccess_pending (s : State) : (clearAccess s).pending = s.pending := rfl
@[simp] theorem clearAccess_powerOns (s : State) : (clearAccess s).powerOns = s.powerOns := rfl
@[simp] theorem clearAccess_phase (s : State) : (clearAccess s).phase = s.phase := rfl
@[simp] theorem clearAccess_straps (s : State) : (clearAccess s).straps = s.straps := rfl
@[simp] theorem clearAccess_timing (s : State) : (clearAccess s).timing = s.timing := rfl
@[simp] theorem clearAccess_composer (s : State) : (clearAccess s).composer = s.composer := rfl
@[simp] theorem clearAccess_panel (s : State) : (clearAccess s).panel = s.panel := rfl
@[simp] theorem clearAccess_intake (s : State) : (clearAccess s).intake = s.intake := rfl
@[simp] theorem clearAccess_roller (s : State) : (clearAccess s).roller = s.roller := rfl
@[simp] theorem clearAccess_clock (s : State) : (clearAccess s).clock = s.clock := rfl
@[simp] theorem clearAccess_console (s : State) : (clearAccess s).console = s.console := rfl
@[simp] theorem clearAccess_score (s : State) : (clearAccess s).score = s.score := rfl
@[simp] theorem clearAccess_rotation (s : State) : (clearAccess s).rotation = s.rotation := rfl
@[simp] theorem clearAccess_exposure (s : State) : (clearAccess s).exposure = s.exposure := rfl
@[simp] theorem clearAccess_ticker (s : State) : (clearAccess s).ticker = s.ticker := rfl
@[simp] theorem clearAccess_command (s : State) : (clearAccess s).command = s.command := rfl
@[simp] theorem clearAccess_port (s : State) : (clearAccess s).port = s.port := rfl
@[simp] theorem clearAccess_mem (s : State) : (clearAccess s).mem = s.mem := rfl

/-! ### sendBlocks -/

@[simp] theorem sendBlocks_pending (n : Nat) (s : State) : (sendBlocks n s).pending = s.pending := rfl
@[simp] theorem sendBlocks_powerOns (n : Nat) (s : State) : (sendBlocks n s).powerOns = s.powerOns := rfl
@[simp] theorem sendBlocks_phase (n : Nat) (s : State) : (sendBlocks n s).phase = s.phase := rfl
@[simp] theorem sendBlocks_straps (n : Nat) (s : State) : (sendBlocks n s).straps = s.straps := rfl
@[simp] theorem sendBlocks_timing (n : Nat) (s : State) : (sendBlocks n s).timing = s.timing := rfl
@[simp] theorem sendBlocks_composer (n : Nat) (s : State) : (sendBlocks n s).composer = s.composer := rfl
@[simp] theorem sendBlocks_intake (n : Nat) (s : State) : (sendBlocks n s).intake = s.intake := rfl
@[simp] theorem sendBlocks_roller (n : Nat) (s : State) : (sendBlocks n s).roller = s.roller := rfl
@[simp] theorem sendBlocks_clock (n : Nat) (s : State) : (sendBlocks n s).clock = s.clock := rfl
@[simp] theorem sendBlocks_console (n : Nat) (s : State) : (sendBlocks n s).console = s.console := rfl
@[simp] theorem sendBlocks_score (n : Nat) (s : State) : (sendBlocks n s).score = s.score := rfl
@[simp] theorem sendBlocks_rotation (n : Nat) (s : State) : (sendBlocks n s).rotation = s.rotation := rfl
@[simp] theorem sendBlocks_exposure (n : Nat) (s : State) : (sendBlocks n s).exposure = s.exposure := rfl
@[simp] theorem sendBlocks_ticker (n : Nat) (s : State) : (sendBlocks n s).ticker = s.ticker := rfl
@[simp] theorem sendBlocks_command (n : Nat) (s : State) : (sendBlocks n s).command = s.command := rfl
@[simp] theorem sendBlocks_memctl (n : Nat) (s : State) : (sendBlocks n s).memctl = s.memctl := rfl
@[simp] theorem sendBlocks_port (n : Nat) (s : State) : (sendBlocks n s).port = s.port := rfl
@[simp] theorem sendBlocks_mem (n : Nat) (s : State) : (sendBlocks n s).mem = s.mem := rfl

/-! ### finishCommand -/

@[simp] theorem finishCommand_pending (slot : RingSlot) (r : Result) (s : State) : (finishCommand slot r s).pending = s.pending := rfl
@[simp] theorem finishCommand_powerOns (slot : RingSlot) (r : Result) (s : State) : (finishCommand slot r s).powerOns = s.powerOns := rfl
@[simp] theorem finishCommand_phase (slot : RingSlot) (r : Result) (s : State) : (finishCommand slot r s).phase = s.phase := rfl
@[simp] theorem finishCommand_straps (slot : RingSlot) (r : Result) (s : State) : (finishCommand slot r s).straps = s.straps := rfl
@[simp] theorem finishCommand_timing (slot : RingSlot) (r : Result) (s : State) : (finishCommand slot r s).timing = s.timing := rfl
@[simp] theorem finishCommand_composer (slot : RingSlot) (r : Result) (s : State) : (finishCommand slot r s).composer = s.composer := rfl
@[simp] theorem finishCommand_panel (slot : RingSlot) (r : Result) (s : State) : (finishCommand slot r s).panel = s.panel := rfl
@[simp] theorem finishCommand_intake (slot : RingSlot) (r : Result) (s : State) : (finishCommand slot r s).intake = s.intake := rfl
@[simp] theorem finishCommand_roller (slot : RingSlot) (r : Result) (s : State) : (finishCommand slot r s).roller = s.roller := rfl
@[simp] theorem finishCommand_clock (slot : RingSlot) (r : Result) (s : State) : (finishCommand slot r s).clock = s.clock := rfl
@[simp] theorem finishCommand_console (slot : RingSlot) (r : Result) (s : State) : (finishCommand slot r s).console = s.console := rfl
@[simp] theorem finishCommand_score (slot : RingSlot) (r : Result) (s : State) : (finishCommand slot r s).score = s.score := rfl
@[simp] theorem finishCommand_rotation (slot : RingSlot) (r : Result) (s : State) : (finishCommand slot r s).rotation = s.rotation := rfl
@[simp] theorem finishCommand_exposure (slot : RingSlot) (r : Result) (s : State) : (finishCommand slot r s).exposure = s.exposure := rfl
@[simp] theorem finishCommand_ticker (slot : RingSlot) (r : Result) (s : State) : (finishCommand slot r s).ticker = s.ticker := rfl
@[simp] theorem finishCommand_port (slot : RingSlot) (r : Result) (s : State) : (finishCommand slot r s).port = s.port := rfl
@[simp] theorem finishCommand_mem (slot : RingSlot) (r : Result) (s : State) : (finishCommand slot r s).mem = s.mem := rfl

/-! ### withPending -/

@[simp] theorem withPending_powerOns (s : State) (q : List Instr) : (s.withPending q).powerOns = s.powerOns := rfl
@[simp] theorem withPending_phase (s : State) (q : List Instr) : (s.withPending q).phase = s.phase := rfl
@[simp] theorem withPending_straps (s : State) (q : List Instr) : (s.withPending q).straps = s.straps := rfl
@[simp] theorem withPending_timing (s : State) (q : List Instr) : (s.withPending q).timing = s.timing := rfl
@[simp] theorem withPending_composer (s : State) (q : List Instr) : (s.withPending q).composer = s.composer := rfl
@[simp] theorem withPending_panel (s : State) (q : List Instr) : (s.withPending q).panel = s.panel := rfl
@[simp] theorem withPending_intake (s : State) (q : List Instr) : (s.withPending q).intake = s.intake := rfl
@[simp] theorem withPending_roller (s : State) (q : List Instr) : (s.withPending q).roller = s.roller := rfl
@[simp] theorem withPending_clock (s : State) (q : List Instr) : (s.withPending q).clock = s.clock := rfl
@[simp] theorem withPending_console (s : State) (q : List Instr) : (s.withPending q).console = s.console := rfl
@[simp] theorem withPending_score (s : State) (q : List Instr) : (s.withPending q).score = s.score := rfl
@[simp] theorem withPending_rotation (s : State) (q : List Instr) : (s.withPending q).rotation = s.rotation := rfl
@[simp] theorem withPending_exposure (s : State) (q : List Instr) : (s.withPending q).exposure = s.exposure := rfl
@[simp] theorem withPending_ticker (s : State) (q : List Instr) : (s.withPending q).ticker = s.ticker := rfl
@[simp] theorem withPending_command (s : State) (q : List Instr) : (s.withPending q).command = s.command := rfl
@[simp] theorem withPending_memctl (s : State) (q : List Instr) : (s.withPending q).memctl = s.memctl := rfl
@[simp] theorem withPending_port (s : State) (q : List Instr) : (s.withPending q).port = s.port := rfl
@[simp] theorem withPending_mem (s : State) (q : List Instr) : (s.withPending q).mem = s.mem := rfl

/-! ### scoreRise -/

@[simp] theorem scoreRise_pending (s : State) : (scoreRise s).pending = s.pending := by simp only [scoreRise]
@[simp] theorem scoreRise_powerOns (s : State) : (scoreRise s).powerOns = s.powerOns := by simp only [scoreRise]
@[simp] theorem scoreRise_phase (s : State) : (scoreRise s).phase = s.phase := by simp only [scoreRise]
@[simp] theorem scoreRise_straps (s : State) : (scoreRise s).straps = s.straps := by simp only [scoreRise]
@[simp] theorem scoreRise_timing (s : State) : (scoreRise s).timing = s.timing := by simp only [scoreRise]
@[simp] theorem scoreRise_composer (s : State) : (scoreRise s).composer = s.composer := by simp only [scoreRise]
@[simp] theorem scoreRise_panel (s : State) : (scoreRise s).panel = s.panel := by simp only [scoreRise]
@[simp] theorem scoreRise_intake (s : State) : (scoreRise s).intake = s.intake := by simp only [scoreRise]
@[simp] theorem scoreRise_roller (s : State) : (scoreRise s).roller = s.roller := by simp only [scoreRise]
@[simp] theorem scoreRise_clock (s : State) : (scoreRise s).clock = s.clock := by simp only [scoreRise]
@[simp] theorem scoreRise_console (s : State) : (scoreRise s).console = s.console := by simp only [scoreRise]
@[simp] theorem scoreRise_score (s : State) : (scoreRise s).score = s.score := by simp only [scoreRise]
@[simp] theorem scoreRise_exposure (s : State) : (scoreRise s).exposure = s.exposure := by simp only [scoreRise]
@[simp] theorem scoreRise_ticker (s : State) : (scoreRise s).ticker = s.ticker := by simp only [scoreRise]
@[simp] theorem scoreRise_command (s : State) : (scoreRise s).command = s.command := by simp only [scoreRise]
@[simp] theorem scoreRise_memctl (s : State) : (scoreRise s).memctl = s.memctl := by simp only [scoreRise]
@[simp] theorem scoreRise_port (s : State) : (scoreRise s).port = s.port := by simp only [scoreRise]
@[simp] theorem scoreRise_mem (s : State) : (scoreRise s).mem = s.mem := by simp only [scoreRise]

/-! ### closeScan -/

@[simp] theorem closeScan_pending (s : State) : (closeScan s).pending = s.pending := rfl
@[simp] theorem closeScan_powerOns (s : State) : (closeScan s).powerOns = s.powerOns := rfl
@[simp] theorem closeScan_phase (s : State) : (closeScan s).phase = s.phase := rfl
@[simp] theorem closeScan_straps (s : State) : (closeScan s).straps = s.straps := rfl
@[simp] theorem closeScan_composer (s : State) : (closeScan s).composer = s.composer := rfl
@[simp] theorem closeScan_intake (s : State) : (closeScan s).intake = s.intake := rfl
@[simp] theorem closeScan_roller (s : State) : (closeScan s).roller = s.roller := rfl
@[simp] theorem closeScan_clock (s : State) : (closeScan s).clock = s.clock := rfl
@[simp] theorem closeScan_console (s : State) : (closeScan s).console = s.console := rfl
@[simp] theorem closeScan_rotation (s : State) : (closeScan s).rotation = s.rotation := rfl
@[simp] theorem closeScan_exposure (s : State) : (closeScan s).exposure = s.exposure := rfl
@[simp] theorem closeScan_ticker (s : State) : (closeScan s).ticker = s.ticker := rfl
@[simp] theorem closeScan_command (s : State) : (closeScan s).command = s.command := rfl
@[simp] theorem closeScan_memctl (s : State) : (closeScan s).memctl = s.memctl := rfl
@[simp] theorem closeScan_port (s : State) : (closeScan s).port = s.port := rfl
@[simp] theorem closeScan_mem (s : State) : (closeScan s).mem = s.mem := rfl

/-! ### noteRemoval -/

@[simp] theorem noteRemoval_pending (e : TickerEntry) (r : RemovalReason) (s : State) : (noteRemoval e r s).pending = s.pending := rfl
@[simp] theorem noteRemoval_powerOns (e : TickerEntry) (r : RemovalReason) (s : State) : (noteRemoval e r s).powerOns = s.powerOns := rfl
@[simp] theorem noteRemoval_phase (e : TickerEntry) (r : RemovalReason) (s : State) : (noteRemoval e r s).phase = s.phase := rfl
@[simp] theorem noteRemoval_straps (e : TickerEntry) (r : RemovalReason) (s : State) : (noteRemoval e r s).straps = s.straps := rfl
@[simp] theorem noteRemoval_timing (e : TickerEntry) (r : RemovalReason) (s : State) : (noteRemoval e r s).timing = s.timing := rfl
@[simp] theorem noteRemoval_composer (e : TickerEntry) (r : RemovalReason) (s : State) : (noteRemoval e r s).composer = s.composer := rfl
@[simp] theorem noteRemoval_panel (e : TickerEntry) (r : RemovalReason) (s : State) : (noteRemoval e r s).panel = s.panel := rfl
@[simp] theorem noteRemoval_intake (e : TickerEntry) (r : RemovalReason) (s : State) : (noteRemoval e r s).intake = s.intake := rfl
@[simp] theorem noteRemoval_roller (e : TickerEntry) (r : RemovalReason) (s : State) : (noteRemoval e r s).roller = s.roller := rfl
@[simp] theorem noteRemoval_clock (e : TickerEntry) (r : RemovalReason) (s : State) : (noteRemoval e r s).clock = s.clock := rfl
@[simp] theorem noteRemoval_console (e : TickerEntry) (r : RemovalReason) (s : State) : (noteRemoval e r s).console = s.console := rfl
@[simp] theorem noteRemoval_score (e : TickerEntry) (r : RemovalReason) (s : State) : (noteRemoval e r s).score = s.score := rfl
@[simp] theorem noteRemoval_rotation (e : TickerEntry) (r : RemovalReason) (s : State) : (noteRemoval e r s).rotation = s.rotation := rfl
@[simp] theorem noteRemoval_exposure (e : TickerEntry) (r : RemovalReason) (s : State) : (noteRemoval e r s).exposure = s.exposure := rfl
@[simp] theorem noteRemoval_memctl (e : TickerEntry) (r : RemovalReason) (s : State) : (noteRemoval e r s).memctl = s.memctl := rfl
@[simp] theorem noteRemoval_port (e : TickerEntry) (r : RemovalReason) (s : State) : (noteRemoval e r s).port = s.port := rfl
@[simp] theorem noteRemoval_mem (e : TickerEntry) (r : RemovalReason) (s : State) : (noteRemoval e r s).mem = s.mem := rfl

/-! ### beginStartUp -/

@[simp] theorem beginStartUp_pending (x : Straps) (s : State) : (beginStartUp x s).pending = s.pending := rfl
@[simp] theorem beginStartUp_powerOns (x : Straps) (s : State) : (beginStartUp x s).powerOns = s.powerOns := rfl
@[simp] theorem beginStartUp_timing (x : Straps) (s : State) : (beginStartUp x s).timing = s.timing := rfl
@[simp] theorem beginStartUp_composer (x : Straps) (s : State) : (beginStartUp x s).composer = s.composer := rfl
@[simp] theorem beginStartUp_panel (x : Straps) (s : State) : (beginStartUp x s).panel = s.panel := rfl
@[simp] theorem beginStartUp_intake (x : Straps) (s : State) : (beginStartUp x s).intake = s.intake := rfl
@[simp] theorem beginStartUp_roller (x : Straps) (s : State) : (beginStartUp x s).roller = s.roller := rfl
@[simp] theorem beginStartUp_clock (x : Straps) (s : State) : (beginStartUp x s).clock = s.clock := rfl
@[simp] theorem beginStartUp_console (x : Straps) (s : State) : (beginStartUp x s).console = s.console := rfl
@[simp] theorem beginStartUp_score (x : Straps) (s : State) : (beginStartUp x s).score = s.score := rfl
@[simp] theorem beginStartUp_rotation (x : Straps) (s : State) : (beginStartUp x s).rotation = s.rotation := rfl
@[simp] theorem beginStartUp_exposure (x : Straps) (s : State) : (beginStartUp x s).exposure = s.exposure := rfl
@[simp] theorem beginStartUp_ticker (x : Straps) (s : State) : (beginStartUp x s).ticker = s.ticker := rfl
@[simp] theorem beginStartUp_command (x : Straps) (s : State) : (beginStartUp x s).command = s.command := rfl
@[simp] theorem beginStartUp_memctl (x : Straps) (s : State) : (beginStartUp x s).memctl = s.memctl := rfl
@[simp] theorem beginStartUp_port (x : Straps) (s : State) : (beginStartUp x s).port = s.port := rfl
@[simp] theorem beginStartUp_mem (x : Straps) (s : State) : (beginStartUp x s).mem = s.mem := rfl

/-! ### addResetLine -/

@[simp] theorem addResetLine_pending (s : State) : (addResetLine s).pending = s.pending := rfl
@[simp] theorem addResetLine_powerOns (s : State) : (addResetLine s).powerOns = s.powerOns := rfl
@[simp] theorem addResetLine_phase (s : State) : (addResetLine s).phase = s.phase := rfl
@[simp] theorem addResetLine_straps (s : State) : (addResetLine s).straps = s.straps := rfl
@[simp] theorem addResetLine_timing (s : State) : (addResetLine s).timing = s.timing := rfl
@[simp] theorem addResetLine_composer (s : State) : (addResetLine s).composer = s.composer := rfl
@[simp] theorem addResetLine_panel (s : State) : (addResetLine s).panel = s.panel := rfl
@[simp] theorem addResetLine_intake (s : State) : (addResetLine s).intake = s.intake := rfl
@[simp] theorem addResetLine_roller (s : State) : (addResetLine s).roller = s.roller := rfl
@[simp] theorem addResetLine_clock (s : State) : (addResetLine s).clock = s.clock := rfl
@[simp] theorem addResetLine_console (s : State) : (addResetLine s).console = s.console := rfl
@[simp] theorem addResetLine_score (s : State) : (addResetLine s).score = s.score := rfl
@[simp] theorem addResetLine_rotation (s : State) : (addResetLine s).rotation = s.rotation := rfl
@[simp] theorem addResetLine_exposure (s : State) : (addResetLine s).exposure = s.exposure := rfl
@[simp] theorem addResetLine_ticker (s : State) : (addResetLine s).ticker = s.ticker := rfl
@[simp] theorem addResetLine_memctl (s : State) : (addResetLine s).memctl = s.memctl := rfl
@[simp] theorem addResetLine_port (s : State) : (addResetLine s).port = s.port := rfl
@[simp] theorem addResetLine_mem (s : State) : (addResetLine s).mem = s.mem := rfl

/-! ### beginShowing -/

@[simp] theorem beginShowing_pending (z : ZoneIx) (id : Nat) (a b : Bool) (s : State) : (beginShowing z id a b s).pending = s.pending := rfl
@[simp] theorem beginShowing_powerOns (z : ZoneIx) (id : Nat) (a b : Bool) (s : State) : (beginShowing z id a b s).powerOns = s.powerOns := rfl
@[simp] theorem beginShowing_phase (z : ZoneIx) (id : Nat) (a b : Bool) (s : State) : (beginShowing z id a b s).phase = s.phase := rfl
@[simp] theorem beginShowing_straps (z : ZoneIx) (id : Nat) (a b : Bool) (s : State) : (beginShowing z id a b s).straps = s.straps := rfl
@[simp] theorem beginShowing_timing (z : ZoneIx) (id : Nat) (a b : Bool) (s : State) : (beginShowing z id a b s).timing = s.timing := rfl
@[simp] theorem beginShowing_composer (z : ZoneIx) (id : Nat) (a b : Bool) (s : State) : (beginShowing z id a b s).composer = s.composer := rfl
@[simp] theorem beginShowing_panel (z : ZoneIx) (id : Nat) (a b : Bool) (s : State) : (beginShowing z id a b s).panel = s.panel := rfl
@[simp] theorem beginShowing_intake (z : ZoneIx) (id : Nat) (a b : Bool) (s : State) : (beginShowing z id a b s).intake = s.intake := rfl
@[simp] theorem beginShowing_roller (z : ZoneIx) (id : Nat) (a b : Bool) (s : State) : (beginShowing z id a b s).roller = s.roller := rfl
@[simp] theorem beginShowing_clock (z : ZoneIx) (id : Nat) (a b : Bool) (s : State) : (beginShowing z id a b s).clock = s.clock := rfl
@[simp] theorem beginShowing_console (z : ZoneIx) (id : Nat) (a b : Bool) (s : State) : (beginShowing z id a b s).console = s.console := rfl
@[simp] theorem beginShowing_score (z : ZoneIx) (id : Nat) (a b : Bool) (s : State) : (beginShowing z id a b s).score = s.score := rfl
@[simp] theorem beginShowing_exposure (z : ZoneIx) (id : Nat) (a b : Bool) (s : State) : (beginShowing z id a b s).exposure = s.exposure := rfl
@[simp] theorem beginShowing_ticker (z : ZoneIx) (id : Nat) (a b : Bool) (s : State) : (beginShowing z id a b s).ticker = s.ticker := rfl
@[simp] theorem beginShowing_command (z : ZoneIx) (id : Nat) (a b : Bool) (s : State) : (beginShowing z id a b s).command = s.command := rfl
@[simp] theorem beginShowing_memctl (z : ZoneIx) (id : Nat) (a b : Bool) (s : State) : (beginShowing z id a b s).memctl = s.memctl := rfl
@[simp] theorem beginShowing_port (z : ZoneIx) (id : Nat) (a b : Bool) (s : State) : (beginShowing z id a b s).port = s.port := rfl
@[simp] theorem beginShowing_mem (z : ZoneIx) (id : Nat) (a b : Bool) (s : State) : (beginShowing z id a b s).mem = s.mem := rfl

/-! ### seedLines -/

@[simp] theorem seedLines_pending (l : Byte) (s : State) : (seedLines l s).pending = s.pending := rfl
@[simp] theorem seedLines_powerOns (l : Byte) (s : State) : (seedLines l s).powerOns = s.powerOns := rfl
@[simp] theorem seedLines_phase (l : Byte) (s : State) : (seedLines l s).phase = s.phase := rfl
@[simp] theorem seedLines_straps (l : Byte) (s : State) : (seedLines l s).straps = s.straps := rfl
@[simp] theorem seedLines_timing (l : Byte) (s : State) : (seedLines l s).timing = s.timing := rfl
@[simp] theorem seedLines_composer (l : Byte) (s : State) : (seedLines l s).composer = s.composer := rfl
@[simp] theorem seedLines_panel (l : Byte) (s : State) : (seedLines l s).panel = s.panel := rfl
@[simp] theorem seedLines_intake (l : Byte) (s : State) : (seedLines l s).intake = s.intake := rfl
@[simp] theorem seedLines_roller (l : Byte) (s : State) : (seedLines l s).roller = s.roller := rfl
@[simp] theorem seedLines_clock (l : Byte) (s : State) : (seedLines l s).clock = s.clock := rfl
@[simp] theorem seedLines_score (l : Byte) (s : State) : (seedLines l s).score = s.score := rfl
@[simp] theorem seedLines_rotation (l : Byte) (s : State) : (seedLines l s).rotation = s.rotation := rfl
@[simp] theorem seedLines_exposure (l : Byte) (s : State) : (seedLines l s).exposure = s.exposure := rfl
@[simp] theorem seedLines_ticker (l : Byte) (s : State) : (seedLines l s).ticker = s.ticker := rfl
@[simp] theorem seedLines_command (l : Byte) (s : State) : (seedLines l s).command = s.command := rfl
@[simp] theorem seedLines_memctl (l : Byte) (s : State) : (seedLines l s).memctl = s.memctl := rfl
@[simp] theorem seedLines_port (l : Byte) (s : State) : (seedLines l s).port = s.port := rfl
@[simp] theorem seedLines_mem (l : Byte) (s : State) : (seedLines l s).mem = s.mem := rfl

/-! ### beginScan -/

@[simp] theorem beginScan_pending (s : State) : (beginScan s).pending = s.pending := rfl
@[simp] theorem beginScan_powerOns (s : State) : (beginScan s).powerOns = s.powerOns := rfl
@[simp] theorem beginScan_phase (s : State) : (beginScan s).phase = s.phase := rfl
@[simp] theorem beginScan_straps (s : State) : (beginScan s).straps = s.straps := rfl
@[simp] theorem beginScan_timing (s : State) : (beginScan s).timing = s.timing := rfl
@[simp] theorem beginScan_composer (s : State) : (beginScan s).composer = s.composer := rfl
@[simp] theorem beginScan_intake (s : State) : (beginScan s).intake = s.intake := rfl
@[simp] theorem beginScan_roller (s : State) : (beginScan s).roller = s.roller := rfl
@[simp] theorem beginScan_clock (s : State) : (beginScan s).clock = s.clock := rfl
@[simp] theorem beginScan_console (s : State) : (beginScan s).console = s.console := rfl
@[simp] theorem beginScan_score (s : State) : (beginScan s).score = s.score := rfl
@[simp] theorem beginScan_rotation (s : State) : (beginScan s).rotation = s.rotation := rfl
@[simp] theorem beginScan_exposure (s : State) : (beginScan s).exposure = s.exposure := rfl
@[simp] theorem beginScan_ticker (s : State) : (beginScan s).ticker = s.ticker := rfl
@[simp] theorem beginScan_command (s : State) : (beginScan s).command = s.command := rfl
@[simp] theorem beginScan_memctl (s : State) : (beginScan s).memctl = s.memctl := rfl
@[simp] theorem beginScan_port (s : State) : (beginScan s).port = s.port := rfl
@[simp] theorem beginScan_mem (s : State) : (beginScan s).mem = s.mem := rfl

/-! ### endStartUpStep -/

@[simp] theorem endStartUpStep_pending (s : State) : (endStartUpStep s).pending = s.pending := rfl
@[simp] theorem endStartUpStep_powerOns (s : State) : (endStartUpStep s).powerOns = s.powerOns := rfl
@[simp] theorem endStartUpStep_phase (s : State) : (endStartUpStep s).phase = s.phase := rfl
@[simp] theorem endStartUpStep_straps (s : State) : (endStartUpStep s).straps = s.straps := rfl
@[simp] theorem endStartUpStep_timing (s : State) : (endStartUpStep s).timing = s.timing := rfl
@[simp] theorem endStartUpStep_composer (s : State) : (endStartUpStep s).composer = s.composer := rfl
@[simp] theorem endStartUpStep_panel (s : State) : (endStartUpStep s).panel = s.panel := rfl
@[simp] theorem endStartUpStep_intake (s : State) : (endStartUpStep s).intake = s.intake := rfl
@[simp] theorem endStartUpStep_roller (s : State) : (endStartUpStep s).roller = s.roller := rfl
@[simp] theorem endStartUpStep_clock (s : State) : (endStartUpStep s).clock = s.clock := rfl
@[simp] theorem endStartUpStep_console (s : State) : (endStartUpStep s).console = s.console := rfl
@[simp] theorem endStartUpStep_score (s : State) : (endStartUpStep s).score = s.score := rfl
@[simp] theorem endStartUpStep_rotation (s : State) : (endStartUpStep s).rotation = s.rotation := rfl
@[simp] theorem endStartUpStep_exposure (s : State) : (endStartUpStep s).exposure = s.exposure := rfl
@[simp] theorem endStartUpStep_ticker (s : State) : (endStartUpStep s).ticker = s.ticker := rfl
@[simp] theorem endStartUpStep_command (s : State) : (endStartUpStep s).command = s.command := rfl
@[simp] theorem endStartUpStep_port (s : State) : (endStartUpStep s).port = s.port := rfl
@[simp] theorem endStartUpStep_mem (s : State) : (endStartUpStep s).mem = s.mem := rfl

/-! ### grantScan -/

@[simp] theorem grantScan_pending (p a : Nat) (s : State) : (grantScan p a s).pending = s.pending := rfl
@[simp] theorem grantScan_powerOns (p a : Nat) (s : State) : (grantScan p a s).powerOns = s.powerOns := rfl
@[simp] theorem grantScan_phase (p a : Nat) (s : State) : (grantScan p a s).phase = s.phase := rfl
@[simp] theorem grantScan_straps (p a : Nat) (s : State) : (grantScan p a s).straps = s.straps := rfl
@[simp] theorem grantScan_timing (p a : Nat) (s : State) : (grantScan p a s).timing = s.timing := rfl
@[simp] theorem grantScan_composer (p a : Nat) (s : State) : (grantScan p a s).composer = s.composer := rfl
@[simp] theorem grantScan_intake (p a : Nat) (s : State) : (grantScan p a s).intake = s.intake := rfl
@[simp] theorem grantScan_roller (p a : Nat) (s : State) : (grantScan p a s).roller = s.roller := rfl
@[simp] theorem grantScan_clock (p a : Nat) (s : State) : (grantScan p a s).clock = s.clock := rfl
@[simp] theorem grantScan_console (p a : Nat) (s : State) : (grantScan p a s).console = s.console := rfl
@[simp] theorem grantScan_score (p a : Nat) (s : State) : (grantScan p a s).score = s.score := rfl
@[simp] theorem grantScan_rotation (p a : Nat) (s : State) : (grantScan p a s).rotation = s.rotation := rfl
@[simp] theorem grantScan_exposure (p a : Nat) (s : State) : (grantScan p a s).exposure = s.exposure := rfl
@[simp] theorem grantScan_ticker (p a : Nat) (s : State) : (grantScan p a s).ticker = s.ticker := rfl
@[simp] theorem grantScan_command (p a : Nat) (s : State) : (grantScan p a s).command = s.command := rfl
@[simp] theorem grantScan_port (p a : Nat) (s : State) : (grantScan p a s).port = s.port := rfl
@[simp] theorem grantScan_mem (p a : Nat) (s : State) : (grantScan p a s).mem = s.mem := rfl

/-! ### grantStartUp -/

@[simp] theorem grantStartUp_pending (s : State) : (grantStartUp s).pending = s.pending := rfl
@[simp] theorem grantStartUp_powerOns (s : State) : (grantStartUp s).powerOns = s.powerOns := rfl
@[simp] theorem grantStartUp_phase (s : State) : (grantStartUp s).phase = s.phase := rfl
@[simp] theorem grantStartUp_straps (s : State) : (grantStartUp s).straps = s.straps := rfl
@[simp] theorem grantStartUp_timing (s : State) : (grantStartUp s).timing = s.timing := rfl
@[simp] theorem grantStartUp_composer (s : State) : (grantStartUp s).composer = s.composer := rfl
@[simp] theorem grantStartUp_panel (s : State) : (grantStartUp s).panel = s.panel := rfl
@[simp] theorem grantStartUp_intake (s : State) : (grantStartUp s).intake = s.intake := rfl
@[simp] theorem grantStartUp_roller (s : State) : (grantStartUp s).roller = s.roller := rfl
@[simp] theorem grantStartUp_clock (s : State) : (grantStartUp s).clock = s.clock := rfl
@[simp] theorem grantStartUp_console (s : State) : (grantStartUp s).console = s.console := rfl
@[simp] theorem grantStartUp_score (s : State) : (grantStartUp s).score = s.score := rfl
@[simp] theorem grantStartUp_rotation (s : State) : (grantStartUp s).rotation = s.rotation := rfl
@[simp] theorem grantStartUp_exposure (s : State) : (grantStartUp s).exposure = s.exposure := rfl
@[simp] theorem grantStartUp_ticker (s : State) : (grantStartUp s).ticker = s.ticker := rfl
@[simp] theorem grantStartUp_command (s : State) : (grantStartUp s).command = s.command := rfl
@[simp] theorem grantStartUp_port (s : State) : (grantStartUp s).port = s.port := rfl
@[simp] theorem grantStartUp_mem (s : State) : (grantStartUp s).mem = s.mem := rfl

/-! ### What the updates write -/

@[simp] theorem grantScan_fetchAt (p a : Nat) (s : State) : (grantScan p a s).panel.fetchAt = p + 1 := rfl

@[simp] theorem grantScan_lineBuffer (p a : Nat) (s : State) : (grantScan p a s).panel.lineBuffer = s.panel.lineBuffer := rfl

@[simp] theorem grantScan_access (p a : Nat) (s : State) : (grantScan p a s).memctl.access = some (.scan p a) := rfl

@[simp] theorem grantStartUp_access (s : State) : (grantStartUp s).memctl.access = some .startUp := rfl

@[simp] theorem endStartUpStep_startUp (s : State) : (endStartUpStep s).memctl.startUp = s.memctl.startUp.next := rfl

@[simp] theorem beginScan_late (s : State) : (beginScan s).panel.late = s.panel.late := rfl

@[simp] theorem closeScan_panel (s : State) : (closeScan s).panel = PanelScan.reset := rfl

@[simp] theorem withPending_pending (s : State) (q : List Instr) : (s.withPending q).pending = q := rfl

@[simp] theorem setTransaction_transaction (t : Option HostTransaction) (s : State) : (setTransaction t s).port.transaction = t := rfl

@[simp] theorem setTransaction_presented (t : Option HostTransaction) (s : State) :
    (setTransaction t s).port.presented = s.port.presented := rfl

@[simp] theorem setTransaction_readData (t : Option HostTransaction) (s : State) :
    (setTransaction t s).port.readData = s.port.readData := rfl

@[simp] theorem setTrailer_trailer (t : Vector Byte 32) (s : State) : (setTrailer t s).intake.trailer = t := rfl

@[simp] theorem setTrailer_slots (t : Vector Byte 32) (s : State) : (setTrailer t s).intake.slots = s.intake.slots := rfl

@[simp] theorem setShowing_showing (x : Option ShowingEntry) (s : State) : (setShowing x s).ticker.showing = x := rfl

@[simp] theorem setShowing_waiting (x : Option ShowingEntry) (s : State) : (setShowing x s).ticker.waiting = s.ticker.waiting := rfl

@[simp] theorem clearAccess_access (s : State) : (clearAccess s).memctl.access = none := rfl

@[simp] theorem State_raise_shadow (f : Flag) (s : State) : (s.raise f).command.shadow = s.command.shadow := rfl

@[simp] theorem State_raise_flags (f : Flag) (s : State) : (s.raise f).command.flags = s.command.flags ||| f.bit := rfl

@[simp] theorem State_putByte_mem (a : Nat) (v : Byte) (s : State) : (s.putByte a v).mem = s.mem.write none a v := rfl

@[simp] theorem State_putShadow_shadow (o : Nat) (v : Byte) (s : State) :
    (s.putShadow o v).command.shadow = s.command.shadow.write (some 0) o v := rfl

@[simp] theorem finishCommand_shadow (slot : RingSlot) (r : Result) (s : State) :
    (finishCommand slot r s).command.shadow = s.command.shadow := by
  unfold finishCommand CommandUnit.count
  split <;> rfl

end Sys2Proof.Machine
end

