-- ==== Sys2Proof/Laws/Commands.lean ====
section
/-! SUPPORT. One lemma per shared operation of the command path, each saying once what the operation can do. -/

namespace Sys2Proof.Machine

/-! ### Flags -/

/-- The flag raised is raised. -/
theorem State.raise_flagged (f : Flag) (s : State) : (s.raise f).flagged f = true := by
  cases f <;> simp [State.flagged, State.raise, Flag.bit, Flag.number]

theorem Flag.number_inj {f g : Flag} (h : f.number = g.number) : f = g := by
  cases f <;> cases g <;> first | rfl | (simp [Flag.number] at h)

theorem Flag.number_lt (f : Flag) : f.number < 24 := by cases f <;> decide

/-- Raising one flag leaves every other as it was. -/
theorem State.raise_flagged_other {f g : Flag} (s : State) (h : g ≠ f) : (s.raise f).flagged g = s.flagged g := by
  have hn : g.number ≠ f.number := fun e => h (Flag.number_inj e)
  simp only [State.flagged, State.raise, Flag.bit, BitVec.getLsbD_or, BitVec.getLsbD_shiftLeft]
  have h1 : (1#24).getLsbD (g.number - f.number) = decide (g.number - f.number = 0) := by
    cases hd : g.number - f.number with
    | zero => rfl
    | succ n => simp [BitVec.getLsbD_one]
  rw [h1]
  by_cases hlt : g.number < f.number
  · simp [hlt]
  · have : g.number - f.number ≠ 0 := by omega
    simp [this]

/-- What raising a flag on a condition does. -/
theorem State.raiseIf_cases (c : Bool) (f : Flag) (s : State) :
    (c = true ∧ s.raiseIf c f = s.raise f) ∨ (c = false ∧ s.raiseIf c f = s) := by
  cases c
  · exact .inr ⟨rfl, rfl⟩
  · exact .inl ⟨rfl, rfl⟩

/-! ### Checks -/

/-- A command whose checks all pass is taken. -/
theorem checked_of_none {checks : List (Bool × ResultCode)} {s : State} {taken : State × Result}
    (h : firstFailing checks = none) : checked checks s taken = taken := by
  simp [checked, h]

/-- A command whose first failing check gives a code is refused with it and changes nothing. -/
theorem checked_of_some {checks : List (Bool × ResultCode)} {s : State} {taken : State × Result} {code : ResultCode}
    (h : firstFailing checks = some code) : checked checks s taken = (s, Result.plain code) := by
  simp [checked, h]

/-- All checks pass exactly when none of their conditions holds. -/
theorem firstFailing_eq_none {checks : List (Bool × ResultCode)} :
    firstFailing checks = none ↔ ∀ c ∈ checks, c.1 = false := by
  induction checks with
  | nil => simp [firstFailing]
  | cons c rest ih =>
    obtain ⟨b, code⟩ := c
    cases b <;> simp [firstFailing, ih]

/-! ### Host commands and their results -/

/-- While the part is running a host command is taken by its rule and its result delivered. -/
theorem hostCommand_running {slot : RingSlot} {rule : CommandRule} {s : State} (h : s.phase = .running) :
    hostCommand slot rule s = .next (takeCommand slot rule s) := by
  simp [hostCommand, h]

/-- Everything a host command can do. -/
theorem hostCommand_cases {slot : RingSlot} {rule : CommandRule} {s t : State} (h : hostCommand slot rule s = .next t) :
    (s.phase = .running ∧ t = finishCommand slot (rule s).2 (rule s).1) ∨ (s.phase ≠ .running ∧ t = s) := by
  unfold hostCommand at h
  split at h
  · rename_i hp
    exact .inl ⟨hp, by simpa [takeCommand] using h.symm⟩
  · rename_i hp
    exact .inr ⟨hp, by simpa using h.symm⟩

/-- Everything the command unit's offer to the queue can do (R171). -/
theorem offerCommand_cases (w : PartWrite) (behind : Nat) (m : MemoryController) :
    (m.waitCommand = [] ∧ behind = 0 ∧ m.queue.length < Config.queueCapacity ∧ m.offerCommand w behind = { m with queue := m.queue ++ [w] }) ∨
    m.offerCommand w behind = { m with waitCommand := m.waitCommand ++ [{ write := w, behind := behind }] } := by
  unfold MemoryController.offerCommand
  split
  · rename_i h
    simp only [Bool.and_eq_true, List.isEmpty_iff, beq_iff_eq, MemoryController.hasRoom, decide_eq_true_eq] at h
    exact .inl ⟨h.1.1, h.1.2, h.2, rfl⟩
  · exact .inr rfl

/-- Everything the exposure counter's offer to the queue can do (R141, R171). -/
theorem offerExposure_cases (w : PartWrite) (m : MemoryController) :
    (m.waitExposure = [] ∧ m.queue.length < Config.queueCapacity ∧ m.offerExposure w = { m with queue := m.queue ++ [w] }) ∨
    m.offerExposure w = { m with waitExposure := m.waitExposure ++ [w] } := by
  unfold MemoryController.offerExposure
  split
  · rename_i h
    simp only [Bool.and_eq_true, List.isEmpty_iff, MemoryController.hasRoom, decide_eq_true_eq] at h
    exact .inl ⟨h.1, h.2, rfl⟩
  · exact .inr rfl

/-- Everything a join can do: nothing, one write of the exposure counter, or one of the command unit (R171). -/
theorem join_cases (first : WriterBlock) (m : MemoryController) :
    m.join first = m ∨
    (m.queue.length < Config.queueCapacity ∧ ∃ w rest, m.waitExposure = w :: rest ∧
      m.join first =
        { m with queue := m.queue ++ [w], waitExposure := rest, waitCommand := m.waitCommand.map WaitingResult.oneJoined }) ∨
    (m.queue.length < Config.queueCapacity ∧ ∃ r rest, m.waitCommand = r :: rest ∧ r.behind = 0 ∧
      m.join first = { m with queue := m.queue ++ [r.write], waitCommand := rest }) := by
  by_cases hr : m.hasRoom = true
  · have hlt : m.queue.length < Config.queueCapacity := by simpa [MemoryController.hasRoom] using hr
    have hexp : m.joinExposure = m ∨ (∃ w rest, m.waitExposure = w :: rest ∧ m.joinExposure =
        { m with queue := m.queue ++ [w], waitExposure := rest, waitCommand := m.waitCommand.map WaitingResult.oneJoined }) := by
      unfold MemoryController.joinExposure
      split
      · exact .inl rfl
      · rename_i w rest hw
        exact .inr ⟨w, rest, hw, rfl⟩
    have hcmd : m.commandReady = true → ∃ r rest, m.waitCommand = r :: rest ∧ r.behind = 0 ∧
        m.joinCommand = { m with queue := m.queue ++ [r.write], waitCommand := rest } := by
      intro h
      unfold MemoryController.commandReady at h
      unfold MemoryController.joinCommand
      split at h
      · simp at h
      · rename_i r rest hw
        rw [hw]
        exact ⟨r, rest, rfl, by simpa using h, rfl⟩
    have e : (m.join first = m.joinExposure) ∨ (m.commandReady = true ∧ m.join first = m.joinCommand) ∨ m.join first = m := by
      unfold MemoryController.join
      rw [if_pos hr]
      cases first <;> simp only
      · split
        · rename_i h
          exact .inr (.inl ⟨h, rfl⟩)
        · exact .inl rfl
      · split
        · split
          · rename_i h
            exact .inr (.inl ⟨h, rfl⟩)
          · exact .inr (.inr rfl)
        · exact .inl rfl
    rcases e with e | ⟨h, e⟩ | e
    · rw [e]
      rcases hexp with h | ⟨w, rest, hw, h⟩
      · exact .inl h
      · exact .inr (.inl ⟨hlt, w, rest, hw, h⟩)
    · rw [e]
      obtain ⟨r, rest, hw, hb, hj⟩ := hcmd h
      exact .inr (.inr ⟨hlt, r, rest, hw, hb, hj⟩)
    · exact .inl e
  · left
    unfold MemoryController.join
    rw [if_neg hr]

/-! ### Ticks, frame events and steps -/

/-- Everything a tick row can do. -/
theorem tickWith_cases (due : TickEvents → Bool) (t : TickInput) (s : State) :
    (s.ticking = true ∧ due (millisecondTick t s).2 = true ∧ tickWith due t s = (millisecondTick t s).1) ∨
    tickWith due t s = s := by
  unfold tickWith
  split
  · rename_i h
    dsimp only
    split
    · rename_i hd
      exact .inl ⟨h, hd, rfl⟩
    · exact .inr rfl
  · exact .inr rfl

/-- Everything a FRAME_END row can do. -/
theorem frameEndWith_cases (due : FrameEndEvents → Bool) (r : Bool) (s : State) :
    (s.scanning = true ∧ due (frameEnd r s).2 = true ∧ frameEndWith due r s = (frameEnd r s).1) ∨ frameEndWith due r s = s := by
  unfold frameEndWith
  split
  · rename_i h
    dsimp only
    split
    · rename_i hd
      exact .inl ⟨h, hd, rfl⟩
    · exact .inr rfl
  · exact .inr rfl

/-- Everything a FRAME_START row can do. -/
theorem frameStartIf_cases (due : Bool) (s : State) :
    (s.inBlanking = true ∧ due = true ∧ frameStartIf due s = frameStart s) ∨ frameStartIf due s = s := by
  unfold frameStartIf
  split
  · rename_i h
    rw [Bool.and_eq_true] at h
    exact .inl ⟨h.1, h.2, rfl⟩
  · exact .inr rfl

/-- A step answers a next state only by idling or by running the command in front. -/
theorem step_cases {s t : State} (h : step s = .next t) :
    (s.pending = [] ∧ t = s) ∨ ∃ c rest, s.pending = c :: rest ∧ exec c (s.withPending rest) = .next t := by
  unfold step at h
  split at h
  · rename_i hp
    exact .inl ⟨hp, by simpa using h.symm⟩
  · rename_i c rest hp
    exact .inr ⟨c, rest, hp, h⟩

end Sys2Proof.Machine
end

