-- ==== Sys2Proof/Laws/Memory.lean ====
section
/-! SUPPORT. The byte stores: every operation keeps the canonical form, a read after a write gives the byte written, and a write leaves
every other address alone. -/

namespace Sys2Proof.Machine

/-! ### Canonical form -/

theorem Memory.wfFrom_lower {u : Option Byte} {m : Memory} {lo lo' : Nat} (h : m.wfFrom u lo' = true) (hle : lo ≤ lo') :
    m.wfFrom u lo = true := by
  cases m with
  | nil => rfl
  | cons c rest =>
    obtain ⟨a, b⟩ := c
    simp only [Memory.wfFrom, Bool.and_eq_true, decide_eq_true_eq] at h ⊢
    exact ⟨⟨le_trans hle h.1.1, h.1.2⟩, h.2⟩

theorem Memory.put_wfFrom {u : Option Byte} {x : Nat} {v : Byte} (hv : u ≠ some v) :
    ∀ {m : Memory} {lo : Nat}, m.wfFrom u lo = true → lo ≤ x → (m.put x v).wfFrom u lo = true
  | [], lo, _, hx => by simp [Memory.put, Memory.wfFrom, hx, hv]
  | (a, b) :: rest, lo, h, hx => by
    simp only [Memory.wfFrom, Bool.and_eq_true, decide_eq_true_eq] at h
    unfold Memory.put
    split
    · simp only [Memory.wfFrom, Bool.and_eq_true, decide_eq_true_eq]
      exact ⟨⟨hx, by simpa using hv⟩, ⟨by omega, h.1.2⟩, h.2⟩
    · split
      · subst_vars
        simp only [Memory.wfFrom, Bool.and_eq_true, decide_eq_true_eq]
        exact ⟨⟨hx, by simpa using hv⟩, h.2⟩
      · simp only [Memory.wfFrom, Bool.and_eq_true, decide_eq_true_eq]
        exact ⟨h.1, Memory.put_wfFrom hv h.2 (by omega)⟩

theorem Memory.erase_wfFrom {u : Option Byte} {x : Nat} :
    ∀ {m : Memory} {lo : Nat}, m.wfFrom u lo = true → (m.erase x).wfFrom u lo = true
  | [], _, h => h
  | (a, b) :: rest, lo, h => by
    simp only [Memory.wfFrom, Bool.and_eq_true, decide_eq_true_eq] at h
    unfold Memory.erase
    split
    · exact Memory.wfFrom_lower h.2 (by omega)
    · simp only [Memory.wfFrom, Bool.and_eq_true, decide_eq_true_eq]
      exact ⟨h.1, Memory.erase_wfFrom h.2⟩

/-- A write keeps the canonical form. -/
theorem Memory.write_wf {u : Option Byte} {m : Memory} (x : Nat) (v : Byte) (h : m.wf u = true) :
    (m.write u x v).wf u = true := by
  unfold Memory.write
  split
  · exact Memory.erase_wfFrom h
  · rename_i hv
    exact Memory.put_wfFrom hv h (Nat.zero_le x)

/-! ### Reads after writes -/

theorem Memory.find_put_same (x : Nat) (v : Byte) : ∀ m : Memory, (m.put x v).find x = some v
  | [] => by simp [Memory.put, Memory.find]
  | (a, b) :: rest => by
    unfold Memory.put
    split
    · simp [Memory.find]
    · split
      · simp [Memory.find]
      · rename_i hne
        simp [Memory.find, hne, Memory.find_put_same x v rest]

theorem Memory.find_put_other {x y : Nat} (v : Byte) (h : y ≠ x) : ∀ m : Memory, (m.put x v).find y = m.find y
  | [] => by simp [Memory.put, Memory.find, h]
  | (a, b) :: rest => by
    unfold Memory.put
    split
    · simp [Memory.find, h]
    · split
      · subst_vars
        simp [Memory.find, h]
      · simp [Memory.find, Memory.find_put_other v h rest]

theorem Memory.find_erase_other {x y : Nat} (h : y ≠ x) : ∀ m : Memory, (m.erase x).find y = m.find y
  | [] => rfl
  | (a, b) :: rest => by
    unfold Memory.erase
    split
    · subst_vars
      simp [Memory.find, h]
    · simp [Memory.find, Memory.find_erase_other h rest]

theorem Memory.find_below {u : Option Byte} {x : Nat} :
    ∀ {m : Memory} {lo : Nat}, m.wfFrom u lo = true → x < lo → m.find x = none
  | [], _, _, _ => rfl
  | (a, b) :: rest, lo, h, hx => by
    simp only [Memory.wfFrom, Bool.and_eq_true, decide_eq_true_eq] at h
    have hne : x ≠ a := by omega
    simp [Memory.find, hne, Memory.find_below h.2 (by omega : x < a + 1)]

theorem Memory.find_erase_same {u : Option Byte} {x : Nat} :
    ∀ {m : Memory} {lo : Nat}, m.wfFrom u lo = true → (m.erase x).find x = none
  | [], _, _ => rfl
  | (a, b) :: rest, lo, h => by
    simp only [Memory.wfFrom, Bool.and_eq_true, decide_eq_true_eq] at h
    unfold Memory.erase
    split
    · subst_vars
      exact Memory.find_below h.2 (Nat.lt_succ_self _)
    · rename_i hne
      simp [Memory.find, hne, Memory.find_erase_same h.2]

/-- A write leaves every other address as it was. -/
theorem Memory.find_write_other {u : Option Byte} {m : Memory} {x y : Nat} (v : Byte) (h : y ≠ x) :
    (m.write u x v).find y = m.find y := by
  unfold Memory.write
  split
  · exact Memory.find_erase_other h m
  · exact Memory.find_put_other v h m

/-- The byte just written is found, or is what an unlisted address reads as. -/
theorem Memory.find_write_same {u : Option Byte} {m : Memory} {x : Nat} (v : Byte) (h : m.wf u = true) :
    (m.write u x v).find x = if u = some v then none else some v := by
  unfold Memory.write
  split
  · exact Memory.find_erase_same h
  · exact Memory.find_put_same x v m

/-- The frame store after a byte is written, at that address. -/
theorem State.memByte_putByte_same (s : State) (a : Nat) (v : Byte) : (s.putByte a v).memByte a = v := by
  simp [State.memByte, State.putByte, Memory.write, Memory.find_put_same]

/-- The frame store after a byte is written, at another address. -/
theorem State.memByte_putByte_other (s : State) {a b : Nat} (v : Byte) (h : b ≠ a) : (s.putByte a v).memByte b = s.memByte b := by
  simp [State.memByte, State.putByte, Memory.find_write_other v h]

/-- The ring shadow after a byte is copied into it, at that offset. -/
theorem State.shadowByte_putShadow_same (s : State) (o : Nat) (v : Byte) (h : s.command.shadow.wf (some 0) = true) :
    (s.putShadow o v).shadowByte o = v := by
  simp only [State.shadowByte, State_putShadow_shadow, Memory.find_write_same v h]
  split
  · rename_i hv
    simpa using hv
  · rfl

/-- The ring shadow after a byte is copied into it, at another offset. -/
theorem State.shadowByte_putShadow_other (s : State) {o p : Nat} (v : Byte) (h : p ≠ o) :
    (s.putShadow o v).shadowByte p = s.shadowByte p := by
  simp [State.shadowByte, Memory.find_write_other v h]

/-! ### Runs of bytes -/

/-- A run of bytes changes the frame store alone. -/
theorem State.putBytes_frame : ∀ (l : List Byte) (a : Nat) (s : State), s.putBytes a l = { s with mem := (s.putBytes a l).mem }
  | [], _, _ => rfl
  | b :: rest, a, s => by
    have h := State.putBytes_frame rest (a + 1) (s.putByte a b)
    simp only [State.putBytes]
    rw [h]
    rfl

theorem State.putBytes_wf : ∀ (l : List Byte) (a : Nat) (s : State), s.mem.wf none = true → (s.putBytes a l).mem.wf none = true
  | [], _, _, h => h
  | b :: rest, a, s, h => State.putBytes_wf rest (a + 1) (s.putByte a b) (Memory.write_wf a b h)

/-- An address outside the run reads as before. -/
theorem State.memByte_putBytes_outside : ∀ (l : List Byte) (a : Nat) (s : State) (x : Nat),
    x < a ∨ a + l.length ≤ x → (s.putBytes a l).memByte x = s.memByte x
  | [], _, _, _, _ => rfl
  | b :: rest, a, s, x, h => by
    have hne : x ≠ a := by
      simp only [List.length_cons] at h
      omega
    have h' : x < a + 1 ∨ a + 1 + rest.length ≤ x := by
      simp only [List.length_cons] at h
      omega
    simp only [State.putBytes]
    rw [State.memByte_putBytes_outside rest (a + 1) (s.putByte a b) x h', State.memByte_putByte_other s b hne]

/-- An address inside the run reads the byte written there. -/
theorem State.memByte_putBytes_inside (l : List Byte) (a : Nat) (s : State) (i : Nat) (h : i < l.length) :
    (s.putBytes a l).memByte (a + i) = l[i] := by
  induction l generalizing a s i with
  | nil => simp at h
  | cons b rest ih =>
    simp only [State.putBytes]
    cases i with
    | zero =>
      change (State.putBytes (a + 1) rest (s.putByte a b)).memByte a = b
      rw [State.memByte_putBytes_outside rest (a + 1) (s.putByte a b) a (Or.inl (Nat.lt_succ_self a)),
        State.memByte_putByte_same]
    | succ i =>
      have hi : i < rest.length := by simpa using h
      have e : a + (i + 1) = a + 1 + i := by omega
      rw [e, ih (a + 1) (s.putByte a b) i hi]
      rfl

theorem putBeat_wf (a : Nat) (d : Beat) (k : Byte) (js : List Nat) (s : State) (h : s.mem.wf none = true) :
    (putBeat a d k js s).mem.wf none = true := by
  induction js generalizing s with
  | nil => exact h
  | cons j rest ih =>
    unfold putBeat
    split
    · exact ih _ (Memory.write_wf _ _ h)
    · exact ih _ h

theorem putBeats_wf : ∀ (l : List ForwardBeat) (s : State), s.mem.wf none = true → (putBeats l s).mem.wf none = true
  | [], _, h => h
  | _ :: rest, s, h => putBeats_wf rest _ (putBeat_wf _ _ _ _ s h)

theorem landWrite_wf (w : PartWrite) (s : State) (h : s.mem.wf none = true) : (landWrite w s).mem.wf none = true := by
  have h' := State.putBytes_wf w.data (s.controlBase + w.offset) s h
  unfold landWrite
  split <;> exact h'

theorem shadowBeat_wf (o : Nat) (d : Beat) (k : Byte) (js : List Nat) (s : State) (h : s.command.shadow.wf (some 0) = true) :
    (shadowBeat o d k js s).command.shadow.wf (some 0) = true := by
  induction js generalizing s with
  | nil => exact h
  | cons j rest ih =>
    unfold shadowBeat
    split
    · exact ih _ (Memory.write_wf _ _ h)
    · exact ih _ h

/-- Copying a beat into the ring shadow leaves the frame store alone. -/
theorem shadowBeat_mem (o : Nat) (d : Beat) (k : Byte) (js : List Nat) (s : State) :
    (shadowBeat o d k js s).mem = s.mem := by
  induction js generalizing s with
  | nil => rfl
  | cons j rest ih =>
    unfold shadowBeat
    rw [ih]
    split <;> rfl

/-- The frame store right after reset is in canonical form. -/
theorem reset_mem_wf : State.reset.mem.wf none = true := rfl

/-- The ring shadow right after reset is in canonical form. -/
theorem reset_shadow_wf : State.reset.command.shadow.wf (some 0) = true := rfl

end Sys2Proof.Machine
end

