-- ==== Sys2Proof/Laws/Controller.lean ====
section
/-! SUPPORT. The memory controller: what a burst put into memory leaves there, what a grant can be, where the fetch goes on, and what the
steps of the start-up come to. -/

namespace Sys2Proof.Machine

/-! ### A burst put into memory -/

/-- A beat changes memory alone. -/
theorem putBeat_frame (a : Nat) (d : Beat) (k : Byte) : ∀ (js : List Nat) (s : State),
    putBeat a d k js s = { s with mem := (putBeat a d k js s).mem }
  | [], _ => rfl
  | j :: rest, s => by
    unfold putBeat
    rw [putBeat_frame a d k rest]
    split <;> rfl

/-- A burst changes memory alone. -/
theorem putBeats_frame : ∀ (l : List ForwardBeat) (s : State), putBeats l s = { s with mem := (putBeats l s).mem }
  | [], _ => rfl
  | b :: rest, s => by
    unfold putBeats
    rw [putBeats_frame rest, putBeat_frame]

/-- A byte after a beat's bytes at the positions of a list: the beat's if the mask writes it there, otherwise what it was. -/
theorem memByte_putBeat (a : Nat) (d : Beat) (k : Byte) (x : Nat) : ∀ (js : List Nat) (s : State),
    (putBeat a d k js s).memByte x =
      if a ≤ x ∧ (x - a) ∈ js ∧ maskWrites k (x - a) = true then beatByte d (x - a) else s.memByte x
  | [], s => by simp [putBeat]
  | j :: rest, s => by
    unfold putBeat
    rw [memByte_putBeat a d k x rest]
    by_cases hx : x = a + j
    · subst hx
      cases hm : maskWrites k j
      · simp [hm]
      · simp [hm, State.memByte_putByte_same]
    · have hs : (if maskWrites k j = true then s.putByte (a + j) (beatByte d j) else s).memByte x = s.memByte x := by
        split
        · exact State.memByte_putByte_other s _ hx
        · rfl
      rw [hs]
      by_cases hle : a ≤ x
      · have : x - a ≠ j := by omega
        simp [this]
      · simp [hle]

/-- A byte after one beat of a burst. -/
theorem memByte_putBeat_whole (b : ForwardBeat) (s : State) (x : Nat) :
    (putBeat b.addr b.data b.mask beatPositions s).memByte x =
      if b.writes x = true then b.data.extractLsb' (8 * (x - b.addr)) 8 else s.memByte x := by
  rw [memByte_putBeat]
  have hmem : ∀ n, n ∈ beatPositions ↔ n < 8 := by
    intro n
    simp only [beatPositions, List.mem_cons, List.not_mem_nil, or_false]
    omega
  by_cases h : b.addr ≤ x ∧ x < b.addr + 8
  · have h8 : x - b.addr < 8 := by omega
    simp [hmem, h.1, h.2, h8, ForwardBeat.writes, maskWrites, beatByte]
  · have : ¬ (b.addr ≤ x ∧ x - b.addr < 8) := by omega
    rw [if_neg (by rw [hmem]; tauto), if_neg]
    simp only [ForwardBeat.writes, Bool.and_eq_true, decide_eq_true_eq]
    tauto

/-- An address that no beat of a burst writes keeps its byte. -/
theorem memByte_putBeats_outside : ∀ (l : List ForwardBeat) (s : State) (x : Nat), (∀ b ∈ l, b.writes x = false) →
    (putBeats l s).memByte x = s.memByte x
  | [], _, _, _ => rfl
  | b :: rest, s, x, h => by
    unfold putBeats
    rw [memByte_putBeats_outside rest _ x fun c hc => h c (List.mem_cons_of_mem _ hc), memByte_putBeat_whole,
      if_neg (by simp [h b (List.mem_cons_self ..)])]

/-- A burst put into memory stands there. -/
theorem burstLanded_putBeats : ∀ (l : List ForwardBeat) (s : State), BurstLanded l (putBeats l s)
  | [], _ => by
    intro before b after h
    simp at h
  | x :: rest, s => by
    intro before b after h j hj hm hlater
    unfold putBeats
    cases before with
    | nil =>
      obtain ⟨rfl, rfl⟩ := List.cons.inj h
      rw [memByte_putBeats_outside _ _ _ hlater, memByte_putBeat_whole, if_pos (by simp [ForwardBeat.writes, hj, hm])]
      congr 2
      omega
    | cons y before =>
      obtain ⟨rfl, hrest⟩ := List.cons.inj h
      exact burstLanded_putBeats rest _ before b after hrest j hj hm hlater

/-! ### Grants -/

/-- Everything the end of an access can do. -/
theorem finishAccess_cases (s : State) :
    (s.memctl.access = none ∧ finishAccess s = s) ∨
    (s.memctl.access = some .refresh ∧ finishAccess s = clearAccess s) ∨
    (∃ p a, s.memctl.access = some (.scan p a) ∧ finishAccess s = clearAccess (fetchDone p a s)) ∨
    (∃ w, s.memctl.access = some (.queueEntry w) ∧ finishAccess s = clearAccess (landWrite w s)) ∨
    (s.memctl.access = some .playout ∧ finishAccess s = clearAccess (servePlayout s)) ∨
    (s.memctl.access = some .startUp ∧ finishAccess s = clearAccess (endStartUpStep s)) := by
  unfold finishAccess
  rcases hacc : s.memctl.access with _ | a
  · exact .inl ⟨rfl, rfl⟩
  · cases a with
    | refresh => exact .inr (.inl ⟨rfl, rfl⟩)
    | scan p a => exact .inr (.inr (.inl ⟨p, a, rfl, rfl⟩))
    | queueEntry w => exact .inr (.inr (.inr (.inl ⟨w, rfl, rfl⟩)))
    | playout => exact .inr (.inr (.inr (.inr (.inl ⟨rfl, rfl⟩))))
    | startUp => exact .inr (.inr (.inr (.inr (.inr ⟨rfl, rfl⟩))))

/-- Everything the arbiter's grant can do. -/
theorem grantNext_cases (i : ChoiceInput) (first : WriterBlock) (s : State) :
    grantNext i first s = s ∨ ∃ g, arbiterChoice i s = some g ∧ grantNext i first s = beginGrant first g s := by
  unfold grantNext
  split
  · rename_i g hg
    exact .inr ⟨g, hg, rfl⟩
  · exact .inl rfl

/-- The beats kept at a grant are those of the transaction that are still open. -/
theorem openBeats_sub (t : HostTransaction) (s : State) : ∀ b ∈ openBeats t s, b ∈ t.forward := by
  intro b hb
  exact (List.mem_filter.mp hb).1

/-! ### Where the fetch goes on -/

/-- A fetch point found lies at or after the place the search began, and its block is one of its group's. -/
theorem fetchFrom_spec (s : State) : ∀ (n g k p a : Nat), fetchFrom s n g k = some (p, a) →
    ∃ g' k', p = 4 * g' + k' ∧ g ≤ g' ∧ g' < g + n ∧ (g' = g → k ≤ k') ∧ (s.groupBlocks g')[k']? = some a
  | 0, _, _, _, _, h => by simp [fetchFrom] at h
  | n + 1, g, k, p, a, h => by
    unfold fetchFrom at h
    split at h
    · rename_i b hb
      obtain ⟨rfl, rfl⟩ := Prod.mk.inj (Option.some.inj h)
      exact ⟨g, k, rfl, Nat.le_refl _, by omega, fun _ => Nat.le_refl _, hb⟩
    · obtain ⟨g', k', hp, hg, hn, hk, ha⟩ := fetchFrom_spec s n (g + 1) 0 p a h
      exact ⟨g', k', hp, by omega, by omega, by omega, ha⟩

/-- The blocks kept at a FRAME_START are the first of those that had been fetched. -/
theorem keepFetched_sub (s : State) : ∀ (l : List LineBlock) (p : Nat), (keepFetched s p l).1 <+: l
  | [], _ => by simp [keepFetched]
  | b :: rest, p => by
    unfold keepFetched
    split
    · split
      · exact List.cons_prefix_cons.mpr ⟨rfl, keepFetched_sub s rest _⟩
      · exact List.nil_prefix
    · exact List.nil_prefix

/-! ### The start-up -/

/-- The eight refreshes of step 3 lead to step 4 (R176). -/
theorem StartUpStep.refreshes_lead (n : Nat) (h : n ≤ 7) :
    (StartUpStep.next^[n] (.refreshes 0)) = .refreshes n ∧ (StartUpStep.next^[8] (.refreshes 0)) = .modeSet := by
  refine ⟨?_, rfl⟩
  interval_cases n <;> rfl

end Sys2Proof.Machine
end

