-- ==== Sys2Proof/Laws/PerInstr.lean ====
section
/-! SUPPORT. What is stated of every command as syntax, one lemma per constructor: its payload fits bytes 16 to 251 of a slot. -/

namespace Sys2Proof.Laws.PayloadFits

/-- The payload of a well-formed command has room between the slot's header and its closing word (Table 11.1); an event's is empty. -/
def Statement (i : Instr) : Prop := i.wellFormed = true → (payloadBytes i).length ≤ 236

theorem powerOn : Statement (.powerOn) := fun _ => Nat.zero_le _
theorem resetLineLow : Statement (.resetLineLow) := fun _ => Nat.zero_le _
theorem resetRelease (x0) : Statement (.resetRelease x0) := fun _ => Nat.zero_le _
theorem startUpComplete : Statement (.startUpComplete) := fun _ => Nat.zero_le _
theorem millisecondTick (x0) : Statement (.millisecondTick x0) := fun _ => Nat.zero_le _
theorem periodEnd (x0) : Statement (.periodEnd x0) := fun _ => Nat.zero_le _
theorem markFires (x0) : Statement (.markFires x0) := fun _ => Nat.zero_le _
theorem shotClockEnd (x0) : Statement (.shotClockEnd x0) := fun _ => Nat.zero_le _
theorem hornTimerRunsOut (x0) : Statement (.hornTimerRunsOut x0) := fun _ => Nat.zero_le _
theorem lineEdge (x0) (x1) : Statement (.lineEdge x0 x1) := fun _ => Nat.zero_le _
theorem frameEnd (x0) : Statement (.frameEnd x0) := fun _ => Nat.zero_le _
theorem frameStart : Statement (.frameStart) := fun _ => Nat.zero_le _
theorem leadInEnd (x0) : Statement (.leadInEnd x0) := fun _ => Nat.zero_le _
theorem underrun (x0) (x1) : Statement (.underrun x0 x1) := fun _ => Nat.zero_le _
theorem intakeRetry : Statement (.intakeRetry) := fun _ => Nat.zero_le _
theorem dwellDone (x0) (x1) : Statement (.dwellDone x0 x1) := fun _ => Nat.zero_le _
theorem coverLimit (x0) (x1) : Statement (.coverLimit x0 x1) := fun _ => Nat.zero_le _
theorem messageExpiry (x0) : Statement (.messageExpiry x0) := fun _ => Nat.zero_le _
theorem passEnd (x0) : Statement (.passEnd x0) := fun _ => Nat.zero_le _
theorem hostWriteArrival (x0) (x1) : Statement (.hostWriteArrival x0 x1) := fun _ => Nat.zero_le _
theorem writeBeat (x0) (x1) : Statement (.writeBeat x0 x1) := fun _ => Nat.zero_le _
theorem hostWriteEnd (x0) (x1) : Statement (.hostWriteEnd x0 x1) := fun _ => Nat.zero_le _
theorem hostRead (x0) (x1) : Statement (.hostRead x0 x1) := fun _ => Nat.zero_le _
theorem completion : Statement (.completion) := fun _ => Nat.zero_le _
theorem watchedWrite (x0) : Statement (.watchedWrite x0) := fun _ => Nat.zero_le _
theorem refreshDue : Statement (.refreshDue) := fun _ => Nat.zero_le _
theorem accessEnd (x0) (x1) : Statement (.accessEnd x0 x1) := fun _ => Nat.zero_le _
theorem queueJoin (x0) : Statement (.queueJoin x0) := fun _ => Nat.zero_le _
theorem unknownKind (x0) (x1) (x2) (x3) : Statement (.unknownKind x0 x1 x2 x3) := fun _ => Nat.zero_le _
theorem nop (x0) : Statement (.nop x0) := fun _ => Nat.le_of_ble_eq_true rfl
theorem ackFlags (x0) (x1) : Statement (.ackFlags x0 x1) := fun _ => Nat.le_of_ble_eq_true rfl
theorem setAttnMask (x0) (x1) : Statement (.setAttnMask x0 x1) := fun _ => Nat.le_of_ble_eq_true rfl
theorem ackCauses (x0) : Statement (.ackCauses x0) := fun _ => Nat.le_of_ble_eq_true rfl
theorem restart (x0) : Statement (.restart x0) := fun _ => Nat.le_of_ble_eq_true rfl
theorem setScreen (x0) (x1) (x2) : Statement (.setScreen x0 x1 x2) := fun _ => Nat.le_of_ble_eq_true rfl
theorem stageZone (x0) (x1) (x2) : Statement (.stageZone x0 x1 x2) := fun _ => Nat.le_of_ble_eq_true rfl
theorem applyPlan (x0) : Statement (.applyPlan x0) := fun _ => Nat.le_of_ble_eq_true rfl
theorem cancelStage (x0) : Statement (.cancelStage x0) := fun _ => Nat.le_of_ble_eq_true rfl
theorem setOutputMode (x0) (x1) : Statement (.setOutputMode x0 x1) := fun _ => Nat.le_of_ble_eq_true rfl
theorem setHouseSlate (x0) (x1) (x2) : Statement (.setHouseSlate x0 x1 x2) := fun _ => Nat.le_of_ble_eq_true rfl
theorem setFont (x0) (x1) (x2) : Statement (.setFont x0 x1 x2) := fun _ => Nat.le_of_ble_eq_true rfl
theorem setRing (x0) (x1) (x2) (x3) (x4) (x5) : Statement (.setRing x0 x1 x2 x3 x4 x5) := fun _ => Nat.le_of_ble_eq_true rfl
theorem holdFrames (x0) (x1) (x2) : Statement (.holdFrames x0 x1 x2) := fun _ => Nat.le_of_ble_eq_true rfl
theorem releaseFrames (x0) (x1) (x2) : Statement (.releaseFrames x0 x1 x2) := fun _ => Nat.le_of_ble_eq_true rfl
theorem discardFrames (x0) (x1) (x2) : Statement (.discardFrames x0 x1 x2) := fun _ => Nat.le_of_ble_eq_true rfl
theorem roll (x0) (x1) : Statement (.roll x0 x1) := fun _ => Nat.le_of_ble_eq_true rfl
theorem setSpeed (x0) (x1) (x2) : Statement (.setSpeed x0 x1 x2) := fun _ => Nat.le_of_ble_eq_true rfl
theorem stopReplay (x0) : Statement (.stopReplay x0) := fun _ => Nat.le_of_ble_eq_true rfl
theorem setGameClock (x0) (x1) (x2) (x3) (x4) : Statement (.setGameClock x0 x1 x2 x3 x4) := fun _ => Nat.le_of_ble_eq_true rfl
theorem startClock (x0) : Statement (.startClock x0) := fun _ => Nat.le_of_ble_eq_true rfl
theorem stopClock (x0) : Statement (.stopClock x0) := fun _ => Nat.le_of_ble_eq_true rfl
theorem adjustClock (x0) (x1) : Statement (.adjustClock x0 x1) := fun _ => Nat.le_of_ble_eq_true rfl
theorem setMark (x0) (x1) (x2) (x3) (x4) : Statement (.setMark x0 x1 x2 x3 x4) := fun _ => Nat.le_of_ble_eq_true rfl
theorem setShotClock (x0) (x1) (x2) (x3) (x4) : Statement (.setShotClock x0 x1 x2 x3 x4) := fun _ => Nat.le_of_ble_eq_true rfl
theorem shotReset (x0) : Statement (.shotReset x0) := fun _ => Nat.le_of_ble_eq_true rfl
theorem shotStart (x0) : Statement (.shotStart x0) := fun _ => Nat.le_of_ble_eq_true rfl
theorem shotStop (x0) : Statement (.shotStop x0) := fun _ => Nat.le_of_ble_eq_true rfl
theorem shotBlank (x0) : Statement (.shotBlank x0) := fun _ => Nat.le_of_ble_eq_true rfl
theorem setHorn (x0) (x1) (x2) (x3) : Statement (.setHorn x0 x1 x2 x3) := fun _ => Nat.le_of_ble_eq_true rfl
theorem soundHorn (x0) (x1) : Statement (.soundHorn x0 x1) := fun _ => Nat.le_of_ble_eq_true rfl
theorem setLine (x0) (x1) (x2) (x3) (x4) (x5) : Statement (.setLine x0 x1 x2 x3 x4 x5) := fun _ => Nat.le_of_ble_eq_true rfl
theorem setCapture (x0) (x1) (x2) (x3) (x4) : Statement (.setCapture x0 x1 x2 x3 x4) := fun _ => Nat.le_of_ble_eq_true rfl
theorem setScore (x0) (x1) (x2) : Statement (.setScore x0 x1 x2) := fun _ => Nat.le_of_ble_eq_true rfl
theorem addScore (x0) (x1) (x2) : Statement (.addScore x0 x1 x2) := fun _ => Nat.le_of_ble_eq_true rfl
theorem setFlash (x0) (x1) : Statement (.setFlash x0 x1) := fun _ => Nat.le_of_ble_eq_true rfl
theorem defineSpot (x0) (x1) : Statement (.defineSpot x0 x1) := fun _ => Nat.le_of_ble_eq_true rfl
theorem withdrawSpot (x0) (x1) : Statement (.withdrawSpot x0 x1) := fun _ => Nat.le_of_ble_eq_true rfl
theorem setRotation (x0) (x1) (x2) (x3) : Statement (.setRotation x0 x1 x2 x3) := by
  intro h
  simp only [Instr.wellFormed, rotationWellFormed, Bool.and_eq_true, decide_eq_true_eq] at h
  simp only [payloadBytes, List.length_append, List.length_cons, List.length_nil]
  omega
theorem setSting (x0) (x1) (x2) : Statement (.setSting x0 x1 x2) := fun _ => Nat.le_of_ble_eq_true rfl
theorem setContract (x0) (x1) (x2) : Statement (.setContract x0 x1 x2) := fun _ => Nat.le_of_ble_eq_true rfl
theorem resetTotals (x0) (x1) : Statement (.resetTotals x0 x1) := fun _ => Nat.le_of_ble_eq_true rfl
theorem postMessage (x0) (x1) : Statement (.postMessage x0 x1) := by
  intro h
  simp only [Instr.wellFormed, MessagePayload.wellFormed, Bool.and_eq_true, decide_eq_true_eq] at h
  simp only [payloadBytes, messageBytes, halfBytes, List.length_append, List.length_cons, List.length_nil]
  omega
theorem cancelMessage (x0) (x1) : Statement (.cancelMessage x0 x1) := fun _ => Nat.le_of_ble_eq_true rfl
theorem clearMessages (x0) : Statement (.clearMessages x0) := fun _ => Nat.le_of_ble_eq_true rfl
theorem setTicker (x0) (x1) (x2) : Statement (.setTicker x0 x1 x2) := fun _ => Nat.le_of_ble_eq_true rfl

end Sys2Proof.Laws.PayloadFits
end

