-- ==== Sys2Proof/Laws/StatusBlock.lean ====
section
/-! SUPPORT. The layout of Table 11.8: numbers as bytes, where a field of a list of fields stands, how many bytes each group of
fields takes, and what a write-back puts into a queue with room. -/

namespace Sys2Proof.Machine

/-! ### Numbers as bytes -/

@[simp] theorem leBytes_length : ∀ n v : Nat, (leBytes n v).length = n
  | 0, _ => rfl
  | n + 1, v => by simp [leBytes, leBytes_length n]

/-- The n low bytes of a number give it back modulo 256^n. -/
theorem ofLeBytes_leBytes : ∀ n v : Nat, ofLeBytes (leBytes n v) = v % 256 ^ n
  | 0, v => by simp [leBytes, ofLeBytes, Nat.mod_one]
  | n + 1, v => by
    simp only [leBytes, ofLeBytes, ofLeBytes_leBytes n, BitVec.toNat_ofNat]
    rw [show (256 : Nat) ^ (n + 1) = 256 * 256 ^ n from by rw [pow_succ, Nat.mul_comm], Nat.mod_mul]

/-! ### Fields -/

theorem freeBytes_length (frame : Nat) : ∀ n o : Nat, (freeBytes frame o n).length = n
  | 0, _ => rfl
  | n + 1, o => by simp [freeBytes, freeBytes_length frame n]

@[simp] theorem StatusField.bytes_length (frame o : Nat) (f : StatusField) : (f.bytes frame o).length = f.size := by
  cases f <;> simp [StatusField.bytes, StatusField.size, freeBytes_length]

/-- How many bytes fields take. -/
def fieldsSize (l : List StatusField) : Nat := (l.map StatusField.size).sum

@[simp] theorem fieldsSize_nil : fieldsSize [] = 0 := rfl

@[simp] theorem fieldsSize_cons (f : StatusField) (l : List StatusField) : fieldsSize (f :: l) = f.size + fieldsSize l := by
  simp [fieldsSize]

@[simp] theorem fieldsSize_append (l m : List StatusField) : fieldsSize (l ++ m) = fieldsSize l + fieldsSize m := by
  simp [fieldsSize]

theorem fieldBytes_append (frame : Nat) : ∀ (l m : List StatusField) (o : Nat),
    fieldBytes frame o (l ++ m) = fieldBytes frame o l ++ fieldBytes frame (o + fieldsSize l) m
  | [], m, o => by simp [fieldBytes]
  | f :: l, m, o => by simp [fieldBytes, fieldBytes_append frame l m, Nat.add_assoc]

@[simp] theorem fieldBytes_length (frame : Nat) : ∀ (l : List StatusField) (o : Nat), (fieldBytes frame o l).length = fieldsSize l
  | [], _ => rfl
  | f :: l, o => by simp [fieldBytes, fieldBytes_length frame l]

/-- A field's own bytes stand behind those of the fields before it. -/
theorem fieldBytes_field (frame : Nat) (before after : List StatusField) (f : StatusField) :
    ((fieldBytes frame 0 (before ++ f :: after)).drop (fieldsSize before)).take f.size = f.bytes frame (fieldsSize before) := by
  rw [fieldBytes_append, List.drop_left' (by simp), fieldBytes, List.take_left' (by simp)]
  simp

/-- A number stored as a field is read back at the field's offset. -/
theorem fieldBytes_num (frame : Nat) (before after : List StatusField) (n v o : Nat) (ho : o = fieldsSize before) :
    ofLeBytes (((fieldBytes frame 0 (before ++ .num n v :: after)).drop o).take n) = v % 256 ^ n := by
  subst ho
  exact (congrArg ofLeBytes (fieldBytes_field frame before after (.num n v))).trans (ofLeBytes_leBytes n v)

/-! ### The sizes of the groups of Table 11.8 -/

@[simp] theorem sourceFields_size (c : CaptureSource) : fieldsSize (sourceFields c) = 2 := by cases c <;> rfl

@[simp] theorem captureFields_size (r : Option CaptureRecord) : fieldsSize (captureFields r) = 14 := by cases r <;> rfl

theorem channelFields_size (c : CaptureChannel) : fieldsSize (channelFields c) = 32 := by
  simp [channelFields, StatusField.size]

theorem slotFields_size (s : State) (k : Nat) : fieldsSize (slotFields s k) = 8 := by
  unfold slotFields
  split
  · unfold slotFrameField
    split <;> rfl
  · rfl

theorem tickerFields_size (t : TickerUnit) : fieldsSize (tickerFields t) = 16 := by
  unfold tickerFields
  cases t.showing <;> cases t.lastRemoved <;> rfl

theorem zoneFlags_size (z : SponsorZone) : (zoneFlags z).size = 1 := by
  unfold zoneFlags
  split <;> rfl

theorem showingCounts_size (h : Option Showing) : fieldsSize (showingCounts h) = 8 := by cases h <;> rfl

theorem sponsorFields_size (s : State) (z : ZoneIx) : fieldsSize (sponsorFields s z) = 16 := by
  have h := zoneFlags_size s.rotation.zones[z]
  simp only [sponsorFields, fieldsSize_append, fieldsSize_cons, fieldsSize_nil, h, showingCounts_size]
  rfl

theorem sponsorRecord_size (s : State) (j : Nat) : fieldsSize (sponsorRecord s j) = 16 := by
  unfold sponsorRecord
  split
  · exact sponsorFields_size s _
  · rfl

theorem spotFields_size (s : State) (j : Nat) : fieldsSize (spotFields s j) = 16 := by
  unfold spotFields
  split <;> rfl

/-- Groups of one size, one after another. -/
theorem fieldsSize_flatMap {α : Type} (g : α → List StatusField) (n : Nat) (h : ∀ a, fieldsSize (g a) = n) :
    ∀ l : List α, fieldsSize (l.flatMap g) = l.length * n
  | [] => by simp [fieldsSize]
  | a :: l => by simp [h, fieldsSize_flatMap g n h l, Nat.succ_mul, Nat.add_comm]

/-- The block is the 1,696 bytes of offsets 0x000 to 0x69F. -/
theorem statusFields_size (s : State) : fieldsSize (statusFields s) = 1696 := by
  have hc := fieldsSize_flatMap (fun c : Fin 4 => channelFields s.console.channels[c]) 32 (fun c => channelFields_size _) (List.finRange 4)
  have hs := fieldsSize_flatMap (slotFields s) 8 (slotFields_size s) (List.range 64)
  have hj := fieldsSize_flatMap (sponsorRecord s) 16 (sponsorRecord_size s) (List.range 4)
  have hp := fieldsSize_flatMap (spotFields s) 16 (spotFields_size s) (List.range 48)
  have hz := fieldsSize_flatMap (zoneFields s) 4 (fun _ => rfl) allZones
  rw [List.length_finRange] at hc
  rw [List.length_range] at hs hj hp
  rw [show allZones.length = 16 from rfl] at hz
  simp only [statusFields, fieldsSize_append, hc, hs, hj, hp, hz, tickerFields_size]
  simp [headFields, clockFields, markFields, scoreFields, replayFields, logFields, StatusField.size]

theorem statusBytes_length (s : State) : (statusBytes s).length = 1696 := by
  rw [statusBytes, fieldBytes_length, statusFields_size]

/-! ### The write-back (R185) -/

theorem statusEntries_length (s : State) : (statusEntries s).length = 29 := by simp [statusEntries]

/-- Writes offered to a queue with room for all of them, behind nothing, join it in their order. -/
theorem offerAll_room : ∀ (l : List PartWrite) (m : MemoryController), m.waitCommand = [] →
    m.queue.length + l.length ≤ Config.queueCapacity → offerAll l m = { m with queue := m.queue ++ l }
  | [], m, _, _ => by simp [offerAll]
  | w :: l, m, hw, hr => by
    have hr' : m.queue.length + (l.length + 1) ≤ Config.queueCapacity := hr
    have h1 : m.offerCommand w 0 = { m with queue := m.queue ++ [w] } := by
      have hlt : m.queue.length < Config.queueCapacity := by omega
      simp [MemoryController.offerCommand, MemoryController.hasRoom, hw, hlt]
    rw [offerAll, h1, offerAll_room l { m with queue := m.queue ++ [w] } hw (by simp; omega)]
    simp

end Sys2Proof.Machine
end

