-- ==== Sys2Proof/Laws/Tick.lean ====
section
/-! SUPPORT. What the parts of a millisecond tick can do: the order of the parts, captures and events handed on, and a tick without an
edge, whatever the order. -/

namespace Sys2Proof.Machine

/-! ### The order of a tick's parts -/

theorem nodup_eraseDups {α : Type} [DecidableEq α] : ∀ (n : Nat) (l : List α), l.length ≤ n → l.eraseDups.Nodup
  | 0, l, h => by
    have : l = [] := List.length_eq_zero_iff.mp (Nat.le_zero.mp h)
    subst this
    exact List.nodup_nil
  | n + 1, [], _ => List.nodup_nil
  | n + 1, a :: rest, h => by
    rw [List.eraseDups_cons, List.nodup_cons]
    refine ⟨fun hm => ?_, nodup_eraseDups n _ ?_⟩
    · rw [List.mem_eraseDups, List.mem_filter] at hm
      simp at hm
    · exact Nat.le_trans (List.length_filter_le _ _) (Nat.le_of_succ_le_succ h)

/-- A completed order names no part twice. -/
theorem completeOrder_nodup (order : List TickPart) : (completeOrder order).Nodup := nodup_eraseDups _ _ (Nat.le_refl _)

/-- A completed order names every part. -/
theorem mem_completeOrder (order : List TickPart) (p : TickPart) : p ∈ completeOrder order := by
  rw [completeOrder, List.mem_eraseDups, List.mem_append]
  right
  cases p with
  | clockWork => decide
  | line n => revert n; decide

/-! ### The lines of the console replaced -/

/-- The state with its console lines replaced. -/
def State.withLines (L : Vector ConsoleLine 8) (s : State) : State := { s with console := { s.console with lines := L } }

@[simp] theorem withLines_withLines (L M : Vector ConsoleLine 8) (s : State) : (s.withLines L).withLines M = s.withLines M := rfl
@[simp] theorem withLines_lines (L : Vector ConsoleLine 8) (s : State) : (s.withLines L).console.lines = L := rfl
@[simp] theorem withLines_clock (L : Vector ConsoleLine 8) (s : State) : (s.withLines L).clock = s.clock := rfl
@[simp] theorem withLines_seeded (L : Vector ConsoleLine 8) (s : State) : (s.withLines L).console.seeded = s.console.seeded := rfl

theorem withLines_self (s : State) : s.withLines s.console.lines = s := rfl

/-- Replacing the lines commutes with a capture. -/
theorem captureOn_withLines (ev : CaptureEvent) (n : Fin 4) (L : Vector ConsoleLine 8) (s : State) :
    captureOn ev n (s.withLines L) = (captureOn ev n s).withLines L := by
  unfold captureOn
  have h : (s.withLines L).console.channels = s.console.channels := rfl
  simp only [h, withLines_clock]
  split <;> rfl

theorem fireCapture_withLines (ev : CaptureEvent) (L : Vector ConsoleLine 8) (s : State) :
    fireCapture ev (s.withLines L) = (fireCapture ev s).withLines L := by
  simp only [fireCapture, captureOn_withLines]

theorem fireCaptureIf_withLines (c : Bool) (ev : CaptureEvent) (L : Vector ConsoleLine 8) (s : State) :
    fireCaptureIf c ev (s.withLines L) = (fireCaptureIf c ev s).withLines L := by
  cases c
  · rfl
  · exact fireCapture_withLines ev L s

theorem raiseIf_withLines (c : Bool) (f : Flag) (L : Vector ConsoleLine 8) (s : State) :
    (s.withLines L).raiseIf c f = (s.raiseIf c f).withLines L := by
  cases c <;> rfl

theorem handOn_withLines (e : ClockEvents) (L : Vector ConsoleLine 8) (s : State) :
    handOn e (s.withLines L) = (handOn e s).withLines L := by
  simp only [handOn, raiseIf_withLines, fireCaptureIf_withLines, withLines_clock]

/-! ### Captures -/

/-- A capture changes the channels and the flags alone. -/
theorem captureOn_frame (ev : CaptureEvent) (n : Fin 4) (s : State) :
    captureOn ev n s =
      { s with
        console := { s.console with channels := (captureOn ev n s).console.channels }
        command := { s.command with flags := (captureOn ev n s).command.flags } } := by
  unfold captureOn
  dsimp only
  split <;> rfl

/-- The states that differ from a state in channels and flags alone. -/
theorem fireCapture_frame (ev : CaptureEvent) (s : State) :
    fireCapture ev s =
      { s with
        console := { s.console with channels := (fireCapture ev s).console.channels }
        command := { s.command with flags := (fireCapture ev s).command.flags } } := by
  have h0 := captureOn_frame ev 0 s
  have h1 := captureOn_frame ev 1 (captureOn ev 0 s)
  have h2 := captureOn_frame ev 2 (captureOn ev 1 (captureOn ev 0 s))
  have h3 := captureOn_frame ev 3 (captureOn ev 2 (captureOn ev 1 (captureOn ev 0 s)))
  unfold fireCapture
  rw [h3, h2, h1, h0]

/-- What one channel's capture does to every channel. -/
theorem captureOn_channels (ev : CaptureEvent) (n m : Fin 4) (s : State) :
    (captureOn ev n s).console.channels[m] =
      if m = n ∧ (s.console.channels[n]).source.firesOn ev = true then (s.console.channels[n]).take s.clock
      else s.console.channels[m] := by
  unfold captureOn
  dsimp only
  by_cases hf : (s.console.channels[n]).source.firesOn ev = true
  · rw [if_pos hf]
    by_cases hm : m = n
    · subst hm
      rw [if_pos ⟨rfl, hf⟩]
      simp [State.raise]
    · rw [if_neg (fun h => hm h.1)]
      have : n.val ≠ m.val := fun h => hm (Fin.ext h.symm)
      simp [State.raise, this]
  · rw [if_neg hf, if_neg (fun h => hf h.2)]

theorem captureOn_clock (ev : CaptureEvent) (n : Fin 4) (s : State) : (captureOn ev n s).clock = s.clock := by
  rw [captureOn_frame]

theorem fireCapture_clock (ev : CaptureEvent) (s : State) : (fireCapture ev s).clock = s.clock := by
  rw [fireCapture_frame]

/-- A channel's source decides whether it fires, so a channel already served is not looked at again. -/
theorem fireCapture_channels (ev : CaptureEvent) (m : Fin 4) (s : State) :
    (fireCapture ev s).console.channels[m] =
      if (s.console.channels[m]).source.firesOn ev = true then (s.console.channels[m]).take s.clock
      else s.console.channels[m] := by
  unfold fireCapture
  simp only [captureOn_channels, captureOn_clock]
  match m with
  | 0 => simp
  | 1 => simp
  | 2 => simp
  | 3 => simp

/-! ### The clock unit's events handed on -/

/-- The state with its clock unit replaced. -/
def State.withClock (c : ClockUnit) (s : State) : State := { s with clock := c }

@[simp] theorem withClock_clock (c : ClockUnit) (s : State) : (s.withClock c).clock = c := rfl
@[simp] theorem withClock_console (c : ClockUnit) (s : State) : (s.withClock c).console = s.console := rfl

theorem withClock_withLines (c : ClockUnit) (L : Vector ConsoleLine 8) (s : State) :
    (s.withLines L).withClock c = (s.withClock c).withLines L := rfl

theorem fireCapture_lines (ev : CaptureEvent) (s : State) : (fireCapture ev s).console.lines = s.console.lines := by
  rw [fireCapture_frame]

theorem fireCapture_seeded (ev : CaptureEvent) (s : State) : (fireCapture ev s).console.seeded = s.console.seeded := by
  rw [fireCapture_frame]

theorem fireCaptureIf_lines (c : Bool) (ev : CaptureEvent) (s : State) :
    (fireCaptureIf c ev s).console.lines = s.console.lines := by
  cases c
  · rfl
  · exact fireCapture_lines ev s

theorem fireCaptureIf_seeded (c : Bool) (ev : CaptureEvent) (s : State) :
    (fireCaptureIf c ev s).console.seeded = s.console.seeded := by
  cases c
  · rfl
  · exact fireCapture_seeded ev s

theorem fireCaptureIf_clock (c : Bool) (ev : CaptureEvent) (s : State) : (fireCaptureIf c ev s).clock = s.clock := by
  cases c
  · rfl
  · exact fireCapture_clock ev s

theorem raiseIf_console (c : Bool) (f : Flag) (s : State) : (s.raiseIf c f).console = s.console := by cases c <;> rfl

theorem raiseIf_clock (c : Bool) (f : Flag) (s : State) : (s.raiseIf c f).clock = s.clock := by cases c <;> rfl

theorem handOn_lines (e : ClockEvents) (s : State) : (handOn e s).console.lines = s.console.lines := by
  simp only [handOn, fireCaptureIf_lines, raiseIf_console]

theorem handOn_seeded (e : ClockEvents) (s : State) : (handOn e s).console.seeded = s.console.seeded := by
  simp only [handOn, fireCaptureIf_seeded, raiseIf_console]

/-- Handing events on leaves the clock unit as it stands. -/
theorem handOn_clock (e : ClockEvents) (s : State) : (handOn e s).clock = s.clock := by
  simp only [handOn, fireCaptureIf_clock, raiseIf_clock]

/-! ### A tick without an edge -/

/-- The lines with the difference counts of some of them set to 0. -/
def cleared (l : List TickPart) (L : Vector ConsoleLine 8) : Vector ConsoleLine 8 :=
  Vector.ofFn fun n : Fin 8 => if TickPart.line n ∈ l then { L[n] with diff := 0 } else L[n]

theorem cleared_nil (L : Vector ConsoleLine 8) : cleared [] L = L := by
  ext i hi
  simp [cleared]

theorem cleared_get (l : List TickPart) (L : Vector ConsoleLine 8) (n : Fin 8) :
    (cleared l L)[n] = if TickPart.line n ∈ l then { L[n] with diff := 0 } else L[n] := by
  simp [cleared]

/-- Clearing a line that is already cleared changes nothing, so the clears of a list add up. -/
theorem cleared_cons_line (n : Fin 8) (l : List TickPart) (L : Vector ConsoleLine 8) :
    cleared l (L.set n.val { L[n] with diff := 0 } n.isLt) = cleared (.line n :: l) L := by
  ext i hi
  by_cases h : n.val = i
  · subst h
    simp [cleared]
  · have hn : (⟨i, hi⟩ : Fin 8) ≠ n := fun e => h (by rw [← e])
    simp [cleared, h, hn]

theorem cleared_cons_clock (l : List TickPart) (L : Vector ConsoleLine 8) : cleared (.clockWork :: l) L = cleared l L := by
  ext i hi
  simp [cleared]

/-- A sample equal to the accepted level clears the line's count and does nothing else (R89). -/
theorem sampleLine_quiet {lines : Byte} {n : Fin 8} {s : State} (h : rawLevel lines n = (s.console.lines[n]).accepted) :
    sampleLine lines n s = s.withLines (s.console.lines.set n.val { s.console.lines[n] with diff := 0 } n.isLt) := by
  simp [sampleLine, ConsoleLine.accepts, ConsoleLine.sampled, h, setLineState, State.withLines]

theorem tickPart_clock (lines : Byte) (s : State) (e : TickEvents) :
    tickPart lines .clockWork (s, e) =
      (handOn s.clock.tick.2 (s.withClock s.clock.tick.1), { e with clock := s.clock.tick.2 }) := rfl

theorem tickPart_line_quiet {lines : Byte} {n : Fin 8} {s : State} (e : TickEvents) (hs : s.console.seeded = true)
    (h : rawLevel lines n = (s.console.lines[n]).accepted) :
    tickPart lines (.line n) (s, e) =
      (s.withLines (s.console.lines.set n.val { s.console.lines[n] with diff := 0 } n.isLt), e) := by
  have hacc : (s.console.lines[n]).accepts (rawLevel lines n) = false := by simp [ConsoleLine.accepts, h]
  simp only [tickPart, hs, if_true, hacc, Bool.false_eq_true, if_false, sampleLine_quiet h]

/-- A run of parts without an edge: the clock unit's work if it is among them, the counts of the sampled lines cleared, nothing else. -/
theorem tickRun_quiet (lines : Byte) (l : List TickPart) : ∀ (s : State) (e : TickEvents), l.Nodup → s.console.seeded = true →
    (∀ n : Fin 8, rawLevel lines n = (s.console.lines[n]).accepted) →
    tickRun lines l (s, e) =
      if TickPart.clockWork ∈ l then
        ((handOn s.clock.tick.2 (s.withClock s.clock.tick.1)).withLines (cleared l s.console.lines),
          { e with clock := s.clock.tick.2 })
      else (s.withLines (cleared l s.console.lines), e) := by
  induction l with
  | nil =>
    intro s e _ _ _
    rw [if_neg (List.not_mem_nil), cleared_nil, withLines_self, tickRun]
  | cons p rest ih =>
    intro s e hnd hs hq
    rw [List.nodup_cons] at hnd
    rw [tickRun]
    cases p with
    | clockWork =>
      rw [tickPart_clock, ih _ _ hnd.2 (by rw [handOn_seeded, withClock_console]; exact hs)
        (by rw [handOn_lines, withClock_console]; exact hq), if_neg hnd.1, if_pos (List.mem_cons_self),
        handOn_lines, withClock_console, cleared_cons_clock]
    | line n =>
      rw [tickPart_line_quiet e hs (hq n), ih _ _ hnd.2 (by rw [withLines_seeded]; exact hs) ?_]
      · have hc : TickPart.clockWork ∈ TickPart.line n :: rest ↔ TickPart.clockWork ∈ rest := by simp
        rw [withLines_clock, withLines_lines, withClock_withLines, handOn_withLines, withLines_withLines, withLines_withLines,
          cleared_cons_line]
        by_cases hm : TickPart.clockWork ∈ rest
        · rw [if_pos hm, if_pos (hc.mpr hm)]
        · rw [if_neg hm, if_neg (fun h => hm (hc.mp h))]
      · intro m
        rw [withLines_lines]
        by_cases h : n = m
        · subst h
          simp [hq n]
        · have : n.val ≠ m.val := fun e => h (Fin.ext e)
          simp [this, hq m]

/-- A tick without an edge is the clock unit's work with its events handed on, every difference count at 0, whatever the order. -/
theorem millisecondTick_quiet {t : TickInput} {s : State} (h : QuietTick t s) :
    millisecondTick t s =
      ((handOn s.clock.tick.2 (s.withClock s.clock.tick.1)).withLines (cleared (completeOrder t.order) s.console.lines),
        { clock := s.clock.tick.2, edges := [] }) := by
  unfold millisecondTick
  dsimp only
  rw [if_pos h.1, tickRun_quiet t.lines _ _ _ (completeOrder_nodup t.order) h.1 h.2, if_pos (mem_completeOrder t.order _)]

/-- After a tick without an edge every difference count is 0. -/
theorem cleared_complete (order : List TickPart) (L : Vector ConsoleLine 8) (n : Fin 8) :
    (cleared (completeOrder order) L)[n] = { L[n] with diff := 0 } := by
  rw [cleared_get, if_pos (mem_completeOrder order _)]

end Sys2Proof.Machine
end

