-- ==== Sys2Proof/Tests/Slice0.lean ====
section
/-! SUPPORT. Tests: terms that are not well formed, slots written out from Tables 11.1 and 11.2, the manual's worked examples, and a witness for
the hypotheses of every statement. Expected values come from the spec or are counted by hand from it. -/

namespace Sys2Proof.Tests

-- The kernel evaluates one test after another, so that no thread waits for it.
set_option Elab.async false

open Sys2Proof.Machine

/-! ### Small states -/

/-- Start-up complete, in the blanking period. -/
def base : State := { State.reset with phase := .running }

/-- A frame being scanned. -/
def scan : State := { base with timing := { frameNumber := 1, blanking := false } }

/-- A tick with every line low, in the order of the parts. -/
def lowTick : TickInput := { lines := 0, order := tickParts }

/-- The lines seeded low, the game clock in a state at a value, counting down. -/
def clocked (g : GameState) (v : Nat) : State :=
  { base with
    console := { base.console with seeded := true }
    clock := { base.clock with game := { base.clock.game with value := v, state := g } } }

/-- The next state of an outcome, for tests of one step. -/
def after (o : Host.Outcome State Fault Refusal) : Option State :=
  match o with
  | .next t => some t
  | .fault _ => none
  | .refused _ => none

/-- The bytes of a slot given from its first byte on, with the closing word given. -/
def slotOf (l : List Byte) (closing : List Byte) (o : Nat) : Byte := if o < 252 then l.getD o 0 else closing.getD (o - 252) 0

/-! ### Terms that are not well formed -/

theorem test_wf_tick_order : Instr.wellFormed (.millisecondTick { lines := 0, order := [.clockWork] }) = false := by decide
theorem test_wf_tick_repeats : Instr.wellFormed (.periodEnd { lines := 0, order := List.replicate 9 .clockWork }) = false := by decide
theorem test_wf_tick_ok : Instr.wellFormed (.millisecondTick lowTick) = true := by decide
theorem test_wf_cell : Instr.wellFormed (.underrun 128 0) = false := by decide
theorem test_wf_cell_row : Instr.wellFormed (.underrun 0 48) = false := by decide
theorem test_wf_sent : Instr.wellFormed (.accessEnd { sent := 513, waitOver := false } .commandUnit) = false := by decide
theorem test_wf_ids_short : Instr.wellFormed (.setRotation 0 0 2 [1]) = false := by decide
theorem test_wf_ids_long : Instr.wellFormed (.setRotation 0 0 0 (List.replicate 235 0)) = false := by decide +kernel
theorem test_wf_text_short :
    Instr.wellFormed (.postMessage 0 { tag := 1, priority := 0, repeats := 1, lifetime := 0, stoppageOnly := 0, length := 2, text := [0x41] }) =
      false := by decide
theorem test_wf_text_long :
    Instr.wellFormed
      (.postMessage 0 { tag := 1, priority := 0, repeats := 1, lifetime := 0, stoppageOnly := 0, length := 0, text := List.replicate 229 0 }) =
      false := by decide +kernel

/-! ### The queue -/

/-- The table gives no row any bits, so no word spells a command and the state is unchanged. -/
theorem test_no_word : decodeTableWord 32 7 = none ∧ (State.reset.withFetchWord 32 7).pending = [] := by decide

/-! ### Slots written out (Tables 11.1, 11.2): kind, tag, 12 bytes of results and ignored bytes, payload, closing word -/

theorem test_slot_nop : decodeSlot 3 0 (slotOf [0x00, 0x00, 0x01, 0x00] [0x01, 0x00, 0x00, 0x00]) = .command (.nop 3) := by decide

theorem test_slot_set_screen :
    decodeSlot 0 0 (slotOf [0x10, 0, 0x34, 0x12, 0, 0, 0, 0, 0, 0, 0, 0, 0, 0, 0, 0, 0x40, 0x12] [0x34, 0x12, 0x10, 0]) =
      .command (.setScreen 0 64 18) := by decide

theorem test_slot_hold_frames :
    decodeSlot 1 0
        (slotOf [0x21, 0, 2, 0, 0, 0, 0, 0, 0, 0, 0, 0, 0, 0, 0, 0, 0x10, 0, 0, 0, 0x00, 0x01, 0, 0] [2, 0, 0x21, 0]) =
      .command (.holdFrames 1 16 256) := by decide

theorem test_slot_adjust_clock :
    decodeSlot 2 0 (slotOf [0x33, 0, 9, 0, 0, 0, 0, 0, 0, 0, 0, 0, 0, 0, 0, 0, 0xFF, 0xFF, 0xFF, 0xFF] [9, 0, 0x33, 0]) =
      .command (.adjustClock 2 (-1)) := by decide

theorem test_slot_set_line :
    decodeSlot 0 0x80 (slotOf [0x40, 0, 1, 0, 0, 0, 0, 0, 0, 0, 0, 0, 0, 0, 0, 0, 7, 3, 1, 16] [1, 0, 0x40, 0]) =
      .command (.setLine 0 7 3 1 16 0x80) := by decide

theorem test_slot_add_score :
    decodeSlot 0 0 (slotOf [0x51, 0, 1, 0, 0, 0, 0, 0, 0, 0, 0, 0, 0, 0, 0, 0, 1, 0xAA, 0xAA, 0xAA, 3, 0, 0, 0] [1, 0, 0x51, 0]) =
      .command (.addScore 0 1 3) := by decide

theorem test_slot_set_rotation :
    decodeSlot 0 0 (slotOf [0x62, 0, 1, 0, 0, 0, 0, 0, 0, 0, 0, 0, 0, 0, 0, 0, 4, 3, 11, 12, 13, 99] [1, 0, 0x62, 0]) =
      .command (.setRotation 0 4 3 [11, 12, 13]) := by decide

theorem test_slot_set_ticker :
    decodeSlot 63 0 (slotOf [0x73, 0, 1, 0, 0, 0, 0, 0, 0, 0, 0, 0, 0, 0, 0, 0, 8, 0, 0x00, 0x02] [1, 0, 0x73, 0]) =
      .command (.setTicker 63 8 512) := by decide

theorem test_slot_malformed : decodeSlot 0 0 (slotOf [0x00, 0x00, 0x01, 0x00] [0x00, 0x00, 0x01, 0x00]) = .malformed := by decide

theorem test_slot_unknown : decodeSlot 0 0 (slotOf [0x05, 0x00, 0x01, 0x00] [0x01, 0x00, 0x05, 0x00]) = .unknownKind := by decide

/-! ### Worked examples and corners -/

/-- R102: 998 and 3 more is 999 with CLAMPED. -/
theorem test_add_score_clamps :
    (ruleAddScore 0 3 { base with score := { base.score with fields := base.score.fields.set 0 998 } }).2 = { code := .clamped } ∧
    (ruleAddScore 0 3 { base with score := { base.score with fields := base.score.fields.set 0 998 } }).1.score.fields[0] = 999 := by
  decide

/-- R101: a POSSESSION of 7 is stored as GUEST, and a HOME_BONUS of -1 as off, both CLAMPED. -/
theorem test_set_score_choices :
    (ruleSetScore 3 7 base).1.score.fields[3] = 2 ∧ (ruleSetScore 3 7 base).2.code = .clamped ∧
    (ruleSetScore 8 (-1) base).1.score.fields[8] = 0 ∧ (ruleSetScore 8 (-1) base).2.code = .clamped := by decide

/-- R117: the list 11, 12, 13, 11 with the cursor at 2: withdrawing 11 leaves 12, 13 with the cursor at 1; withdrawing 13 leaves
11, 12, 11 with the cursor at 1. -/
theorem test_withdraw_closes_up :
    let z : SponsorZone := { rotation := [11, 12, 13, 11], cursor := 2, sting := none, stingPending := false, showing := none }
    (z.without 11).rotation = [12, 13] ∧ (z.without 11).cursor = 1 ∧
    (z.without 13).rotation = [11, 12, 11] ∧ (z.without 13).cursor = 1 := by decide

/-- R57: half of 10 and 21 is 16 (the half rounded up), and weight 0 shows A. -/
theorem test_blend : blendValue 8 10 21 = 16 ∧ blendValue 0 10 21 = 10 ∧ blendValue 15 0 16 = 15 := by decide

/-- R89: a press one sample short of its filter time is no edge. -/
theorem test_filter_short :
    (ConsoleLine.reset.sampled true).accepted = false ∧ (ConsoleLine.reset.sampled true).diff = 1 := by decide

/-- R142: a value behind the read mark is held. -/
theorem test_read_mark_behind : (watchedWrite (-1) base).flagged .logReadHeld = true ∧ (watchedWrite (-1) base).exposure.readMark = 0 := by
  decide

/-- Table 10.3: a burst of four at index 3 wraps to 0 in sequential order and counts 3, 2, 1, 0 in interleaved order. -/
theorem test_beat_order :
    (List.range 4).map (beatIndex false .four 3) = [3, 0, 1, 2] ∧ (List.range 4).map (beatIndex true .four 3) = [3, 2, 1, 0] := by decide

/-- Table 11.8: the fields of the status block take 1,696 bytes. -/
theorem test_status_size : ((statusFields base).map StatusField.size).sum = 1696 := by decide +kernel

/-- R141: record 1,025 of the log stands in position 1. -/
theorem test_log_position : (recordWrite 1025 []).offset = 0x8020 := by decide

/-- Table 11.7: a record is 32 bytes. -/
theorem test_record_length :
    (proofRecord 1 0 .dwellDone false 0
      { spotId := 1, startVenue := 0, gameValue := 0, period := 0, framesOnAir := 1, countedFrames := 1, credit := 1, sting := false,
        overrun := false }).length = 32 := by decide

/-- R181: a refused command counts as refused, raises CMD_REFUSED and writes code 5 at its slot's bytes 4 to 7. -/
theorem test_refusal_result :
    (finishCommand 2 { code := .outOfRange } base).command.refused = 1 ∧
    (finishCommand 2 { code := .outOfRange } base).flagged .cmdRefused = true ∧
    (finishCommand 2 { code := .outOfRange } base).memctl.queue = [{ offset := 516, data := [5, 0, 0, 0] }] := by decide

/-! ### Witnesses: the machine and reset -/

theorem witness_StepRunsFrontCommand :
    (base.withPending [.nop 0]).pending = .nop 0 :: [] ∧ State.reset.pending = [] := by decide

theorem witness_HostCommandsDeliverResults :
    commandSlot (.soundHorn 3 0) = some 3 ∧ (commandRule (.soundHorn 3 0)).isSome = true ∧ base.phase = .running ∧
    (ruleSoundHorn 0 base).2.code.counted = false ∧ (ruleSoundHorn 100 base).2.code = .ok ∧
    base.memctl.waitCommand = [] ∧ base.memctl.queue.length < 64 := by decide

/-- The queue with a number of entries, and a record waiting or not. -/
def queued (n : Nat) (waits : Bool) : State :=
  { base with
    memctl := { base.memctl with
      queue := List.replicate n (resultWrite 0 { code := .ok })
      waitExposure := if waits then [resultWrite 1 { code := .ok }] else [] } }

theorem witness_HostCommandsDeliverResults_waiting :
    (queued 64 false).memctl.queue.length = 64 ∧ (queued 63 true).memctl.waitExposure ≠ [] ∧
    ({ code := .ok, afterRecords := true } : Result).afterRecords = true := by decide

/-- R171, R184: with 64 entries a result waits; a RESTART's result waits behind a record, which joins first. -/
theorem test_results_wait :
    (finishCommand 2 { code := .ok } (queued 64 false)).memctl.waitCommand = [{ write := resultWrite 2 { code := .ok }, behind := 0 }] ∧
    (finishCommand 2 { code := .ok, afterRecords := true } (queued 63 true)).memctl.waitCommand.map WaitingResult.behind = [1] ∧
    ((after (exec (.queueJoin .commandUnit) (finishCommand 2 { code := .ok, afterRecords := true } (queued 63 true)))).map fun u =>
      (u.memctl.queue.length, u.memctl.waitExposure, u.memctl.waitCommand.map WaitingResult.behind)) = some (64, [], [0]) := by
  decide +kernel

theorem witness_PortAndControllerEvents_behind :
    (finishCommand 2 { code := .ok, afterRecords := true } (queued 63 true)).memctl.queue.length < 64 ∧
    (∃ r ∈ (finishCommand 2 { code := .ok, afterRecords := true } (queued 63 true)).memctl.waitCommand.head?, 0 < r.behind) := by
  decide +kernel

/-- A part in start-up whose SDRAM carries out, or waits to carry out, a step. -/
def starting (step : StartUpStep) (access : Option Access) : State :=
  { State.reset with memctl := { State.reset.memctl with startUp := step, access := access } }

theorem witness_PowerUpSequence :
    { base with phase := .powerOnReset }.phase = .powerOnReset ∧ { base with phase := .resetLow }.phase = .resetLow ∧
    State.reset.phase = .startUp ∧ (starting .done none).memctl.startUp = .done ∧ (starting .done none).port.presented = none ∧
    { starting .done none with port := { State.reset.port with presented := some ⟨true, 8, .one⟩ } }.port.presented =
      some ⟨true, 8, .one⟩ := ⟨rfl, rfl, rfl, rfl, rfl, rfl⟩

theorem witness_PowerUpSequence_steps :
    (starting .wait none).phase = .startUp ∧ (starting .wait none).memctl.refreshDue = 0 ∧ (starting .wait none).memctl.access = none ∧
    (starting .wait none).memctl.startUp = .wait ∧ (starting .precharge (some .startUp)).memctl.access = some .startUp ∧
    (starting (.refreshes 6) (some .startUp)).memctl.startUp = .refreshes 6 ∧ State.reset.memctl.deadlineBegun = false ∧
    { State.reset.memctl with refreshDue := 1, deadlineBegun := true }.deadlineBegun = true ∧
    (starting .wait none).memctl.startUp ≠ .done := by decide

/-- R176: the eighth refresh is followed by the mode set, the seventh by another refresh, and the mode set by nothing. -/
theorem test_start_up_order :
    ([StartUpStep.refreshes 6, .refreshes 7, .modeSet].map fun x =>
      (after (exec (.accessEnd { sent := 0, waitOver := false } .commandUnit) (starting x (some .startUp)))).map fun u =>
        (u.memctl.startUp, u.memctl.access)) =
      [some (.refreshes 7, some .startUp), some (.modeSet, some .startUp), some (.done, none)] := by decide +kernel

/-- A running part whose SDRAM makes an access. -/
def accessing (a : Access) : State := { base with memctl := { base.memctl with access := some a } }

/-- A WRITE with its beats received and one of them to be written. -/
def oneBeat : ForwardBeat := { addr := 0x100, data := 0x0807060504030201, mask := 0xFF, remapped := false }

/-- A host WRITE of one beat. -/
def writing : HostTransaction :=
  { request := { isWrite := true, addr := 0x100, length := .one }, beats := 1, forward := [oneBeat], closing := none,
    completion := false, watched := none, readBase := 0, state := .granted }

/-- The part with a host transaction in progress. -/
def withHost (t : HostTransaction) (s : State) : State := { s with port := { s.port with transaction := some t } }

/-- The part with the one-beat WRITE granted, its bytes in memory. -/
def granted : State := putBeats [oneBeat] (withHost writing (accessing .playout))

theorem witness_GrantSound : GrantSound granted := by
  have h1 : granted.port.transaction = some writing := rfl
  have h2 : BurstLanded [oneBeat] granted := burstLanded_putBeats _ _
  refine ⟨?_, fun _ => ⟨rfl, writing, h1, rfl, fun _ => h2⟩⟩
  intro t ht _ _
  rw [h1] at ht
  cases ht
  rfl

theorem witness_ResetLineKeepsMemory :
    State.reset.phase = .startUp ∧ base.phase = .running ∧
    (accessing (.queueEntry { offset := 4, data := [1, 0, 0, 0] })).memctl.access = some (.queueEntry { offset := 4, data := [1, 0, 0, 0] }) ∧
    granted.memctl.access = some .playout ∧ granted.port.transaction = some writing ∧ writing.request.isWrite = true ∧
    granted.phase = .running ∧ (accessing .refresh).memctl.access = some .refresh := by decide

/-! ### Witnesses: ticks -/

theorem witness_TickMovesVenueTime :
    State.reset.phase = .startUp ∧ base.phase = .running ∧ { base with phase := .powerOnReset }.phase = .powerOnReset ∧
    { base with phase := .resetLow }.phase = .resetLow := ⟨rfl, rfl, rfl, rfl⟩

theorem quiet_clocked (g : GameState) (v : Nat) : QuietTick lowTick (clocked g v) := ⟨rfl, by
  intro n
  match n with
  | 0 => rfl
  | 1 => rfl
  | 2 => rfl
  | 3 => rfl
  | 4 => rfl
  | 5 => rfl
  | 6 => rfl
  | 7 => rfl⟩

/-- The clocked state with the horn timer at a value. -/
def sounding (n : Nat) (s : State) : State := { s with clock := { s.clock with horn := { s.clock.horn with timer := n } } }

theorem witness_QuietTickMovesClocks :
    QuietTick lowTick (clocked .running 2) ∧ ClocksOnlyMove (clocked .running 2).clock ∧
    QuietTick lowTick (sounding 1 (clocked .stopped 0)) ∧ ClocksOnlyMove (sounding 1 (clocked .stopped 0)).clock ∧
    (sounding 1 (clocked .stopped 0)).clock.horn.timer = 1 :=
  ⟨quiet_clocked .running 2, ⟨fun _ => by decide, by decide⟩, quiet_clocked .stopped 0, ⟨by decide, by decide⟩, rfl⟩

theorem witness_PeriodEndsAtEndValue :
    QuietTick lowTick (clocked .running 1) ∧ (clocked .running 1).clock.game.state = .running ∧
    (clocked .running 1).clock.game.moved = (clocked .running 1).clock.game.endValue := ⟨quiet_clocked .running 1, rfl, rfl⟩

/-- The clocked state with a mark at 5,000 ms with every action. -/
def marked : State :=
  { clocked .running 5001 with
    clock := { (clocked .running 5001).clock with mark0 := { value := some 5000, flag := true, horn := true, stop := true } } }

theorem witness_MarkFiresAtItsValue :
    QuietTick lowTick marked ∧ marked.clock.game.state = .running ∧ marked.clock.mark0.value = some marked.clock.game.moved :=
  ⟨quiet_clocked .running 5001, rfl, rfl⟩

/-- The clocked state with the shot clock RUNNING at a value. -/
def shotRunning (v : Nat) (s : State) : State :=
  { s with clock := { s.clock with shot := { s.clock.shot with value := v, state := .running } } }

/-- The clocked state with a RUNNING shot clock that does not follow the game clock. -/
def shotAlone (v : Nat) (s : State) : State :=
  { shotRunning v s with clock := { (shotRunning v s).clock with shot := { (shotRunning v s).clock.shot with follow := false } } }

theorem witness_PeriodEndsAtEndValue_shot :
    QuietTick lowTick (shotAlone 1 (clocked .running 1)) ∧ (shotAlone 2 (clocked .running 1)).clock.shot.follow = false ∧
    (shotAlone 2 (clocked .running 1)).clock.shot.state = .running ∧ 1 < (shotAlone 2 (clocked .running 1)).clock.shot.value ∧
    (shotAlone 1 (clocked .running 1)).clock.shot.value ≤ 1 := ⟨quiet_clocked .running 1, rfl, rfl, by decide, by decide⟩

/-- R66, R68, R77: the period's last tick still counts a shot clock that does not follow, and stops one that does. -/
theorem test_period_end_shot :
    [shotAlone 2 (clocked .running 1), shotAlone 1 (clocked .running 1), shotRunning 2 (clocked .running 1)].map (fun s =>
      (after (exec (.periodEnd lowTick) s)).map fun u => (u.clock.game.state, u.clock.shot.state, u.clock.shot.value)) =
      [some (.ended, .running, 1), some (.ended, .ended, 0), some (.ended, .stopped, 2)] := by decide +kernel

/-- R73, R80: a correction to 0 stops a shot clock that follows, and sounds the end horn. -/
theorem test_adjust_ends_period :
    (fun s : State => (s.clock.game.state, s.clock.shot.state, s.clock.horn.timer, s.flagged .gcEnded))
      (ruleAdjustClock (-600000) (shotRunning 24000 (clocked .running 5000))).1 = (.ended, .stopped, 2000, true) := by decide +kernel

theorem witness_ShotClockEndsAtZero :
    QuietTick lowTick (shotRunning 1 (clocked .running 2)) ∧ (shotRunning 1 (clocked .running 2)).clock.shot.value = 1 ∧
    (clocked .running 2).clock.game.moved ≠ (clocked .running 2).clock.game.endValue ∧
    (clocked .running 2).clock.mark0.value ≠ some 1 ∧ (clocked .running 2).clock.mark1.value ≠ some 1 :=
  ⟨quiet_clocked .running 2, rfl, by decide, by decide, by decide⟩

/-- The clocked state with line 0 of a function, its filter time over at the next sample. -/
def lined (f : LineFunction) (s : State) : State :=
  { s with
    console := { s.console with
      lines := s.console.lines.set 0 { function := f, activeHigh := true, filter := 8, accepted := false, diff := 7 } } }

/-- A tick with line 0 high. -/
def highTick : TickInput := { lines := 1, order := tickParts }

theorem witness_LineEdgeActs :
    (lined .start (clocked .stopped 5000)).console.seeded = true ∧
    (∀ m : Fin 8, m ≠ 0 → rawLevel highTick.lines m = ((lined .start (clocked .stopped 5000)).console.lines[m]).accepted) ∧
    rawLevel highTick.lines 0 ≠ ((lined .start (clocked .stopped 5000)).console.lines[(0 : Fin 8)]).accepted ∧
    ((lined .start (clocked .stopped 5000)).console.lines[(0 : Fin 8)]).filter ≤
      ((lined .start (clocked .stopped 5000)).console.lines[(0 : Fin 8)]).diff + 1 ∧
    rawLevel highTick.lines 0 = ((lined .start (clocked .stopped 5000)).console.lines[(0 : Fin 8)]).activeHigh := by decide

theorem witness_LineEdgeActs_clocks :
    ClocksOnlyMove { (clocked .stopped 5000).clock with game := { (clocked .stopped 5000).clock.game with state := .running } } ∧
    ClocksOnlyMove (clocked .running 5000).clock ∧ ClocksOnlyMove (shotRunning 2 (clocked .stopped 5000)).clock :=
  ⟨⟨fun _ => by decide, by decide⟩, ⟨fun _ => by decide, by decide⟩, ⟨by decide, fun _ => by decide⟩⟩

theorem witness_LineFilterCountsSamples :
    ConsoleLine.reset.diff = 0 ∧ true ≠ ConsoleLine.reset.accepted ∧ 7 < max 1 ConsoleLine.reset.filter ∧
    8 = max 1 ConsoleLine.reset.filter := by decide

theorem test_tick_start_edge :
    ((after (exec (.lineEdge 0 highTick) (lined .start (clocked .stopped 5000)))).map fun u => u.clock.game.state) = some .running := by
  decide +kernel

theorem test_tick_period_end :
    ((after (exec (.periodEnd lowTick) (clocked .running 1))).map fun u => (u.clock.game.state, u.clock.horn.timer)) =
      some (.ended, 2000) := by decide +kernel

theorem test_tick_mark_stop :
    ((after (exec (.markFires lowTick) marked)).map fun u => (u.clock.game.state, u.clock.game.value, u.flagged .mark0)) =
      some (.stopped, 5000, true) := by decide +kernel

theorem test_tick_shot_end :
    ((after (exec (.shotClockEnd lowTick) (shotRunning 1 (clocked .running 2)))).map
      fun u => (u.clock.shot.state, u.clock.horn.timer)) = some (.ended, 1000) := by decide +kernel

/-! ### Witnesses: clock, console and score commands -/

theorem witness_StartAndStopByState :
    (clocked .stopped 5).phase = .running ∧ (clocked .stopped 5).clock.game.state = .stopped ∧
    (clocked .running 5).clock.game.state = .running ∧ (clocked .ended 0).clock.game.state = .ended ∧
    { Roller.reset with state := .rolling, cutOnClock := true }.state ≠ .idle ∧ base.roller.state = .idle := by decide

theorem witness_ClockAndShotCommands :
    base.phase = .running ∧ (5999000#32).toNat ≤ 5999000 ∧ 1 ≤ (1#32).toNat ∧ base.clock.game.state ≠ .running ∧
    1000 ≤ (1000#32).toNat ∧ (99000#32).toNat ≤ 99000 ∧ 100 ≤ (100#16).toNat ∧ (5000#16).toNat ≤ 5000 ∧
    base.clock.shot.state = .blank ∧ (shotRunning 1 base).clock.shot.state = .running := by decide

theorem witness_AdjustClockCorrects :
    (600001#32).toInt > 600000 ∧ (0#32).toInt = 0 ∧ (-600000 : Int) ≤ (-600000 : Word).toInt ∧ (-600000 : Word).toInt ≠ 0 ∧
    (clocked .running 5000).clock.game.direction = .down ∧
    ((0 : Nat) : Int) = max 0 (min ((5999000 : Nat) : Int) (((clocked .running 5000).clock.game.value : Int) + (-600000 : Word).toInt)) := by
  decide

theorem witness_ConsoleFlashAndTickerSettings :
    (7#8).toNat = (7 : Fin 8).val ∧ lineFunction 6 = some .horn ∧ (3#8).toNat = (3 : Fin 4).val ∧
    captureSource 1 7 2 = some (.line 7 .any) ∧ (255#16).toNat ≤ 255 ∧ 255 < (256#16).toNat ∧ 16 < (17#8).toNat ∧
    1 ≤ (16#8).toNat ∧ (16#8).toNat ≤ 16 ∧ (4095#16).toNat ≤ 4095 := by decide

theorem witness_SetScoreClampsToRange :
    10 ≤ (10#8).toNat ∧ (9 : Fin 10).val = (9#8).toNat ∧ base.phase = .running ∧ (-1 : Word).toInt < 0 := by decide

theorem witness_AddScoreClampsTheSum :
    99 < (100#32).toInt ∧ (7 : Fin 10).val = (7#8).toNat ∧ (-99 : Int) ≤ (-99 : Word).toInt ∧ (-99 : Word).toInt ≤ 99 ∧
    ((0 : Nat) : Int) = max 0 (min (fieldMax 7 : Int) ((base.score.fields[(7 : Fin 10)] : Int) + (-99 : Word).toInt)) := by decide

theorem witness_ScoreChangeHandedOn :
    (0 : Fin 10).val = (0#8).toNat ∧ ((999 : Nat) : Int) = max 0 (min (fieldMax 0 : Int) (1000#32).toInt) ∧
    999 ≠ base.score.fields[(0 : Fin 10)] ∧ (-99 : Int) ≤ (99#32).toInt ∧ (99#32).toInt ≤ 99 ∧
    ((99 : Nat) : Int) = max 0 (min (fieldMax 1 : Int) ((base.score.fields[(1 : Fin 10)] : Int) + (99#32).toInt)) ∧
    99 ≠ base.score.fields[(1 : Fin 10)] := by decide

/-- R103, R119: a rise by ADD_SCORE starts the flash. -/
theorem test_add_score_flash : (ruleAddScore 1 3 base).1.score.guestFlash = 48 ∧ (ruleAddScore 1 (-3) base).1.score.guestFlash = 0 := by decide

/-! ### Witnesses: the composer -/

theorem witness_ComposerSettingsStored :
    base.composer.record.mode = .black ∧ 8 ≤ (8#8).toNat ∧ (128#8).toNat ≤ 128 ∧ 4 ≤ (4#8).toNat ∧ (48#8).toNat ≤ 48 ∧
    (∀ z : ZoneIx, (base.composer.live[z]).enable = true → (base.composer.live[z]).onScreen 8 4 = true) ∧
    base.composer.slate = none ∧ (3#8).toNat = OutputMode.slateOnly.code ∧
    (0#32).toNat % 4096 = 0 ∧ (0#32).toNat + base.composer.screenW * base.composer.screenH * 4096 ≤ base.controlBase ∧
    (0#32).toNat + 262144 ≤ base.controlBase ∧ (1#32).toNat % 4096 ≠ 0 ∧
    { base.composer.record with mode := .normal }.mode ≠ OutputMode.black := by decide +kernel

theorem witness_ComposerSettingsStored_slate : ∀ b ∈ base.composer.slate, b.toNat + 8 * 4 * 4096 ≤ base.controlBase := by
  intro b hb
  cases hb

/-- A FILL zone over the whole reset screen. -/
def fillPayload : ZonePayload :=
  { enable := 1, source := 0, x := 0, y := 0, w := 64, h := 18, level := 15, leadIn := 60, guard := ⟨0, 0, 0⟩, param := 0 }

theorem witness_StageZoneByItsChecks :
    15 < (16#8).toNat ∧ (15#8).toNat = (15 : ZoneIx).val ∧ (2#8).toNat > 1 ∧ { fillPayload with enable := 0 }.enable = 0 ∧
    fillPayload.enable = 1 ∧ fillPayload.x.toNat + fillPayload.w.toNat ≤ base.composer.screenW ∧
    fillPayload.y.toNat + fillPayload.h.toNat ≤ base.composer.screenH := by decide

/-- A part with a ring of one-cell slots and a plan of two SCOREBUG zones, four SPONSOR zones of 2 x 2 cells with a list at zone 2, live and
staged. -/
def planned : State :=
  let bug (x : Byte) : ZoneDesc :=
    { ZoneDesc.zero with enable := true, source := .scorebug, x := x, w := 16, h := 3, param := .absent }
  let spot : ZoneDesc := { ZoneDesc.zero with enable := true, source := .sponsor, y := 10, w := 2, h := 2, param := .absent }
  let plan : Plan := ((((((Plan.empty.with 0 (bug 0)).with 1 (bug 16)).with 2 spot).with 3 spot).with 4 spot).with 5 spot)
  { base with
    composer := { base.composer with live := plan, staged := plan }
    intake := { base.intake with ring := some { ringBase := 0, aliasBase := 32768, w := 1, h := 1, count := 4 } }
    rotation := { base.rotation with
      zones := base.rotation.zones.set 2 { rotation := [1], cursor := -1, sting := none, stingPending := false, showing := none } } }

/-- The code with which STAGE_ZONE of a payload answers. -/
def stageCode (s : State) (index : Byte) (p : ZonePayload) : ResultCode := (ruleStageZone index p s).2.code

/-- Table 1.2, check by check. -/
theorem test_stage_checks :
    stageCode planned 16 fillPayload = .outOfRange ∧ stageCode planned 6 { fillPayload with enable := 2 } = .outOfRange ∧
    stageCode planned 6 { fillPayload with enable := 0, source := 9 } = .ok ∧ stageCode planned 6 { fillPayload with source := 6 } = .outOfRange ∧
    stageCode planned 6 { fillPayload with w := 65 } = .outOfRange ∧
    stageCode planned 6 { fillPayload with source := 1, param := 1 } = .outOfRange ∧
    stageCode base 6 { fillPayload with source := 3 } = .noZone ∧ stageCode planned 6 { fillPayload with source := 2 } = .limit ∧
    stageCode planned 1 { fillPayload with source := 4 } = .sizeMismatch ∧
    stageCode planned 6 { fillPayload with source := 5, h := 1, w := 3 } = .sizeMismatch ∧
    stageCode planned 6 { fillPayload with source := 3, h := 1, w := 2 } = .sizeMismatch ∧
    stageCode planned 1 { fillPayload with source := 4, x := 15, w := 16, h := 3 } = .overlap ∧
    stageCode planned 2 { fillPayload with source := 2, w := 3 } = .bound ∧ stageCode planned 6 fillPayload = .ok := by decide +kernel

theorem witness_StageZoneByItsChecks_placeable : base.composer.staged.Placeable base.composer.screenW base.composer.screenH :=
  ⟨by decide, by decide, by decide, by decide, by decide, by decide, by decide, by
    have h : ∀ z : ZoneIx, (base.composer.staged[z]).isOn .scorebug = false := by decide
    intro z z' _ hz
    rw [h z] at hz
    cases hz⟩

theorem witness_FrameStartBuildsRecord :
    base.phase = .running ∧ base.timing.blanking = true ∧ base.command.statusInFlight = false ∧ base.memctl.waitCommand = [] ∧
    base.memctl.queue.length ≤ 35 ∧ { base.command with statusInFlight := true }.statusInFlight = true := by decide

/-- Zones of every source in the live plan, with a roll, a showing and a message to draw. -/
def drawing : State :=
  let zone (source : ZoneSource) (param : SourceParam) : ZoneDesc :=
    { ZoneDesc.zero with enable := true, source := source, w := 2, h := 2, param := param }
  { base with
    composer := { base.composer with
      live := ((((((Plan.empty.with 0 (zone .fill (.colour ⟨1, 2, 3⟩))).with 1 (zone .slate (.base 0))).with 2 (zone .sponsor .absent)).with 3
        (zone .replay .absent)).with 4 (zone .scorebug .absent)).with 5 (zone .ticker .absent)) }
    intake := { base.intake with
      ring := some { ringBase := 0, aliasBase := 32768, w := 1, h := 1, count := 4 }
      slots := [{ state := .filling, pins := 0 }, { state := .ready 5 1, pins := 0 }, { state := .held 6 2, pins := 0 }] }
    roller := { base.roller with state := .rolling, showPlan := some { a := 5, b := some 6, w16 := 8 } }
    rotation := { base.rotation with
      spots :=
        [{ id := 1, artBase := 4096, artW := 2, artH := 2, contract := 1, dwell := 30, minVisible := 0, spotClass := .any, delivered := 0,
           showings := 1, saturated := false, contractMet := false, withdrawing := false }]
      zones := base.rotation.zones.set 2
        { rotation := [1], cursor := 0, sting := none, stingPending := false,
          showing := some
            { spotId := 1, startVenue := 0, gameValue := 0, period := 0, framesOnAir := 0, countedFrames := 0, credit := 0, sting := false,
              overrun := false } } }
    ticker := { base.ticker with
      showing := some
        { entry := { tag := 1, priority := 3, repeats := 1, expiry := none, stoppageOnly := false, order := 0, text := [0x41], passes := 0 },
          position := -4, lastPass := false, cancel := none } } }

/-- R17, R21, Table 1.4: what each kind of zone draws, and the slots pinned. -/
theorem test_draw_states :
    ((after (exec .frameStart drawing)).map fun u =>
      (allZones.map fun z => (u.composer.record.zones[z]).active, u.composer.pins, u.intake.slots.map SlotRecord.pins,
        ([0, 1, 2, 3, 5] : List ZoneIx).map fun z => (u.composer.record.zones[z]).draw)) =
      some ([true, true, true, true, true, true] ++ List.replicate 10 false, [1, 2], [0, 1, 1],
        [some (.fill ⟨1, 2, 3⟩), some (.slate 0), some (.sponsor (some { base := 4096, w := 2, h := 2 })),
          some (.replay (some { a := ⟨5, 1⟩, b := some ⟨6, 2⟩, w16 := 8 })),
          some (.ticker { text := [0x41], position := -4, priority := 3 })]) := by decide +kernel

theorem witness_FrameStartBuildsRecord_draws :
    drawing.phase = .running ∧ drawing.timing.blanking = true ∧ drawing.intake.frames.Nodup ∧
    drawing.intake.slots[1]? = some { state := .ready 5 1, pins := 0 } ∧ (SlotState.ready 5 1).frame = some 5 ∧
    drawing.roller.showPlan = some { a := 5, b := some 6, w16 := 8 } ∧ (drawing.rotation.spot 1).isSome = true ∧
    drawing.ticker.showing.isSome = true := by decide

/-- A FILL zone of two by two cells with a lead-in, and the part about to end that lead-in. -/
def leading : State :=
  { base with
    composer := { base.composer with
      live := Plan.empty.with 0 { ZoneDesc.zero with enable := true, w := 2, h := 2, leadIn := 5 }
      leadIn := base.composer.leadIn.set 0 1
      record := { base.composer.record with
        zones := base.composer.record.zones.set 0 { ZoneRecord.zero with active := true, inLeadIn := true } } } }

theorem witness_LeadInEndsAtZero :
    leading.phase = .running ∧ leading.timing.blanking = true ∧ (leading.composer.record.zones[(0 : ZoneIx)]).active = true ∧
    zoneActive leading leading.composer.planNext[(0 : ZoneIx)] = true ∧ leading.composer.marksChanged 0 = false ∧
    leading.composer.requestedMode ≠ .normal ∧ leading.composer.leadIn[(0 : ZoneIx)] = 1 := by decide

theorem witness_OwnershipAndVisibleCounts :
    cellOwner leading.composer.live [0] 0 0 = some 0 ∧ cellOwner leading.composer.live [0] 2 0 = none ∧ leading.phase = .running ∧
    leading.timing.blanking = true ∧ leading.composer.requestedMode ≠ .normal := by decide

/-- A scanned frame of one slate image none of which has been fetched. -/
def slateScan : State :=
  { scan with composer := { scan.composer with record := { scan.composer.record with mode := .slateOnly, slate := some 0 } } }

theorem witness_UnderrunSendsGuardColour :
    slateScan.phase = .running ∧ slateScan.timing.blanking = false ∧ slateScan.cellUnserved 63 17 = true := by decide +kernel

/-! ### Witnesses: the replay -/

theorem witness_SetRingDeclares :
    base.roller.state = .idle ∧ (∀ r ∈ base.intake.slots, r.pins = 0) ∧ (0#32).toNat % 4096 = 0 ∧
    (0#32).toNat + (4#8).toNat * (((1#8).toNat * (1#8).toNat + 1) * 4096) ≤ base.controlBase ∧
    (32768#32).toNat % 4096 = 0 ∧ (32768#32).toNat + ((1#8).toNat * (1#8).toNat + 1) * 4096 ≤ base.controlBase ∧
    (0#32).toNat + (4#8).toNat * (((1#8).toNat * (1#8).toNat + 1) * 4096) ≤ (32768#32).toNat := by decide

/-- A ring of four one-cell slots at address 0 with its alias behind it, the slots in given states and slot k the intake slot. -/
def ringed (slots : List SlotState) (k : Option Nat) : State :=
  { base with
    intake := { base.intake with
      ring := some { ringBase := 0, aliasBase := 32768, w := 1, h := 1, count := 4 }
      slots := slots.map fun st => { state := st, pins := 0 }
      intakeSlot := k } }

/-- One slot filling, two READY and one HELD. -/
def fullRing : State := ringed [.filling, .ready 5 1, .held 6 2, .ready 7 3] (some 0)

/-- A wall of one cell with zone 0 drawing a state, a font at address 0, and memory holding a pixel at an address. -/
def pictured (draw : DrawState) (a : Nat) : State :=
  { fullRing with
    timing := { frameNumber := 1, blanking := false }
    composer := { fullRing.composer with
      record := { fullRing.composer.record with
        mode := .normal
        w := 1
        h := 1
        font := some 0
        zones := fullRing.composer.record.zones.set 0
          { ZoneRecord.zero with
            desc := { ZoneDesc.zero with enable := true, w := 1, h := 1, guard := ⟨9, 9, 9⟩ }, active := true, draw := some draw } } }
    mem := [(a, 10), (a + 1, 20), (a + 2, 30), (a + 8192, 20), (a + 8193, 40), (a + 8194, 61)] }

/-- R19, R57: the sum of half of A (10, 20, 30) and half of B (20, 40, 61), the halves rounded up. -/
theorem test_pixel_blend :
    (pictured (.replay (some { a := ⟨5, 1⟩, b := some ⟨6, 2⟩, w16 := 8 })) 8192).pixel 0 0 = ⟨15, 30, 46⟩ := by decide +kernel

/-- R18, R19: the second character of a priority 3 text at position -20 covers columns -4 to 11: column 0 shows its column 4, reversed. -/
theorem test_pixel_ticker :
    (pictured (.ticker { text := [0x41, 0x42], position := -20, priority := 3 }) (0x42 * 2048 + 16)).pixel 0 0 = ⟨245, 235, 225⟩ := by
  decide +kernel

/-- R106: the right half of the first cell is glyph position 1, and an empty position is black. -/
theorem test_pixel_scorebug :
    let image : ScorebugImage := (Vector.replicate 96 none).set 1 (some { code := 0x31, reversed := false })
    (pictured (.scorebug image) (0x31 * 2048)).pixel 16 0 = ⟨10, 20, 30⟩ ∧ (pictured (.scorebug image) 0).pixel 0 0 = ⟨0, 0, 0⟩ := by
  decide +kernel

/-- Table 6.3: a home score of 90 stands in positions 3 and 4 with position 2 empty; a flash counter of 48 is drawn normal, one of 40
reversed. -/
theorem test_scorebug_layout :
    let image (n : Nat) : ScorebugImage := renderScorebug { base.score with fields := base.score.fields.set 0 90, homeFlash := n } base.clock
    [(image 48)[2], (image 48)[3], (image 40)[4]] =
      [none, some { code := 0x39, reversed := false }, some { code := 0x30, reversed := true }] := by decide +kernel

theorem witness_UnderrunSendsGuardColour_pictures :
    (pictured .nothing 0).composer.record.owner 0 0 = some 0 ∧ (0, 0) ∉ (pictured .nothing 0).panel.late ∧
    (pictured .nothing 0).intake.ring.isSome = true ∧ (pictured .nothing 0).composer.record.font = some 0 ∧
    ((pictured .nothing 0).composer.record.zones[(0 : ZoneIx)]).inLeadIn = false ∧ (∀ f : Fin 10, base.score.fields[f] ≤ fieldMax f) := by
  decide +kernel

/-- The game clock counting down at a value, with tenths below the minute. -/
def downAt (v : Nat) : GameClock := { base.clock.game with value := v, direction := .down, tenths := true }

/-- The shot clock RUNNING at a value beside a game clock at another. -/
def shotAt (game shot : Nat) : ClockUnit := { (shotRunning shot base).clock with game := downAt game }

/-- R85, R86: "99:59", "1:00", "0.0" and counting up "0:59"; "24", "5", "4.9", and blank above the game clock's value. -/
theorem test_clock_texts :
    [(downAt 5999000).text, (downAt 60000).text, (downAt 99).text, ({ downAt 59999 with direction := .up } : GameClock).text] =
      [[0x39, 0x39, 0x3A, 0x35, 0x39], [0x31, 0x3A, 0x30, 0x30], [0x30, 0x2E, 0x30], [0x30, 0x3A, 0x35, 0x39]] ∧
    [(shotAt 600000 24000).shotText, (shotAt 600000 5000).shotText, (shotAt 600000 4999).shotText, (shotAt 4998 4999).shotText] =
      [some [0x32, 0x34], some [0x35], some [0x34, 0x2E, 0x39], none] := by decide +kernel

theorem witness_UnderrunSendsGuardColour_texts :
    (downAt 60000).value ≤ 5999000 ∧ 60000 ≤ 1000 * 60 ∧ 1000 * 60 < 60000 + 1000 ∧ (downAt 59999).value < 60000 ∧
    (downAt 59999).tenths = true ∧ (shotAt 600000 5000).shot.value ≤ 99000 ∧ (shotAt 600000 5000).shot.state ≠ .blank ∧
    (shotAt 600000 4999).shot.value < 5000 ∧ (shotAt 4998 4999).game.value < (shotAt 4998 4999).shot.value := by decide

theorem witness_HoldFramesUpToLimit :
    fullRing.phase = .running ∧ fullRing.intake.ring.isSome = true ∧ (5#32).toNat ≤ (5#32).toNat ∧ fullRing.intake.frames.Nodup ∧
    fullRing.intake.heldCount ≤ fullRing.intake.holdLimit := by decide

theorem witness_HoldFrames_room :
    (ringed [.filling, .ready 5 1, .ready 6 2, .ready 7 3] (some 0)).intake.heldCount = 0 ∧
    (ringed [.filling, .ready 5 1, .ready 6 2, .ready 7 3] (some 0)).intake.holdLimit = 1 := by decide

theorem witness_ReleaseFramesMakesReady :
    fullRing.phase = .running ∧ fullRing.intake.ring.isSome = true ∧ base.intake.ring = none ∧ (5#32).toNat < (6#32).toNat ∧
    (6#32).toNat ≤ (6#32).toNat ∧ fullRing.intake.slots[2]? = some { state := .held 6 2, pins := 0 } := by decide

theorem witness_DiscardFramesSparesPinnedAndNamed :
    fullRing.intake.ring.isSome = true ∧ (0#32).toNat ≤ (0xFFFFFFFF#32).toNat ∧
    fullRing.intake.slots[1]? = some { state := .ready 5 1, pins := 0 } := by decide

/-- A trailer shadow of a frame number below 256, its complement, and a keep byte. -/
def trailerOf (f keep : Byte) : Vector Byte 32 :=
  Vector.ofFn fun i : Fin 32 =>
    if i.val = 0 then f else if i.val = 8 then keep else if i.val = 28 then ~~~f else if 28 < i.val then 0xFF else 0

/-- A filling slot with its trailer written. -/
def trailed (slots : List SlotState) (t : Vector Byte 32) : State :=
  let s := ringed slots (some 0)
  { s with intake := { s.intake with trailer := t } }

theorem witness_CompletionOutcomes :
    let free : List SlotState := [.filling, .ready 5 1, .ready 6 2, .free]
    (trailed free (trailerOf 9 1)).intake.slots[0]? = some { state := .filling, pins := 0 } ∧
    (trailed free (Vector.replicate 32 0)).intake.completionWord ≠ ~~~(trailed free (Vector.replicate 32 0)).intake.trailerFrame ∧
    (trailed free (trailerOf 5 1)).intake.completionWord = ~~~(trailed free (trailerOf 5 1)).intake.trailerFrame ∧
    (trailed free (trailerOf 5 1)).intake.trailerFrame ∈ (trailed free (trailerOf 5 1)).intake.frames ∧
    (trailed free (trailerOf 9 1)).intake.completionWord = ~~~(trailed free (trailerOf 9 1)).intake.trailerFrame ∧
    (trailed free (trailerOf 9 1)).intake.trailerFrame ∉ (trailed free (trailerOf 9 1)).intake.frames := by decide +kernel

theorem test_completion_holds :
    ((after (exec .completion (trailed [.filling, .ready 5 1, .ready 6 2, .free] (trailerOf 9 1)))).map fun u =>
      (u.intake.slots.map SlotRecord.state, u.intake.intakeSlot, u.intake.completions)) =
      some ([.held 9 1, .ready 5 1, .ready 6 2, .filling], some 3, 1) := by decide +kernel

/-- R34, R35: with none FREE the READY slot of the lowest sequence is reclaimed, the HELD one is not. -/
theorem test_completion_reclaims :
    let s := trailed [.filling, .ready 5 7, .ready 6 6, .held 8 1] (trailerOf 9 0)
    ((after (exec .completion { s with intake := { s.intake with completions := 7 } })).map fun u =>
      (u.intake.slots.map SlotRecord.state, u.intake.intakeSlot)) = some ([.ready 9 8, .ready 5 7, .filling, .held 8 1], some 2) := by
  decide +kernel

theorem witness_RetryTakesASlot :
    (ringed [.filling, .free, .free, .free] (some 0)).intake.intakeSlot.isSome = true ∧
    (ringed [.ready 1 1, .ready 2 2, .ready 3 3, .ready 4 4] none).intake.intakeSlot = none ∧
    (ringed [.ready 1 1, .ready 2 2, .ready 3 3, .ready 4 4] none).writeInProgress = false ∧
    (withHost writing (ringed [.ready 1 1, .ready 2 2, .ready 3 3, .ready 4 4] none)).writeInProgress = true := by decide

theorem test_retry_reclaims_oldest :
    ((after (exec .intakeRetry
      { ringed [.ready 1 9, .ready 2 7, .ready 3 8, .ready 4 10] none with
        intake := { (ringed [.ready 1 9, .ready 2 7, .ready 3 8, .ready 4 10] none).intake with completions := 10 } })).map
      fun u => u.intake.intakeSlot) = some (some 1) := by decide +kernel

/-- A REPLAY zone of one cell in the live plan and the frame record. -/
def replayDesc : ZoneDesc := { ZoneDesc.zero with enable := true, source := .replay, w := 1, h := 1, param := .absent }

/-- A full ring with its REPLAY zone showing, and a roll in progress. -/
def rolling : State :=
  { fullRing with
    timing := { frameNumber := 1, blanking := false }
    composer := { fullRing.composer with
      live := Plan.empty.with 0 replayDesc
      record := { fullRing.composer.record with
        mode := .normal
        zones := fullRing.composer.record.zones.set 0 { ZoneRecord.zero with desc := replayDesc, active := true, visible := 1 } } }
    roller := { fullRing.roller with
      state := .rolling, fIn := 5, speed := 256, rs := 50, showPlan := some { a := 5, b := none, w16 := 0 } } }

/-- A ROLL of frame 5 at normal speed. -/
def rollPayload : RollPayload :=
  { fIn := 5, fOut := 7, outPresent := 1, direction := 0, endMode := 0, blend := 0, cutOnClock := 0, speed := 256, rs := 300 }

theorem witness_RollerCommands :
    rollChoices rollPayload = some (true, .forward, .hold, false, false) ∧ 1 ≤ rollPayload.rs.toNat ∧ rollPayload.rs.toNat ≤ 300 ∧
    rolling.intake.ring.isSome = true ∧ (∃ z : ZoneIx, (rolling.composer.live[z]).enable = true ∧ (rolling.composer.live[z]).source = .replay) ∧
    rollPayload.fIn.toNat ≤ rollPayload.fOut.toNat ∧ rollDirection 1 = some .reverse ∧ rolling.roller.state = .rolling ∧
    base.roller.state = .idle ∧ rolling.phase = .running := by decide

theorem witness_CadenceStepsTheRoll :
    rolling.timing.blanking = false ∧ (rolling.composer.record.zoneOn .replay).isSome = true ∧
    ((rolling.composer.record.zoneOn .replay).elim false fun z => z.active && !z.inLeadIn) = true ∧ rolling.intake.blocked = false ∧
    (rolling.roller.advance 50).target = ((6#32).toNat : Int) ∧ (6#32) ∈ rolling.intake.frames ∧ rolling.roller.outPoint = none ∧
    0 < 50 ∧ rolling.roller.pFrac < 4096 ∧ rolling.roller.rem < 50 := by decide

theorem test_roll_steps_one_frame :
    ((after (exec (.frameEnd false) rolling)).map fun u => (u.roller.pInt, u.roller.showPlan)) =
      some (1, some { a := 6, b := none, w16 := 0 }) := by decide +kernel

/-- The roll with a last frame, a direction and an end mode, and the frames that are present. -/
def rollingTo (out : Option Word) (d : RollDirection) (e : EndMode) (slots : List SlotState) : State :=
  { rolling with
    intake := { rolling.intake with slots := slots.map fun st => { state := st, pins := 0 } }
    roller := { rolling.roller with outPoint := out, direction := d, endMode := e } }

/-- What a FRAME_END leaves of the roll. -/
def rollAfter (s : State) : Option (RollerState × RollEnd × Option ShowPlan × List Nat) :=
  (after (exec (.frameEnd false) s)).map fun u =>
    (u.roller.state, u.roller.lastEnd, u.roller.showPlan, [u.roller.gapCount, u.roller.starvedCount])

/-- R52, R54 to R56: frame 6 is the target going forward, frame 4 in reverse. -/
theorem test_roll_outcomes :
    let alone : Option ShowPlan := some { a := 5, b := none, w16 := 0 }
    [rollAfter (rollingTo (some 5) .forward .hold [.filling, .ready 5 1]),
      rollAfter (rollingTo none .forward .hold [.filling, .ready 5 1, .ready 8 2]),
      rollAfter (rollingTo none .forward .hold [.filling, .ready 5 1]),
      rollAfter (rollingTo none .reverse .release [.filling, .ready 5 1])] =
      [some (.holding, .outPoint, alone, [0, 0]), some (.rolling, .none, alone, [1, 0]), some (.starved, .none, alone, [0, 1]),
        some (.idle, .frameGone, none, [0, 0])] := by decide +kernel

theorem witness_CadenceStepsTheRoll_outcomes :
    ((rollingTo (some 5) .forward .hold []).roller.advance 50).target = 6 ∧
    ((rollingTo (some 5) .reverse .hold []).roller.advance 50).target = 4 ∧
    (rollingTo none .forward .hold [.filling, .ready 5 1, .ready 8 2]).intake.frames = [5, 8] ∧
    (base.composer.record.zoneOn .replay).isNone = true ∧ rolling.roller.state ≠ .idle := by decide

/-- The roll with blend on at half speed, halfway to the next frame at its next step, with frames 4 and 5, and 6 or not. -/
def blending (out : Option Word) (d : RollDirection) (six : Bool) : State :=
  let s := rollingTo out d .hold [.filling, .ready 5 1, .ready 4 2, if six then .ready 6 3 else .free]
  { s with roller := { s.roller with blend := true, speed := 128 } }

/-- R53: B is the next frame in the roll's direction, and none where it is past the out point or absent. -/
theorem test_blend_partner :
    [rollAfter (blending none .forward true), rollAfter (blending (some 5) .forward true), rollAfter (blending none .forward false),
      rollAfter (blending none .reverse true), rollAfter (blending (some 5) .reverse true)].map
        (fun r => r.bind fun x => x.2.2.1.map fun p => (p.a, p.b, p.w16)) =
      [some (5, some 6, 8), some (5, none, 8), some (5, none, 8), some (5, some 4, 8), some (5, none, 8)] := by decide +kernel

theorem witness_CadenceStepsTheRoll_partner :
    ((blending none .forward true).roller.advance 50).target = ((5#32).toNat : Int) ∧
    0 < ((blending none .forward true).roller.advance 50).pFrac / 256 ∧ (blending none .forward true).roller.blend = true ∧
    (5#32) ∈ (blending none .forward true).intake.frames ∧ (6#32) ∈ (blending none .forward true).intake.frames ∧
    (blending (some 5) .forward true).roller.outPoint = some 5 := by decide

/-! ### Witnesses: frame ends and showings -/

/-- A SPONSOR zone of two by two cells. -/
def sponsorDesc : ZoneDesc := { ZoneDesc.zero with enable := true, source := .sponsor, w := 2, h := 2, param := .absent }

/-- A spot that fits it. -/
def spot1 : Spot :=
  { id := 1, artBase := 0, artW := 2, artH := 2, contract := 1, dwell := 30, minVisible := 50, spotClass := .any, delivered := 0,
    showings := 1, saturated := false, contractMet := false, withdrawing := false }

/-- A showing of it after some frames. -/
def showing1 (frames counted : Nat) : Showing :=
  { spotId := 1, startVenue := 0, gameValue := 0, period := 0, framesOnAir := frames, countedFrames := counted, credit := 0,
    sting := false, overrun := false }

/-- That showing on the wall, with a number of the zone's four cells visible. -/
def onAir (frames counted visible : Nat) : State :=
  { scan with
    composer := { scan.composer with
      live := Plan.empty.with 0 sponsorDesc
      record := { scan.composer.record with
        mode := .normal
        zones := scan.composer.record.zones.set 0
          { ZoneRecord.zero with desc := sponsorDesc, active := true, visible := visible } } }
    rotation :=
      { spots := [spot1]
        zones := scan.rotation.zones.set 0
          { rotation := [1], cursor := 0, sting := none, stingPending := false, showing := some (showing1 frames counted) } } }

theorem witness_ShowingEndsAreLogged :
    (onAir 29 29 4).phase = .running ∧ (onAir 29 29 4).timing.blanking = false ∧ (onAir 29 29 4).composer.record.mode = .normal ∧
    ((onAir 29 29 4).composer.record.zones[(0 : ZoneIx)]).changed = false ∧
    ((onAir 29 29 4).composer.record.zones[(0 : ZoneIx)]).desc.source = .sponsor ∧
    ((onAir 29 29 4).rotation.zones[(0 : ZoneIx)]).showing = some (showing1 29 29) ∧
    (∀ y : ZoneIx, y ≠ 0 → ((onAir 29 29 4).rotation.zones[y]).showing = none) ∧
    (onAir 29 29 4).rotation.spot 1 = some spot1 ∧ spot1.spotClass.matches (onAir 29 29 4).clock.game.state = true ∧
    (onAir 29 29 4).exposure.unreleased < 1024 ∧
    1024 ≤ { (onAir 29 29 4).exposure with nextRecord := 1024 }.unreleased ∧ 4 * spot1.dwell ≤ (showing1 119 0).framesOnAir + 1 := by
  decide

theorem test_dwell_done :
    ((after (exec (.dwellDone 0 false) (onAir 29 29 4))).map fun u =>
      (u.exposure.nextRecord, u.memctl.queue.map fun w => (w.offset, w.data.drop 16))) =
      some (1, [(0x8000, [30, 0, 30, 0, 0, 6, 0, 0, 0, 0, 0, 0, 0, 0, 0, 0])]) := by decide +kernel

theorem test_cover_limit :
    ((after (exec (.coverLimit 0 false) (onAir 119 0 1))).map fun u =>
      (u.exposure.nextRecord, u.memctl.queue.map fun w => w.data.drop 16)) =
      some (1, [[120, 0, 0, 0, 0, 0, 0, 0, 0, 0, 0, 0, 0, 0, 0, 0]]) := by decide +kernel

theorem onAir_others (y : ZoneIx) (h : y ≠ 0) : ((onAir 28 28 2).rotation.zones[y]).showing = none := by
  revert y
  decide

theorem witness_OnAirExclusive : OnAirExclusive (onAir 28 28 2) := by
  refine ⟨?_, by decide⟩
  intro z z' h hh h' hh' _
  by_cases hz : z = 0
  · by_cases hz' : z' = 0
    · rw [hz, hz']
    · rw [onAir_others z' hz'] at hh'
      cases hh'
  · rw [onAir_others z hz] at hh
    cases hh

theorem witness_FrameEndCreditsTheShowing :
    (showing1 28 28).countedFrames + 1 < spot1.dwell ∧ (showing1 28 28).framesOnAir + 1 < 4 * spot1.dwell ∧
    spot1.delivered ≤ 4294967295 ∧ (onAir 28 28 2).rotation.spot 1 = some spot1 ∧
    ((onAir 28 28 2).rotation.zones[(0 : ZoneIx)]).stingPending = false := by decide

theorem test_credit_half_covered :
    ((after (exec (.frameEnd false) (onAir 28 28 2))).map fun u =>
      ((u.rotation.zones[(0 : ZoneIx)]).showing.map Showing.credit, (u.rotation.spot 1).map Spot.delivered)) =
      some (some 768, some 768) := by decide +kernel

/-- A zone with a list of two spots, the cursor on the first, and its sting. -/
def selecting (delivered1 delivered2 : Nat) (pending : Bool) : State :=
  { onAir 0 0 4 with
    rotation :=
      { spots := [{ spot1 with delivered := delivered1 }, { spot1 with id := 2, delivered := delivered2 }, { spot1 with id := 3 }]
        zones := scan.rotation.zones.set 0
          { rotation := [1, 2], cursor := 0, sting := some 3, stingPending := pending, showing := none } } }

/-- The showing a FRAME_END begins, and the cursor. -/
def selected (s : State) : Option (Option (Nat × Bool × Bool) × Int) :=
  (after (exec (.frameEnd false) s)).map fun u =>
    ((u.rotation.zones[(0 : ZoneIx)]).showing.map fun h => (h.spotId, h.sting, h.overrun), (u.rotation.zones[(0 : ZoneIx)]).cursor)

/-- R125 to R127: the sting first; then the owed spot after the cursor; the first spot when only it is owed; overrun when none is. -/
theorem test_selection :
    [selecting 0 0 true, selecting 0 0 false, selecting 0 76800 false, selecting 76800 76800 false].map selected =
      [some (some (3, true, false), 0), some (some (2, false, false), 1), some (some (1, false, false), 0),
        some (some (2, false, true), 1)] := by decide +kernel

theorem witness_FrameEndWorksTheSources :
    (selecting 0 0 true).phase = .running ∧ (selecting 0 0 true).timing.blanking = false ∧
    (selecting 0 0 true).composer.record.mode = .normal ∧
    ((selecting 0 0 true).composer.record.zones[(0 : ZoneIx)]).desc.source = .sponsor ∧
    ((selecting 0 0 true).composer.record.zones[(0 : ZoneIx)]).resized = false ∧
    ((selecting 0 0 true).rotation.zones[(0 : ZoneIx)]).showing = none ∧
    (∀ y : ZoneIx, y ≠ 0 → ((selecting 0 0 true).rotation.zones[y]).showing = none ∧
      ((selecting 0 0 true).rotation.zones[y]).rotation = [] ∧ ((selecting 0 0 true).rotation.zones[y]).stingPending = false) ∧
    (selecting 0 0 true).rotation.onAir 3 = false ∧ ((selecting 0 0 true).rotation.spot 3).isSome = true := by decide

/-- A spot of the worked example of spec/07, section 7.5, its class, dwell and whether it is owed. -/
def spot75 (id : Nat) (c : SpotClass) (dwell : Nat) (owed : Bool) : Spot :=
  { spot1 with id := id, spotClass := c, dwell := dwell, delivered := if owed then 0 else 76800, contractMet := !owed }

/-- A zone of that example showing a spot with frames on air, all counted, or none. -/
def zone75 (list : List Nat) (cursor : Int) (sting : Option Nat) (pending : Bool) (shown : Option (Nat × Nat × Bool)) : SponsorZone :=
  { rotation := list, cursor := cursor, sting := sting, stingPending := pending,
    showing := shown.map fun x =>
      { spotId := x.1, startVenue := 0, gameValue := 0, period := 0, framesOnAir := x.2.1, countedFrames := x.2.1, credit := 0,
        sting := x.2.2, overrun := false } }

/-- That example's wall: zones 2 and 5, seen whole, with their lists, and the game clock in a state. -/
def wall75 (g : GameState) (cursor2 cursor5 : Int) (pending : Bool) (shown2 shown5 : Option (Nat × Nat × Bool)) : State :=
  let seen : ZoneRecord := { ZoneRecord.zero with desc := sponsorDesc, active := true, visible := 4 }
  { scan with
    clock := { scan.clock with game := { scan.clock.game with state := g } }
    composer := { scan.composer with
      record := { scan.composer.record with mode := .normal, zones := (scan.composer.record.zones.set 2 seen).set 5 seen } }
    rotation :=
      { spots := [spot75 11 .any 300 true, spot75 12 .runningOnly 300 true, spot75 13 .any 300 false, spot75 14 .any 120 true]
        zones := (scan.rotation.zones.set 2 (zone75 [11, 12, 13, 11] cursor2 (some 14) pending shown2)).set 5
          (zone75 [12, 13] cursor5 none false shown5) } }

/-- What zones 2 and 5 show after a FRAME_END, with their cursors. -/
def row77 (s : State) : Option (List (Option (Nat × Bool) × Int)) :=
  (after (exec (.frameEnd false) s)).map fun u =>
    [(2 : ZoneIx), 5].map fun z =>
      ((u.rotation.zones[z]).showing.map fun h => (h.spotId, h.overrun), (u.rotation.zones[z]).cursor)

/-- The rows of Table 7.7 (spec/07): each FRAME_END from the state after the one before it, with the frames between accounted. -/
theorem test_worked_example_7_5 :
    [row77 (wall75 .stopped (-1) (-1) false none none),
      row77 (wall75 .running 0 1 false (some (11, 299, false)) (some (13, 299, false))),
      row77 (wall75 .running 1 1 true (some (12, 49, false)) (some (13, 49, false))),
      row77 (wall75 .stopped 1 1 false (some (14, 119, true)) (some (13, 169, false)))] =
      [some [(some (11, false), 0), (some (13, true), 1)], some [(some (12, false), 1), (some (13, true), 1)],
        some [(some (14, false), 1), (some (13, false), 1)], some [(some (11, false), 3), (some (13, false), 1)]] := by
  decide +kernel

theorem witness_FrameEndWorksTheSources_ended :
    (wall75 .running 0 1 false (some (11, 299, false)) (some (13, 299, false))).phase = .running ∧
    (∀ y : ZoneIx, ∀ h ∈ ((wall75 .running 0 1 false (some (11, 299, false)) (some (13, 299, false))).rotation.zones[y]).showing,
      ((wall75 .running 0 1 false (some (11, 299, false)) (some (13, 299, false))).rotation.spot h.spotId).isSome = true) ∧
    (spot75 11 .any 300 true).withdrawing = false ∧ (spot75 11 .any 300 true).dwell ≤ 299 + 1 ∧
    (spot75 13 .any 300 false).delivered = (spot75 13 .any 300 false).contract * 76800 ∧
    (wall75 .running 1 1 true (some (12, 49, false)) (some (13, 49, false))).rotation.onAir 14 = false := by decide +kernel

/-- The showing of spot 1, sting pending or not, its spot of a class and withdrawing or not, in a mode, its zone changed or not. -/
def ending (pending : Bool) (c : SpotClass) (withdrawing changed : Bool) (mode : OutputMode) : State :=
  let s := onAir 3 3 4
  { s with
    composer := { s.composer with
      record := { s.composer.record with
        mode := mode
        zones := s.composer.record.zones.set 0
          { ZoneRecord.zero with desc := sponsorDesc, active := true, visible := 4, changed := changed } } }
    rotation :=
      { spots := [{ spot1 with spotClass := c, withdrawing := withdrawing }]
        zones := s.rotation.zones.set 0
          { rotation := [], cursor := -1, sting := some 1, stingPending := pending, showing := some (showing1 3 3) } } }

/-- The end reason and the frames on air in the record a FRAME_END forms, and whether the spot stays in the table. -/
def ended (s : State) : Option (List (List Byte) × Bool) :=
  (after (exec (.frameEnd false) s)).map fun u =>
    (u.memctl.queue.map fun w => [w.data.getD 6 0, w.data.getD 16 0], (u.rotation.spot 1).isSome)

/-- R122, R123, Table 8.4: plan change and mode before the accounting; sting, class and withdrawal after it, in that order. -/
theorem test_endings :
    ended (ending true .runningOnly true true .black) = some ([[6, 3]], false) ∧
    ended (ending true .runningOnly true false .black) = some ([[7, 3]], false) ∧
    ended (ending true .runningOnly true false .normal) = some ([[4, 4]], false) ∧
    ended (ending false .runningOnly true false .normal) = some ([[3, 4]], false) ∧
    ended (ending false .any true false .normal) = some ([[5, 4]], false) := by decide +kernel

theorem witness_ShowingEndsAreLogged_endings :
    (ending true .any false true .black).phase = .running ∧ (ending true .any false true .black).timing.blanking = false ∧
    ((ending true .any false true .black).rotation.zones[(0 : ZoneIx)]).showing = some (showing1 3 3) ∧
    (∀ y : ZoneIx, y ≠ 0 → ((ending true .any false true .black).rotation.zones[y]).showing = none) ∧
    ((ending true .any false true .black).rotation.spot 1).isSome = true ∧
    ((ending true .any false true .black).composer.record.zones[(0 : ZoneIx)]).changed = true ∧
    SpotClass.runningOnly.matches (ending true .any false true .black).clock.game.state = false := by decide

/-! ### Witnesses: spot commands -/

/-- A definition of a spot that fits the SPONSOR zone. -/
def spotPayload (id : Byte) : SpotPayload :=
  { id := id, artW := 2, artH := 2, minVisible := 100, spotClass := 0, artBase := 4096, contract := 50000, dwell := 3000 }

/-- The SPONSOR zone with its spot off the air. -/
def offAir : State :=
  { onAir 0 0 4 with
    rotation := { (onAir 0 0 4).rotation with
      zones := (onAir 0 0 4).rotation.zones.set 0
        { rotation := [1], cursor := 0, sting := some 1, stingPending := true, showing := none } } }

theorem witness_DefineSpotCreatesOrRedefines :
    spotClass (spotPayload 2).spotClass = some .any ∧ (spotPayload 2).id ≠ 0 ∧ (spotPayload 2).contract.toNat ≤ 50000 ∧
    (spotPayload 2).dwell.toNat ≤ 3000 ∧ (spotPayload 2).minVisible.toNat ≤ 100 ∧ (spotPayload 2).artBase.toNat % 4096 = 0 ∧
    (spotPayload 2).artBase.toNat + (spotPayload 2).artW.toNat * (spotPayload 2).artH.toNat * 4096 ≤ offAir.controlBase ∧
    offAir.rotation.spot 2 = none ∧ offAir.rotation.spots.length < 48 ∧ offAir.rotation.spot 1 = some spot1 ∧
    spot1.withdrawing = false ∧ offAir.rotation.onAir 1 = false ∧
    (∀ z : ZoneIx, (offAir.rotation.zones[z]).names 1 = true →
      (offAir.composer.live[z]).w.toNat = (spotPayload 1).artW.toNat ∧ (offAir.composer.live[z]).h.toNat = (spotPayload 1).artH.toNat) ∧
    48 ≤ (List.replicate 48 spot1).length := by decide +kernel

theorem witness_WithdrawSpotLeavesNoTrace :
    offAir.phase = .running ∧ offAir.rotation.spot 2 = none ∧ offAir.rotation.spot 1 = some spot1 ∧ spot1.withdrawing = false ∧
    { spot1 with withdrawing := true }.withdrawing = true ∧ (offAir.rotation.zones[(0 : ZoneIx)]).cursor = 0 ∧
    1 ∈ (offAir.rotation.zones[(0 : ZoneIx)]).rotation ∧ (offAir.rotation.zones[(1 : ZoneIx)]).cursor = -1 ∧
    (onAir 0 0 4).rotation.onAir 1 = true ∧ (offAir.rotation.zones[(1 : ZoneIx)]).sting ≠ some 1 ∧
    1 ∉ (offAir.rotation.zones[(1 : ZoneIx)]).rotation := by decide +kernel

theorem witness_ContractAndTotalsCommands :
    offAir.rotation.spot 2 = none ∧ offAir.rotation.spot 1 ≠ none ∧ 50000 < (50001#32).toNat ∧ (50000#32).toNat ≤ 50000 ∧
    (1#8) ≠ 0 := by decide +kernel

theorem witness_RotationAndStingStored :
    (0#8).toNat = (0 : ZoneIx).val ∧ (offAir.composer.live[(0 : ZoneIx)]).enable = true ∧
    (offAir.composer.live[(0 : ZoneIx)]).source = .sponsor ∧ (16#8).toNat ≤ 16 ∧
    (16#8).toNat ≤ (List.replicate 16 (1 : Byte)).length ∧ offAir.rotation.spot 1 = some spot1 ∧ spot1.withdrawing = false ∧
    (offAir.composer.live[(0 : ZoneIx)]).w.toNat = spot1.artW ∧ (offAir.composer.live[(0 : ZoneIx)]).h.toNat = spot1.artH := by
  decide +kernel

theorem test_withdraw_off_air_deletes :
    (ruleWithdrawSpot 1 offAir).1.rotation.spots = [] ∧ ((ruleWithdrawSpot 1 offAir).1.rotation.zones[(0 : ZoneIx)]).sting = none := by
  decide +kernel

/-! ### Witnesses: the ticker -/

/-- An entry of two characters. -/
def message (tag priority repeats : Nat) (expiry : Option Word) : TickerEntry :=
  { tag := tag, priority := priority, repeats := repeats, expiry := expiry, stoppageOnly := false, order := 0, text := [0x41, 0x42],
    passes := 0 }

/-- A scanned frame with a ticker. -/
def ticking (waiting : List TickerEntry) (showing : Option ShowingEntry) : State :=
  { scan with ticker := { scan.ticker with waiting := waiting, showing := showing, freeChunks := 100, nextOrder := 5 } }

/-- A message of 200 characters that never expires. -/
def longMessage : MessagePayload :=
  { tag := 7, priority := 3, repeats := 15, lifetime := 3600, stoppageOnly := 1, length := 200, text := List.replicate 200 0x41 }

theorem witness_PostMessageJoinsWaiting :
    onOff longMessage.stoppageOnly = some true ∧ longMessage.tag ≠ 0 ∧ longMessage.priority.toNat ≤ 3 ∧ longMessage.repeats.toNat ≤ 15 ∧
    longMessage.lifetime.toNat ≤ 3600 ∧ 1 ≤ longMessage.length.toNat ∧ longMessage.length.toNat ≤ 200 ∧
    longMessage.length.toNat ≤ longMessage.text.length ∧
    longMessage.tag.toNat ∈ (ticking [message 7 0 1 none] none).ticker.tags ∧ longMessage.tag.toNat ∉ base.ticker.tags ∧
    32 ≤ (ticking (List.replicate 32 (message 1 0 1 none)) none).ticker.heldCount ∧ base.ticker.heldCount < 32 ∧
    { base.ticker with freeChunks := 6 }.freeChunks < (longMessage.length.toNat + 31) / 32 ∧
    (longMessage.length.toNat + 31) / 32 ≤ base.ticker.freeChunks := by decide +kernel

/-- A joining entry goes to the back of its priority and before the lower ones, behind also an entry of the number next to be issued (R150). -/
theorem test_join_goes_to_the_back :
    ((ticking [{ message 1 1 1 none with order := 6 }, { message 2 1 1 none with order := 2 }, message 3 0 1 none] none).ticker.joinWaiting
      (message 4 1 1 none)).waiting.map (fun e => (e.tag, e.order.toNat)) = [(1, 6), (2, 2), (4, 5), (3, 0)] := by decide

/-- A message on the wall at a position. -/
def crawling (m : TickerEntry) (position : Int) : ShowingEntry := { entry := m, position := position, lastPass := false, cancel := none }

theorem witness_CancelAndClearMessages :
    (ticking [message 1 0 1 none, message 2 0 1 none] none).ticker.waiting = [message 1 0 1 none] ++ message 2 0 1 none :: [] ∧
    (message 2 0 1 none).tag = (2#16).toNat ∧ (∀ x ∈ [message 1 0 1 none] ++ [], x.tag ≠ (2#16).toNat) ∧
    (3#16).toNat ∉ (ticking [message 1 0 1 none] none).ticker.tags ∧
    (ticking [message 1 0 1 none] (some (crawling (message 2 0 1 none) 0))).ticker.showing = some (crawling (message 2 0 1 none) 0) ∧
    (crawling (message 2 0 1 none) 0).entry.tag = (2#16).toNat ∧
    (∀ e ∈ (ticking [message 1 0 1 none] none).ticker.waiting, e.tag ≠ (2#16).toNat) := by decide

theorem witness_ExpiredMessagesRemoved :
    (ticking [message 1 0 1 (some 0)] none).phase = .running ∧ (ticking [message 1 0 1 (some 0)] none).timing.blanking = false ∧
    (∃ e ∈ (ticking [message 1 0 1 (some 0)] none).ticker.waiting,
      e.expired (ticking [message 1 0 1 (some 0)] none).clock.venue = true) ∧
    (ticking [] (some (crawling (message 1 0 1 (some 0)) 0))).ticker.showing = some (crawling (message 1 0 1 (some 0)) 0) ∧
    (crawling (message 1 0 1 (some 0)) 0).entry.expired (ticking [] none).clock.venue = true ∧
    (ticking [] none).tickerZone = none := by decide

/-- A TICKER zone of four cells seen whole. -/
def tickerRecord : ZoneRecord :=
  { ZoneRecord.zero with
    desc := { ZoneDesc.zero with enable := true, source := .ticker, w := 4, h := 1, param := .absent }, active := true, visible := 4 }

/-- A message on the wall about to leave it. -/
def leaving (m : TickerEntry) (waiting : List TickerEntry) : State :=
  { ticking waiting (some (crawling m (-28))) with
    composer := { scan.composer with
      record := { scan.composer.record with mode := .normal, zones := scan.composer.record.zones.set 3 tickerRecord } } }

theorem witness_PassEndsAtLeftEdge :
    (leaving (message 1 0 1 none) []).ticker.showing = some (crawling (message 1 0 1 none) (-28)) ∧
    (leaving (message 1 0 1 none) []).tickerZone = some tickerRecord ∧
    crawlZone (leaving (message 1 0 1 none) []).composer.record tickerRecord = true ∧
    (message 1 0 1 none).eligible (leaving (message 1 0 1 none) []).clock.game.state = true ∧
    (message 1 0 1 none).expired 0 = false ∧
    (crawling (message 1 0 1 none) (-28)).position - (leaving (message 1 0 1 none) []).ticker.speed + 16 * ([0x41, 0x42].length : Int) ≤ 0 ∧
    (message 1 0 1 none).repeats = 1 ∧ (message 1 0 0 none).repeats ≠ 1 ∧ (message 1 0 2 none).repeats ≠ 1 ∧
    (message 1 0 2 none).priority ≤ (message 2 0 1 none).priority := by decide

theorem test_pass_end_last_repeat :
    ((after (exec (.passEnd false) (leaving (message 1 0 1 none) []))).map fun u =>
      (u.ticker.showing, u.ticker.freeChunks, u.ticker.lastRemoved, u.flagged .messageDone)) =
      some (none, 101, some (1, .done), true) := by decide +kernel

theorem test_pass_end_turns :
    ((after (exec (.passEnd false) (leaving (message 1 0 2 none) [message 2 0 1 none]))).map fun u =>
      (u.ticker.showing.map fun x => (x.entry.tag, x.position), u.ticker.waiting.map fun e => (e.tag, e.repeats, e.passes))) =
      some (some (2, 128), [(1, 1, 1)]) := by decide +kernel

/-- The TICKER zone with a message in the middle of its crawl, or none, and messages waiting. -/
def crawl (x : Option TickerEntry) (waiting : List TickerEntry) : State :=
  let s := leaving (message 1 0 1 none) waiting
  { s with ticker := { s.ticker with showing := x.map fun m => crawling m 64 } }

/-- What shows after a FRAME_END, and what waits. -/
def shownAfter (s : State) : Option (Option (Nat × Int) × List Nat) :=
  (after (exec (.frameEnd false) s)).map fun u =>
    (u.ticker.showing.map fun x => (x.entry.tag, x.position), u.ticker.waiting.map TickerEntry.tag)

/-- R158 to R160: a message crawls on past one of priority 2, is cut by one of priority 3, and with none showing the first is taken. -/
theorem test_ticker_cuts_and_takes :
    shownAfter (crawl (some (message 1 0 1 none)) [message 2 2 1 none]) = some (some (1, 60), [2]) ∧
    shownAfter (crawl (some (message 1 0 1 none)) [message 2 3 1 none]) = some (some (2, 128), [1]) ∧
    shownAfter (crawl none [message 2 3 1 none, message 3 1 1 none]) = some (some (2, 128), [3]) := by decide +kernel

theorem witness_FrameEndWorksTheSources_ticker :
    (crawl none []).phase = .running ∧ (crawl none []).timing.blanking = false ∧ (crawl none []).tickerZone = some tickerRecord ∧
    (crawl none []).ticker.showing = none ∧
    (crawl (some (message 1 0 1 none)) [message 2 3 1 none]).ticker.showing = some (crawling (message 1 0 1 none) 64) ∧
    (∀ e ∈ (crawl none [message 2 3 1 none]).ticker.waiting, e.expired 0 = false ∧ e.priority = 3 ∧ e.eligible .ended = true) ∧
    (crawl none []).clock.game.state = .ended ∧ (0 : Int) < 64 - 4 + 16 * ([0x41, 0x42].length : Int) := by decide

/-- A ticker, its zone in the record or not, with a message showing at a position, marked or not, its cancel pending or not. -/
def shownEnd (zone : Bool) (m : TickerEntry) (position : Int) (lastPass : Bool) (cancel : Option CancelReason)
    (waiting : List TickerEntry) : State :=
  let s := if zone then leaving m waiting else ticking waiting none
  { s with ticker := { s.ticker with showing := some { entry := m, position := position, lastPass := lastPass, cancel := cancel } } }

/-- What shows after a FRAME_END with its last-pass mark, and the last removed record. -/
def removedAfter (s : State) : Option (Option (Nat × Bool) × Option (Nat × RemovalReason)) :=
  (after (exec (.frameEnd false) s)).map fun u => (u.ticker.showing.map fun x => (x.entry.tag, x.lastPass), u.ticker.lastRemoved)

/-- R156 step 1: a cancel pending removes the showing message with its reason, before the expiry of a waiting one. -/
theorem test_cancel_pending_removes :
    [removedAfter (shownEnd true (message 1 0 1 none) 64 false (some .cancelled) []),
      removedAfter (shownEnd false (message 1 0 1 none) 64 true (some .cleared) []),
      removedAfter (shownEnd true (message 1 0 1 none) 64 false (some .cleared) [message 2 0 1 (some 0), message 3 0 1 none])] =
      [some (none, some (1, .cancelled)), some (none, some (1, .cleared)), some (some (3, false), some (2, .expired))] := by
  decide +kernel

/-- R157, R158: an expired message in a TICKER zone crawls on marked, and goes at its pass end. -/
theorem test_last_pass :
    [removedAfter (shownEnd true (message 1 0 2 (some 0)) 64 false none []),
      removedAfter (shownEnd true (message 1 0 2 none) (-28) true none []),
      removedAfter (shownEnd true (message 1 0 0 (some 0)) (-28) false none []),
      removedAfter (shownEnd true (message 1 0 1 none) (-28) true none []),
      removedAfter (shownEnd false (message 1 0 1 none) 64 true none [])] =
      [some (some (1, true), none), some (none, some (1, .expired)), some (none, some (1, .expired)), some (none, some (1, .done)),
        some (none, some (1, .expired))] := by decide +kernel

theorem witness_ExpiredMessagesRemoved_showing :
    ((shownEnd true (message 1 0 1 none) 64 false (some .cleared) [message 2 0 1 (some 0)]).ticker.showing.map
      ShowingEntry.cancel) = some (some .cleared) ∧
    (message 2 0 1 (some 0)).expired (ticking [] none).clock.venue = true ∧
    (shownEnd false (message 1 0 1 none) 64 true none []).tickerZone = none ∧
    ((shownEnd false (message 1 0 1 none) 64 true none []).ticker.showing.map ShowingEntry.lastPass) = some true ∧
    (shownEnd true (message 1 0 2 (some 0)) 64 false none []).tickerZone = some tickerRecord ∧
    crawlZone (shownEnd true (message 1 0 2 (some 0)) 64 false none []).composer.record tickerRecord = true ∧
    (message 1 0 2 (some 0)).expired (ticking [] none).clock.venue = true ∧
    (message 1 0 2 (some 0)).eligible (ticking [] none).clock.game.state = true ∧
    (0 : Int) < 64 - (ticking [] none).ticker.speed + 16 * ((message 1 0 2 (some 0)).text.length : Int) := by decide

/-- R157: a waiting message that expires beside a crawling one goes, and the crawl goes on. -/
theorem test_expiry_beside_crawl :
    ((after (exec (.messageExpiry false)
        (shownEnd true (message 1 0 1 none) 64 false none [message 2 0 1 (some 0), message 3 0 1 none]))).map fun u =>
      (u.ticker.showing.map fun x => (x.entry.tag, x.position), u.ticker.waiting.map TickerEntry.tag, u.ticker.lastRemoved,
        u.ticker.freeChunks)) = some (some (1, 60), [3], some (2, .expired), 101) := by decide +kernel

theorem witness_ExpiredMessagesRemoved_beside :
    (∃ e ∈ (shownEnd true (message 1 0 1 none) 64 false none [message 2 0 1 (some 0)]).ticker.waiting,
      e.expired (ticking [] none).clock.venue = true) ∧
    (shownEnd true (message 1 0 1 none) 64 false none []).ticker.showing = some (crawling (message 1 0 1 none) 64) ∧
    (message 1 0 1 none).expired (ticking [] none).clock.venue = false ∧
    (message 1 0 1 none).eligible (ticking [] none).clock.game.state = true ∧
    (∀ e ∈ [message 2 0 1 none], e.priority = 3 → e.eligible .ended = false) ∧
    (shownEnd true (message 1 0 1 none) 64 false none []).tickerZone = some tickerRecord ∧
    (0 : Int) < 64 - (ticking [] none).ticker.speed + 16 * ((message 1 0 1 none).text.length : Int) := by decide

theorem witness_PassEndsAtLeftEdge_lastPass :
    (shownEnd true (message 1 0 2 none) (-28) true none []).phase = .running ∧
    (shownEnd true (message 1 0 2 none) (-28) true none []).timing.blanking = false ∧
    (shownEnd true (message 1 0 2 none) (-28) true none []).tickerZone = some tickerRecord ∧
    crawlZone (shownEnd true (message 1 0 2 none) (-28) true none []).composer.record tickerRecord = true ∧
    (-28 : Int) - (ticking [] none).ticker.speed + 16 * ((message 1 0 2 none).text.length : Int) ≤ 0 ∧
    (message 1 0 1 none).repeats = 1 ∧ (message 1 0 2 none).repeats ≠ 1 := by decide

/-! ### Witnesses: the host port and the memory controller -/

theorem witness_PortAndControllerEvents :
    base.phase = .running ∧ base.port.transaction = none ∧ State.reset.phase ≠ .running ∧ State.reset.port.presented = none ∧
    base.intake.ring = none ∧
    (0#32 - base.exposure.readMark).toNat ≤ (base.exposure.nextRecord - base.exposure.readMark).toNat ∧
    (base.exposure.nextRecord - base.exposure.readMark).toNat < (1#32 - base.exposure.readMark).toNat ∧
    64 ≤ (List.replicate 64 (resultWrite 0 { code := .ok })).length ∧ base.memctl.queue.length < 64 ∧ base.memctl.waitCommand = [] ∧
    base.memctl.waitExposure = [] ∧
    { base.memctl with waitExposure := [resultWrite 0 { code := .ok }] }.waitExposure = resultWrite 0 { code := .ok } :: [] ∧
    { base.memctl with waitCommand := [{ write := resultWrite 0 { code := .ok }, behind := 0 }] }.waitCommand =
      { write := resultWrite 0 { code := .ok }, behind := 0 } :: [] := by decide +kernel

/-- R170: in the alias a READ reads the intake slot's block while there is one, and else, as outside it, its own. -/
theorem test_read_base :
    [(fullRing, 32768#32), (ringed [.free, .ready 5 1] none, 32768#32), (fullRing, 32760#32), (fullRing, 0#32)].map
        (fun p => ((after (exec (.hostRead p.2 .one) p.1)).bind fun u => u.port.transaction).map HostTransaction.readBase) =
      [some 0, some 32768, some 32760, some 0] := by decide +kernel

theorem witness_PortAndControllerEvents_read :
    fullRing.phase = .running ∧ fullRing.port.transaction = none ∧ fullRing.intake.intakeSlot = some 0 ∧
    (ringed [.free, .ready 5 1] none).intake.intakeSlot = none ∧
    fullRing.intake.ring = some { ringBase := 0, aliasBase := 32768, w := 1, h := 1, count := 4 } := by decide

/-- A WRITE of one beat at an address, its beat still to come. -/
def expecting (a : Nat) : HostTransaction :=
  { writing with request := { isWrite := true, addr := a, length := .one }, beats := 0, forward := [], state := .none }

theorem witness_WriteBeatByRegion :
    (withHost (expecting 0x7FF4000) base).port.transaction = some (expecting 0x7FF4000) ∧ (expecting 0).request.isWrite = true ∧
    (expecting 0).beats < burstBeats (expecting 0).request.length ∧ base.controlBase = 0x7FF0000 ∧
    base.beatAddr (expecting 0x7FF4000).request 0 = base.controlBase + 0x4000 ∧
    base.beatAddr (expecting 0x7FF5000).request 0 = base.controlBase + 0x5000 ∧
    base.beatAddr (expecting 0x7FF5008).request 0 = base.controlBase + 0x5008 ∧
    base.beatAddr (expecting 0x7FF8000).request 0 = base.controlBase + 0x8000 ∧
    base.beatAddr (expecting 0x7FF00F8).request 0 = base.controlBase + 0xF8 ∧ base.command.shadow.wf (some 0) = true ∧
    fullRing.beatAddr (expecting 32768).request 0 = 32768 ∧ fullRing.beatAddr (expecting 32760).request 0 = 32760 ∧
    fullRing.closed 32760 = false ∧ (onAir 0 0 4).closed 0 = true := by decide +kernel

/-- Table 10.6 (spec/10): the beats of the burst at 0x021E0018, interleaved, and sequential. -/
theorem test_beat_addresses :
    [true, false].map (fun o => [0, 1, 2, 3].map
      ({ base with straps := { base.straps with bord := o } }.beatAddr { isWrite := true, addr := 0x021E0018, length := .four })) =
      [[0x021E0018, 0x021E0010, 0x021E0008, 0x021E0000], [0x021E0018, 0x021E0000, 0x021E0008, 0x021E0010]] := by decide +kernel

/-- What a write beat raises, and the addresses of the beats it leaves to forward. -/
def beatResult (s : State) (a : Nat) : Option (Bool × Bool × Option (List Nat)) :=
  (after (exec (.writeBeat 0x1122334455667788 0xFF) (withHost (expecting a) s))).map fun u =>
    (u.flagged .filteredWrite, u.flagged .intakeBlocked, u.port.transaction.map fun t => t.forward.map ForwardBeat.addr)

theorem test_write_beat_ignored : beatResult base 0x7FF4000 = some (true, false, some []) := by decide +kernel

theorem test_write_beat_alias : beatResult fullRing 32768 = some (false, false, some [0]) := by decide +kernel

theorem test_write_beat_blocked :
    beatResult (ringed [.ready 1 1, .ready 2 2, .ready 3 3, .ready 4 4] none) 32768 = some (false, true, some []) := by decide +kernel

theorem test_write_beat_filtered : beatResult (onAir 0 0 4) 0 = some (true, false, some []) := by decide +kernel

theorem test_write_beat_open : beatResult base 0x40 = some (false, false, some [0x40]) := by decide +kernel

/-- The shadow with a NOP closed in slot 2. -/
def nopClosed : State := (State.putShadow 764 9 (State.putShadow 514 9 base))

/-- A WRITE that has been served and closed slot 2. -/
def closing2 : HostTransaction := { writing with state := .served, closing := some 2 }

theorem witness_WriteEndHandsOn :
    (withHost closing2 nopClosed).port.transaction = some closing2 ∧ closing2.beats = burstBeats closing2.request.length ∧
    closing2.state = .served ∧ closing2.completion = false ∧ closing2.watched = none ∧ (withHost closing2 nopClosed).intake.retryDue = false ∧
    decodeSlot 2 0 ((withHost closing2 nopClosed).slotByte 2) = .command (.nop 2) ∧
    decodeSlot 2 0 ((State.putShadow 764 9 base).slotByte 2) = .malformed ∧
    decodeSlot 2 0 ((State.putShadow 766 5 (State.putShadow 512 5 base)).slotByte 2) = .unknownKind := by decide +kernel

theorem test_write_end_takes_nop :
    ((after (exec (.hostWriteEnd 0 false) (withHost closing2 nopClosed))).map fun u =>
      (u.command.taken, u.memctl.queue.map PartWrite.offset, u.port.transaction)) = some (1, [516], none) := by decide +kernel

/-- A choice before which the panel link has sent nothing. -/
def noneSent : ChoiceInput := { sent := 0, waitOver := false }

/-- The one-beat WRITE before its grant. -/
def asking : State := withHost { writing with state := .waiting } base

theorem witness_ArbiterGrantsInOrder :
    base.memctl.access = none ∧ noneSent.sent = 0 ∧ base.memctl.refreshDue = 0 ∧ base.scanRequest = none ∧
    base.playoutWaits = false ∧ base.memctl.queue = [] ∧ base.memctl.lastPlayout = false ∧ asking.playoutWaits = true ∧
    asking.port.transaction = some { writing with state := .waiting } ∧
    48 ≤ (List.replicate 48 (resultWrite 0 { code := .ok })).length := by decide +kernel

/-- R174: a wall of one cell with a slate at 0 needs two blocks a line; the blocks of line 1 stand 128 bytes on; below half the buffer the
next is asked for, at half none. -/
theorem test_scan_request :
    let wall : State := { slateScan with composer := { slateScan.composer with record := { slateScan.composer.record with w := 1, h := 1 } } }
    let fetched (n point : Nat) : State :=
      { wall with panel := { wall.panel with lineBuffer := List.replicate n { addr := 0, bytes := [] }, fetchAt := point } }
    ([fetched 0 0, fetched 1 1, fetched 2 5, fetched 255 252, fetched 256 252, fetched 0 253].map State.scanRequest) =
      [some (0, 0), some (4, 64), some (8, 128), some (252, 4032), none, none] := by decide +kernel

theorem test_arbiter_48 :
    let full := List.replicate 48 (resultWrite 0 { code := .ok })
    ((after (exec (.accessEnd noneSent .commandUnit)
      { asking with memctl := { asking.memctl with queue := full, lastPlayout := true } })).map
      fun u => u.memctl.access) = some (some (.queueEntry (resultWrite 0 { code := .ok }))) ∧
    ((after (exec (.accessEnd noneSent .commandUnit)
      { asking with memctl := { asking.memctl with queue := full.tail, lastPlayout := true } })).map
      fun u => u.memctl.access) = some (some .playout) := by decide +kernel

/-- R168, R169: the unmasked bytes of a granted WRITE are in memory. -/
theorem test_grant_masked :
    ((after (exec (.accessEnd noneSent .commandUnit)
      (withHost { writing with state := .waiting, forward := [{ oneBeat with mask := 0x81 }] } base))).map fun u => u.mem) =
      some [(0x100, 1), (0x107, 8)] := by decide +kernel

theorem witness_AccessEndLandsBytes :
    (accessing (.queueEntry { offset := 0x4FFC, data := [1, 0, 0, 0] })).memctl.access =
      some (.queueEntry { offset := 0x4FFC, data := [1, 0, 0, 0] }) ∧
    granted.memctl.access = some .playout ∧ granted.port.transaction = some writing ∧
    { writing.request with isWrite := false }.isWrite = false ∧ (accessing .refresh).memctl.access = some .refresh ∧
    (accessing (.scan 0 0)).memctl.access = some (.scan 0 0) ∧ base.panel.fetchAt ≤ 0 ∧
    0 < { base.panel with fetchAt := 1 }.fetchAt ∧ (0, 0) ∉ base.panel.late ∧ base.phase = .running := by decide

/-- R172: the end of an access is followed by the next grant. -/
theorem test_access_end_grants_next :
    ((after (exec (.accessEnd noneSent .commandUnit)
      { asking with memctl := { asking.memctl with access := some .refresh } })).map fun u => u.memctl.access) = some (some .playout) := by
  decide +kernel

/-! ### Witnesses: the command unit, and the invariants -/

theorem witness_CommandUnitTakesAndRefuses :
    base.phase = .running ∧ (0#32) ≠ (5#16 ++ 1#16) ∧ (327681#32) = (5#16 ++ 1#16) ∧ knownKind 5 = false := by decide +kernel

theorem test_ack_flags_keeps_others :
    (ruleAckFlags 0x8 ((base.raise .underrun).raise .gcEnded)).1.command.flags = 0x400 := by decide +kernel

theorem witness_RestartClearsTheShow :
    (onAir 3 3 4).phase = .running ∧ (onAir 3 3 4).exposure.unreleased + 16 ≤ 1024 ∧ (onAir 3 3 4).rotation.onAir 2 = false ∧
    (onAir 3 3 4).rotation.spot 1 = some spot1 ∧ spot1.withdrawing = false ∧ (onAir 3 3 4).exposure.missed ≤ 65535 ∧
    ((ending false .any true false .normal).rotation.spot 1).map Spot.withdrawing = some true ∧
    (ending false .any true false .normal).rotation.onAir 1 = true := by decide +kernel

theorem test_restart_records :
    ((after (exec (.restart 0) (onAir 3 3 4))).map fun u =>
      (u.exposure.nextRecord, u.memctl.queue.map PartWrite.offset, u.command.causes.restart, u.composer.requestedMode)) =
      some (1, [0x8000, 4], true, .black) := by decide +kernel

theorem witness_SlotRoundTrip :
    Instr.exact (.postMessage 5 longMessage) = true ∧ commandSlot (.postMessage 5 longMessage) = some 5 ∧
    commandKind (.postMessage 5 longMessage) = some 0x70 ∧ Instr.exact (.setRotation 0 0 2 [1, 2]) = true := by decide +kernel

theorem test_round_trip_set_capture :
    decodeSlot 4 0 (slotImage 0x41 0x1234 (payloadBytes (.setCapture 4 3 1 7 2))) = .command (.setCapture 4 3 1 7 2) := by
  decide +kernel

theorem witness_invariants_step : step (base.withPending [.nop 0]) = .next (finishCommand 0 { code := .ok } (base.withPending [])) := rfl

theorem witness_MemoryCanonical : MemoryCanonical { base with mem := [(3, 0), (5, 1)] } := ⟨by decide, by decide⟩

theorem witness_QueueSound : QueueSound { base with memctl := { base.memctl with queue := [resultWrite 63 { code := .ok }] } } := by
  refine ⟨by decide, ?_, by simp [base, State.reset, MemoryController.reset], by simp [base, State.reset, MemoryController.reset]⟩
  intro w hw
  simp only [List.mem_singleton] at hw
  subst hw
  exact ⟨by decide, by decide, by decide, by decide⟩

theorem witness_ClocksSound : ClocksSound (clocked .running 5999000) :=
  ⟨⟨by decide, by decide, by decide, by decide, by decide⟩, ⟨by decide, by decide, by decide, by decide, by decide⟩,
    ⟨by decide, by decide, by decide, by decide, by decide⟩, by decide, by decide⟩

theorem witness_ScoresAndLog :
    ScoresInRange { base with score := { base.score with fields := base.score.fields.set 0 999 } } ∧
    LogBounded { base with exposure := { base.exposure with nextRecord := 1024 } } :=
  ⟨⟨by decide, by decide, by decide, by decide⟩, by decide, by decide⟩

theorem witness_PoolBalanced :
    PoolBalanced { base with ticker := { base.ticker with waiting := [message 1 0 1 none], freeChunks := 127 } } :=
  ⟨by decide, by decide, by decide⟩

theorem witness_ReplaySound : ReplaySound fullRing := by
  refine ⟨⟨by decide, by decide, by decide, by decide, by decide, by decide⟩, ⟨by decide, ?_⟩, by decide, ?_⟩
  · intro p hp
    cases hp
  · intro k hk
    cases hk

theorem witness_PlansPlaceable : PlansPlaceable base :=
  ⟨by decide, by decide, by decide, by decide, witness_StageZoneByItsChecks_placeable, witness_StageZoneByItsChecks_placeable⟩

theorem witness_PlansPlaceable_zone : (leading.composer.live).countOn .fill = 1 ∧ (leading.composer.live[(0 : ZoneIx)]).onScreen 64 18 = true := by
  decide

end Sys2Proof.Tests
end

section
/-! PROOFS. The score record (Chapter 6): SET_SCORE and ADD_SCORE store a clamped value in one field (R101, R102). -/

namespace Sys2Proof.Machine

/-! ### A host command answered by its rule -/

/-- A command whose meaning is its owner's rule answers, while the part is running, with that rule's state and result (R179 step 3). -/
theorem answers_of_rule {c : Instr} {slot : RingSlot} {rule : CommandRule} {s s' : State} {r : Result}
    (hexec : exec c s = hostCommand slot rule s) (hrun : s.phase = .running) (hrule : rule s = (s', r)) :
    Answers c slot s s' r := by
  rw [Answers, hexec, hostCommand_running hrun, takeCommand, hrule]

theorem exec_setScore (slot : RingSlot) (field : Byte) (value : Word) (s : State) :
    exec (.setScore slot field value) s = hostCommand slot (ruleSetScore field value) s := rfl

theorem exec_addScore (slot : RingSlot) (field : Byte) (delta : Word) (s : State) :
    exec (.addScore slot field delta) s = hostCommand slot (ruleAddScore field delta) s := rfl

/-! ### Field numbers and ranges (Table 6.1) -/

theorem scoreField_of_val_eq {b : Byte} {f : Fin 10} (h : f.val = b.toNat) : scoreField b = some f := by
  have hlt : b.toNat < 10 := h ▸ f.isLt
  rw [scoreField, dif_pos hlt]
  exact congrArg some (Fin.ext h.symm)

theorem scoreField_eq_none {b : Byte} (h : 10 ≤ b.toNat) : scoreField b = none :=
  dif_neg (Nat.not_lt.mpr h)

theorem isChoiceField_iff (f : Fin 10) : isChoiceField f = true ↔ f = 3 ∨ f = 8 ∨ f = 9 := by
  simp [isChoiceField, or_assoc]

/-! ### Clamping -/

theorem clampField_cast (f : Fin 10) (x : Int) : (clampField f x : Int) = max 0 (min (fieldMax f : Int) x) :=
  Int.toNat_of_nonneg (by omega)

theorem clampField_of_neg {f : Fin 10} {x : Int} (h : x < 0) : clampField f x = 0 := by
  rw [clampField]
  omega

theorem clampField_of_above {f : Fin 10} {x : Int} (h : (fieldMax f : Int) < x) : clampField f x = fieldMax f := by
  rw [clampField]
  omega

theorem clampField_of_inRange {f : Fin 10} {x : Int} (hlow : 0 ≤ x) (hhigh : x ≤ fieldMax f) : clampField f x = x.toNat := by
  rw [clampField]
  omega

/-- A number is its own clamped value exactly when it lies in the field's range. -/
theorem clampField_eq_self_iff (f : Fin 10) (x : Int) : (clampField f x : Int) = x ↔ 0 ≤ x ∧ x ≤ fieldMax f := by
  rw [clampField_cast]
  omega

/-- The result of a clamped store, by whether the clamping changed the number. -/
theorem clampResult_eq (f : Fin 10) (x : Int) :
    clampResult f x = { code := if (clampField f x : Int) = x then .ok else .clamped } := by
  have hrange : (x < 0 ∨ (fieldMax f : Int) < x) ↔ ¬ (clampField f x : Int) = x := by
    rw [clampField_eq_self_iff]
    omega
  simp only [clampResult, Result.plain, hrange, ite_not]

/-- The value that SET_SCORE stores, by the three cases of R101. -/
theorem clampField_toInt (f : Fin 10) (w : Word) :
    clampField f w.toInt = if w.toInt < 0 then 0 else if (fieldMax f : Int) < w.toInt then fieldMax f else w.toNat := by
  split
  · next hneg => exact clampField_of_neg hneg
  · next hlow =>
    split
    · next habove => exact clampField_of_above habove
    · next hhigh =>
      have hnonneg : 0 ≤ w.toInt := Int.not_lt.mp hlow
      rw [clampField_of_inRange hnonneg (Int.not_lt.mp hhigh)]
      exact BitVec.toNat_toInt_of_sle (BitVec.sle_iff_toInt_le.mpr hnonneg)

/-! ### Storing a value in a field (R103) -/

theorem fireCapture_score (ev : CaptureEvent) (s : State) : (fireCapture ev s).score = s.score := by
  rw [fireCapture_frame]

@[simp] theorem ScoreUnit.startFlash_fields (f : Fin 10) (u : ScoreUnit) : (u.startFlash f).fields = u.fields := by
  unfold ScoreUnit.startFlash
  split
  · rfl
  · split <;> rfl

/-- Everything a store into the score record can do: a plain store, one that fires the SCORE_CHANGE captures (a fall), or one that also
starts the flash and hands the rise on (R103, R119). -/
theorem storeScore_cases (f : Fin 10) (v : Nat) (s : State) :
    storeScore f v s = { s with score := { s.score with fields := s.score.fields.set f.val v f.isLt } } ∨
    (v < s.score.fields[f] ∧ storeScore f v s =
      fireCapture .scoreChange { s with score := { s.score with fields := s.score.fields.set f.val v f.isLt } }) ∨
    (s.score.fields[f] < v ∧ storeScore f v s = scoreRise (fireCapture .scoreChange
      { s with score := ScoreUnit.startFlash f { s.score with fields := s.score.fields.set f.val v f.isLt } })) := by
  unfold storeScore
  dsimp only
  split
  · split
    · next hrise => exact .inr (.inr ⟨hrise, rfl⟩)
    · split
      · next hfall => exact .inr (.inl ⟨hfall, rfl⟩)
      · exact .inl rfl
  · exact .inl rfl

theorem storeScore_fields (f : Fin 10) (v : Nat) (s : State) :
    (storeScore f v s).score.fields = s.score.fields.set f.val v f.isLt := by
  obtain hplain | ⟨-, hfall⟩ | ⟨-, hrise⟩ := storeScore_cases f v s
  · rw [hplain]
  · rw [hfall, fireCapture_score]
  · rw [hrise, scoreRise_score, fireCapture_score, ScoreUnit.startFlash_fields]

theorem storeScore_field_same (f : Fin 10) (v : Nat) (s : State) : (storeScore f v s).score.fields[f] = v := by
  simp [storeScore_fields]

theorem storeScore_field_other {f g : Fin 10} (v : Nat) (s : State) (h : g ≠ f) :
    (storeScore f v s).score.fields[g] = s.score.fields[g] := by
  have hne : f.val ≠ g.val := fun e => h (Fin.ext e.symm)
  simp [storeScore_fields, Vector.getElem_set_ne, hne]

/-- A store of the value already held is not a change (R101, R102). -/
theorem storeScore_held {f : Fin 10} {v : Nat} {s : State} (h : v = s.score.fields[f]) : storeScore f v s = s := by
  obtain hplain | ⟨hfall, -⟩ | ⟨hrise, -⟩ := storeScore_cases f v s
  · rw [hplain, h]
    simp
  · omega
  · omega

/-- What a store into the score record can change at all. -/
theorem storeScore_frame (f : Fin 10) (v : Nat) (s : State) :
    storeScore f v s =
      { s with
        score := (storeScore f v s).score
        rotation := (storeScore f v s).rotation
        console := { s.console with channels := (storeScore f v s).console.channels }
        command := { s.command with flags := (storeScore f v s).command.flags } } := by
  obtain hplain | ⟨-, hfall⟩ | ⟨-, hrise⟩ := storeScore_cases f v s
  · rw [hplain]
  · rw [hfall, fireCapture_frame]
  · rw [hrise, fireCapture_frame, scoreRise]

/-! ### The two rules -/

theorem ruleSetScore_refused {field : Byte} (value : Word) (s : State) (h : 10 ≤ field.toNat) :
    ruleSetScore field value s = refuse .outOfRange s := by
  rw [ruleSetScore, scoreField_eq_none h]

theorem ruleSetScore_taken {field : Byte} {f : Fin 10} (value : Word) (s : State) (h : f.val = field.toNat) :
    ruleSetScore field value s = (storeScore f (clampField f value.toInt) s, clampResult f value.toInt) := by
  rw [ruleSetScore, scoreField_of_val_eq h]

theorem ruleAddScore_refused {field : Byte} {delta : Word} (s : State)
    (h : 10 ≤ field.toNat ∨ field.toNat = 3 ∨ field.toNat = 8 ∨ field.toNat = 9 ∨ delta.toInt < -99 ∨ 99 < delta.toInt) :
    ruleAddScore field delta s = refuse .outOfRange s := by
  by_cases hnum : field.toNat < 10
  · rw [ruleAddScore, scoreField_of_val_eq (f := ⟨field.toNat, hnum⟩) rfl]
    dsimp only
    split
    · rfl
    · next hnumeric =>
      rw [isChoiceField_iff] at hnumeric
      simp only [Fin.ext_iff] at hnumeric
      rw [if_pos]
      omega
  · rw [ruleAddScore, scoreField_eq_none (Nat.not_lt.mp hnum)]

theorem ruleAddScore_taken {field : Byte} {delta : Word} {f : Fin 10} (s : State) (hf : f.val = field.toNat)
    (hnumeric : ¬ (f = 3 ∨ f = 8 ∨ f = 9)) (hlow : -99 ≤ delta.toInt) (hhigh : delta.toInt ≤ 99) :
    ruleAddScore field delta s =
      (storeScore f (clampField f ((s.score.fields[f] : Int) + delta.toInt)) s,
        clampResult f ((s.score.fields[f] : Int) + delta.toInt)) := by
  have hdelta : ¬ (delta.toInt < -99 ∨ 99 < delta.toInt) := by omega
  rw [← isChoiceField_iff] at hnumeric
  rw [ruleAddScore, scoreField_of_val_eq hf]
  dsimp only
  rw [if_neg hnumeric, if_neg hdelta]

/-! ### The obligations -/

/-- Settles O19, from what the rule of SET_SCORE answers and what a store into one field leaves as it was. -/
theorem setScoreClampsToRange : Obligations.SetScoreClampsToRange := by
  unfold Obligations.SetScoreClampsToRange
  refine ⟨by decide, fun slot field value s hrun => ⟨fun hnum => ?_, fun f v hf hv => ?_⟩⟩
  · exact answers_of_rule (exec_setScore ..) hrun (ruleSetScore_refused value s hnum)
  · rw [← clampField_toInt] at hv
    have hrule := ruleSetScore_taken value s hf
    rw [← hv] at hrule
    exact ⟨storeScore f v s, answers_of_rule (exec_setScore ..) hrun hrule, storeScore_field_same f v s,
      fun _ hg => storeScore_field_other v s hg, storeScore_held, storeScore_frame f v s⟩

/-- Settles O20, from what the rule of ADD_SCORE answers and what a store into one field leaves as it was. -/
theorem addScoreClampsTheSum : Obligations.AddScoreClampsTheSum := by
  unfold Obligations.AddScoreClampsTheSum
  refine fun slot field delta s hrun => ⟨fun hbad => ?_, fun f v hf h3 h8 h9 hlow hhigh hv => ?_⟩
  · exact answers_of_rule (exec_addScore ..) hrun (ruleAddScore_refused s hbad)
  · rw [← clampField_cast, Int.natCast_inj] at hv
    have hrule := ruleAddScore_taken s hf (by simp [h3, h8, h9]) hlow hhigh
    rw [clampResult_eq, ← hv] at hrule
    exact ⟨storeScore f v s, answers_of_rule (exec_addScore ..) hrun hrule, storeScore_field_same f v s,
      fun _ hg => storeScore_field_other v s hg, storeScore_held, storeScore_frame f v s⟩

end Sys2Proof.Machine
end

section
/-! PROOFS. What each command and each event of the table can change at all: one frame per operation, the owner of each host command, and
the induction over steps that every invariant goes through. -/

namespace Sys2Proof.Machine

/-! ### Rules: refused without a change, or taken by the owning block -/

/-- What a rule answers: it leaves the state as it is, or it takes the command and makes a state with the property given of it. -/
def RuleOutcome (P : State → Prop) (s : State) (r : State × Result) : Prop :=
  r.1 = s ∨ (r.2.code.counted = true ∧ P r.1)

theorem RuleOutcome.unchanged {P : State → Prop} {s : State} (r : Result) : RuleOutcome P s (s, r) := .inl rfl

theorem RuleOutcome.refuse {P : State → Prop} {s : State} (code : ResultCode) : RuleOutcome P s (refuse code s) := .inl rfl

theorem RuleOutcome.taken {P : State → Prop} {s t : State} {r : Result} (hr : r.code.counted = true) (h : P t) :
    RuleOutcome P s (t, r) := .inr ⟨hr, h⟩

/-- A command that makes checks is refused without a change or taken as it would be without them. -/
theorem RuleOutcome.checked {P : State → Prop} {s : State} {checks : List (Bool × ResultCode)} {taken : State × Result}
    (h : RuleOutcome P s taken) : RuleOutcome P s (checked checks s taken) := by
  cases hf : firstFailing checks with
  | none => rwa [checked_of_none hf]
  | some code => rw [checked_of_some hf]; exact .inl rfl

theorem RuleOutcome.mono {P Q : State → Prop} {s : State} {r : State × Result} (hPQ : ∀ t, P t → Q t) (h : RuleOutcome P s r) :
    RuleOutcome Q s r :=
  h.imp id fun ⟨hc, hp⟩ => ⟨hc, hPQ _ hp⟩

/-- A property that holds of the state and of every state the rule can make holds of the state it answers with. -/
theorem RuleOutcome.elim {P Q : State → Prop} {s : State} {r : State × Result} (h : RuleOutcome P s r) (hs : Q s)
    (hPQ : ∀ t, P t → Q t) : Q r.1 := by
  obtain h | ⟨-, h⟩ := h
  · rwa [h]
  · exact hPQ _ h

/-! ### Which fields an operation may change -/

/-- The states that differ from a state in the composer alone. -/
def ComposerFrame (s t : State) : Prop := ∃ c, t = { s with composer := c }

/-- The states that differ from a state in the intake alone. -/
def IntakeFrame (s t : State) : Prop := ∃ n, t = { s with intake := n }

/-- The states that differ from a state in the intake and the flags alone. -/
def IntakeFlagFrame (s t : State) : Prop := ∃ n f, t = { s with intake := n, command := { s.command with flags := f } }

/-- The states that differ from a state in the roller and the flags alone. -/
def RollerFrame (s t : State) : Prop := ∃ r f, t = { s with roller := r, command := { s.command with flags := f } }

/-- The states that differ from a state in the capture channels and the flags alone. -/
def CaptureFrame (s t : State) : Prop :=
  ∃ c f, t = { s with console := { s.console with channels := c }, command := { s.command with flags := f } }

/-- The states that differ from a state in the clock unit, and in the roller, the console and the flags, to which the clock unit hands on
its starts, stops and ends. -/
def ClockFrame (s t : State) : Prop :=
  ∃ c r k f, t = { s with clock := c, roller := r, console := k, command := { s.command with flags := f } }

/-- The states that differ from a state in the score unit, and in the sponsor zones, the capture channels and the flags, to which a change
of score is handed on. -/
def ScoreFrame (s t : State) : Prop :=
  ∃ u r c f, t =
    { s with
      score := u
      rotation := r
      console := { s.console with channels := c }
      command := { s.command with flags := f } }

/-- The states that differ from a state in the rotation unit alone. -/
def RotationFrame (s t : State) : Prop := ∃ r, t = { s with rotation := r }

/-- The states that differ from a state in the ticker unit and the flags alone. -/
def TickerFrame (s t : State) : Prop := ∃ k f, t = { s with ticker := k, command := { s.command with flags := f } }

/-- The states that differ from a state in the flags, the ATTN mask and the causes alone. -/
def CommandFrame (s t : State) : Prop :=
  ∃ f m c, t = { s with command := { s.command with flags := f, attnMask := m, causes := c } }

/-- The states that differ from a state in what the rotation unit and the log change: spots and zones, log counters, flags, and the records
in the queue or waiting for it. -/
def ShowingFrame (s t : State) : Prop :=
  ∃ r e f q w, t =
    { s with
      rotation := r
      exposure := e
      command := { s.command with flags := f }
      memctl := { s.memctl with queue := q, waitExposure := w } }

/-- The states that differ from a state in what a RESTART changes. -/
def RestartFrame (s t : State) : Prop :=
  ∃ c o k r e f g q w, t =
    { s with
      composer := c
      roller := o
      ticker := k
      rotation := r
      exposure := e
      command := { s.command with flags := f, causes := g }
      memctl := { s.memctl with queue := q, waitExposure := w } }

theorem IntakeFlagFrame.refl (s : State) : IntakeFlagFrame s s := ⟨_, _, rfl⟩
theorem RollerFrame.refl (s : State) : RollerFrame s s := ⟨_, _, rfl⟩
theorem CaptureFrame.refl (s : State) : CaptureFrame s s := ⟨_, _, rfl⟩
theorem ClockFrame.refl (s : State) : ClockFrame s s := ⟨_, _, _, _, rfl⟩
theorem ScoreFrame.refl (s : State) : ScoreFrame s s := ⟨_, _, _, _, rfl⟩
theorem TickerFrame.refl (s : State) : TickerFrame s s := ⟨_, _, rfl⟩
theorem ShowingFrame.refl (s : State) : ShowingFrame s s := ⟨_, _, _, _, _, rfl⟩

theorem IntakeFlagFrame.trans {s t u : State} (h : IntakeFlagFrame s t) (h' : IntakeFlagFrame t u) : IntakeFlagFrame s u := by
  obtain ⟨_, _, rfl⟩ := h
  obtain ⟨_, _, rfl⟩ := h'
  exact ⟨_, _, rfl⟩

theorem RollerFrame.trans {s t u : State} (h : RollerFrame s t) (h' : RollerFrame t u) : RollerFrame s u := by
  obtain ⟨_, _, rfl⟩ := h
  obtain ⟨_, _, rfl⟩ := h'
  exact ⟨_, _, rfl⟩

theorem CaptureFrame.trans {s t u : State} (h : CaptureFrame s t) (h' : CaptureFrame t u) : CaptureFrame s u := by
  obtain ⟨_, _, rfl⟩ := h
  obtain ⟨_, _, rfl⟩ := h'
  exact ⟨_, _, rfl⟩

theorem ClockFrame.trans {s t u : State} (h : ClockFrame s t) (h' : ClockFrame t u) : ClockFrame s u := by
  obtain ⟨_, _, _, _, rfl⟩ := h
  obtain ⟨_, _, _, _, rfl⟩ := h'
  exact ⟨_, _, _, _, rfl⟩

theorem TickerFrame.trans {s t u : State} (h : TickerFrame s t) (h' : TickerFrame t u) : TickerFrame s u := by
  obtain ⟨_, _, rfl⟩ := h
  obtain ⟨_, _, rfl⟩ := h'
  exact ⟨_, _, rfl⟩

theorem ShowingFrame.trans {s t u : State} (h : ShowingFrame s t) (h' : ShowingFrame t u) : ShowingFrame s u := by
  obtain ⟨_, _, _, _, _, rfl⟩ := h
  obtain ⟨_, _, _, _, _, rfl⟩ := h'
  exact ⟨_, _, _, _, _, rfl⟩

theorem CaptureFrame.clockFrame {s t : State} (h : CaptureFrame s t) : ClockFrame s t := by
  obtain ⟨_, _, rfl⟩ := h
  exact ⟨_, _, _, _, rfl⟩

theorem RollerFrame.clockFrame {s t : State} (h : RollerFrame s t) : ClockFrame s t := by
  obtain ⟨_, _, rfl⟩ := h
  exact ⟨_, _, _, _, rfl⟩

/-- A flag raised on a condition changes the flags alone, which every frame that lists them allows. -/
theorem State.raiseIf_frame (c : Bool) (f : Flag) (s : State) : ∃ g, s.raiseIf c f = { s with command := { s.command with flags := g } } := by
  cases c
  · exact ⟨s.command.flags, rfl⟩
  · exact ⟨_, rfl⟩

theorem raiseIf_captureFrame (c : Bool) (f : Flag) (s : State) : CaptureFrame s (s.raiseIf c f) := by
  obtain ⟨_, h⟩ := State.raiseIf_frame c f s
  exact ⟨_, _, h⟩

/-! ### Clocks and captures -/

theorem fireCapture_captureFrame (ev : CaptureEvent) (s : State) : CaptureFrame s (fireCapture ev s) := ⟨_, _, fireCapture_frame ev s⟩

theorem fireCaptureIf_captureFrame (c : Bool) (ev : CaptureEvent) (s : State) : CaptureFrame s (fireCaptureIf c ev s) := by
  cases c
  · exact .refl s
  · exact fireCapture_captureFrame ev s

/-- Handing the events of a tick on changes the capture channels and the flags alone. -/
theorem handOn_captureFrame (e : ClockEvents) (s : State) : CaptureFrame s (handOn e s) :=
  (((((((raiseIf_captureFrame ..).trans (raiseIf_captureFrame ..)).trans (raiseIf_captureFrame ..)).trans
    (raiseIf_captureFrame ..)).trans (fireCaptureIf_captureFrame ..)).trans (fireCaptureIf_captureFrame ..)).trans
    (fireCaptureIf_captureFrame ..)).trans (fireCaptureIf_captureFrame ..)

theorem cutOnClock_rollerFrame (s : State) : RollerFrame s (cutOnClock s) := by
  unfold cutOnClock
  split
  · exact ⟨_, _, rfl⟩
  · exact .refl s

theorem withClock_clockFrame (c : ClockUnit) (s : State) : ClockFrame s { s with clock := c } := ⟨_, _, _, _, rfl⟩

theorem gameClockStart_clockFrame (s : State) : ClockFrame s (gameClockStart s) :=
  ((withClock_clockFrame _ s).trans (cutOnClock_rollerFrame _).clockFrame).trans (fireCapture_captureFrame _ _).clockFrame

theorem gameClockStop_clockFrame (s : State) : ClockFrame s (gameClockStop s) :=
  (withClock_clockFrame _ s).trans (fireCapture_captureFrame _ _).clockFrame

theorem gamePeriodEnd_clockFrame (s : State) : ClockFrame s (gamePeriodEnd s) :=
  ClockFrame.trans ⟨_, _, _, _, rfl⟩ (fireCapture_captureFrame _ _).clockFrame

theorem startClock_outcome (s : State) : RuleOutcome (ClockFrame s) s (startClock s) := by
  unfold startClock
  split
  · exact .taken rfl (gameClockStart_clockFrame s)
  · exact .unchanged _
  · exact .refuse _

theorem stopClock_outcome (s : State) : RuleOutcome (ClockFrame s) s (stopClock s) := by
  unfold stopClock
  split
  · exact .taken rfl (gameClockStop_clockFrame s)
  · exact .unchanged _
  · exact .unchanged _

theorem shotStart_outcome (s : State) : RuleOutcome (ClockFrame s) s (shotStart s) := by
  unfold shotStart
  split
  · exact .refuse _
  · exact .taken rfl (withClock_clockFrame _ s)
  · exact .unchanged _
  · exact .refuse _

theorem shotStop_outcome (s : State) : RuleOutcome (ClockFrame s) s (shotStop s) := by
  unfold shotStop
  split
  · exact .taken rfl (withClock_clockFrame _ s)
  · exact .unchanged _
  · exact .unchanged _
  · exact .unchanged _

theorem shotReset_outcome (s : State) : RuleOutcome (ClockFrame s) s (shotReset s) := .taken rfl (withClock_clockFrame _ s)

theorem shotBlank_outcome (s : State) : RuleOutcome (ClockFrame s) s (shotBlank s) := .taken rfl (withClock_clockFrame _ s)

theorem shotToggle_outcome (s : State) : RuleOutcome (ClockFrame s) s (shotToggle s) := by
  unfold shotToggle
  split
  · exact shotStop_outcome s
  · exact shotStart_outcome s

theorem decideRequest_outcome (q : LineRequest) (s : State) : RuleOutcome (ClockFrame s) s (decideRequest q s) := by
  cases q with
  | start => exact startClock_outcome s
  | stop => exact stopClock_outcome s
  | shotReset => exact shotReset_outcome s
  | shotToggle => exact shotToggle_outcome s

theorem adjustClock_clockFrame (delta : Int) (s : State) : ClockFrame s (adjustClock delta s) := by
  unfold adjustClock
  dsimp only
  split
  · split
    · exact (withClock_clockFrame _ s).trans (gamePeriodEnd_clockFrame _)
    · exact withClock_clockFrame _ s
  · exact withClock_clockFrame _ s

theorem counted_of_clamped_or_ok {p : Prop} [Decidable p] : (if p then ResultCode.clamped else .ok).counted = true := by
  split <;> rfl

theorem ruleAdjustClock_outcome (delta : Word) (s : State) : RuleOutcome (ClockFrame s) s (ruleAdjustClock delta s) := by
  unfold ruleAdjustClock
  split
  · exact .refuse _
  · split
    · exact .unchanged _
    · exact .taken counted_of_clamped_or_ok (adjustClock_clockFrame _ s)

theorem ruleSetGameClock_outcome (value limit : Word) (direction tenths : Byte) (s : State) :
    RuleOutcome (ClockFrame s) s (ruleSetGameClock value limit direction tenths s) := by
  unfold ruleSetGameClock
  split
  · exact .checked (.taken rfl (withClock_clockFrame _ s))
  · exact .refuse _

theorem ruleSetMark_outcome (mark present actions : Byte) (value : Word) (s : State) :
    RuleOutcome (ClockFrame s) s (ruleSetMark mark present actions value s) := by
  unfold ruleSetMark
  split
  · exact .refuse _
  · refine .checked (.taken rfl ?_)
    split
    · exact withClock_clockFrame _ s
    · exact withClock_clockFrame _ s

theorem ruleSetShotClock_outcome (preset : Word) (follow startOnGame shotHorn : Byte) (s : State) :
    RuleOutcome (ClockFrame s) s (ruleSetShotClock preset follow startOnGame shotHorn s) := by
  unfold ruleSetShotClock
  split
  · exact .checked (.taken rfl (withClock_clockFrame _ s))
  · exact .refuse _

theorem ruleSetHorn_outcome (periodTime shotTime : Half) (endHorn : Byte) (s : State) :
    RuleOutcome (ClockFrame s) s (ruleSetHorn periodTime shotTime endHorn s) := by
  unfold ruleSetHorn
  split
  · exact .refuse _
  · exact .checked (.taken rfl (withClock_clockFrame _ s))

theorem ruleSoundHorn_outcome (duration : Half) (s : State) : RuleOutcome (ClockFrame s) s (ruleSoundHorn duration s) :=
  .checked (.taken rfl (withClock_clockFrame _ s))

/-! ### The console -/

/-- The states that differ from a state in the console alone. -/
def ConsoleFrame (s t : State) : Prop := ∃ k, t = { s with console := k }

theorem ruleSetLine_outcome (line function activeLevel filter lines : Byte) (s : State) :
    RuleOutcome (ConsoleFrame s) s (ruleSetLine line function activeLevel filter lines s) := by
  unfold ruleSetLine
  split
  · exact .taken rfl ⟨_, rfl⟩
  · exact .refuse _

theorem ruleSetCapture_outcome (channel source line edge : Byte) (s : State) :
    RuleOutcome (ConsoleFrame s) s (ruleSetCapture channel source line edge s) := by
  unfold ruleSetCapture
  split
  · exact .refuse _
  · split
    · exact .taken rfl ⟨_, rfl⟩
    · exact .refuse _

/-! ### The score -/

theorem storeScore_scoreFrame (f : Fin 10) (v : Nat) (s : State) : ScoreFrame s (storeScore f v s) := ⟨_, _, _, _, storeScore_frame f v s⟩

theorem clampResult_counted (f : Fin 10) (v : Int) : (clampResult f v).code.counted = true := counted_of_clamped_or_ok

theorem ruleSetScore_outcome (field : Byte) (value : Word) (s : State) :
    RuleOutcome (ScoreFrame s) s (ruleSetScore field value s) := by
  unfold ruleSetScore
  split
  · exact .taken (clampResult_counted _ _) (storeScore_scoreFrame _ _ s)
  · exact .refuse _

theorem ruleAddScore_outcome (field : Byte) (delta : Word) (s : State) :
    RuleOutcome (ScoreFrame s) s (ruleAddScore field delta s) := by
  unfold ruleAddScore
  split
  · split
    · exact .refuse _
    · split
      · exact .refuse _
      · exact .taken (clampResult_counted _ _) (storeScore_scoreFrame _ _ s)
  · exact .refuse _

theorem ruleSetFlash_outcome (frames : Half) (s : State) : RuleOutcome (ScoreFrame s) s (ruleSetFlash frames s) :=
  .checked (.taken rfl ⟨_, _, _, _, rfl⟩)

/-! ### The composer -/

theorem ruleSetScreen_outcome (w h : Byte) (s : State) : RuleOutcome (ComposerFrame s) s (ruleSetScreen w h s) :=
  .checked (.taken rfl ⟨_, rfl⟩)

theorem ruleStageZone_outcome (index : Byte) (p : ZonePayload) (s : State) :
    RuleOutcome (ComposerFrame s) s (ruleStageZone index p s) := by
  unfold ruleStageZone
  split
  · exact .taken rfl ⟨_, rfl⟩
  · exact .checked (.taken rfl ⟨_, rfl⟩)
  · exact .refuse _

theorem ruleApplyPlan_outcome (s : State) : RuleOutcome (ComposerFrame s) s (ruleApplyPlan s) := .taken rfl ⟨_, rfl⟩

theorem ruleCancelStage_outcome (s : State) : RuleOutcome (ComposerFrame s) s (ruleCancelStage s) := .taken rfl ⟨_, rfl⟩

theorem ruleSetOutputMode_outcome (mode : Byte) (s : State) : RuleOutcome (ComposerFrame s) s (ruleSetOutputMode mode s) := by
  unfold ruleSetOutputMode
  split
  · exact .taken rfl ⟨_, rfl⟩
  · exact .refuse _

theorem ruleSetHouseSlate_outcome (present : Byte) (base : Word) (s : State) :
    RuleOutcome (ComposerFrame s) s (ruleSetHouseSlate present base s) := by
  unfold ruleSetHouseSlate
  split
  · exact .checked (.taken rfl ⟨_, rfl⟩)
  · exact .taken rfl ⟨_, rfl⟩
  · exact .refuse _

theorem ruleSetFont_outcome (present : Byte) (base : Word) (s : State) :
    RuleOutcome (ComposerFrame s) s (ruleSetFont present base s) := by
  unfold ruleSetFont
  split
  · exact .checked (.taken rfl ⟨_, rfl⟩)
  · exact .taken rfl ⟨_, rfl⟩
  · exact .refuse _

/-! ### The replay -/

theorem ruleSetRing_outcome (ringBase aliasBase : Word) (w h count : Byte) (s : State) :
    RuleOutcome (IntakeFrame s) s (ruleSetRing ringBase aliasBase w h count s) :=
  .checked (.taken rfl ⟨_, rfl⟩)

theorem ruleHoldFrames_outcome (first last : Word) (s : State) : RuleOutcome (IntakeFrame s) s (ruleHoldFrames first last s) :=
  .checked (.taken counted_of_clamped_or_ok ⟨_, rfl⟩)

theorem ruleReleaseFrames_outcome (first last : Word) (s : State) :
    RuleOutcome (IntakeFrame s) s (ruleReleaseFrames first last s) :=
  .checked (.taken rfl ⟨_, rfl⟩)

theorem ruleDiscardFrames_outcome (first last : Word) (s : State) :
    RuleOutcome (IntakeFrame s) s (ruleDiscardFrames first last s) :=
  .checked (.taken rfl ⟨_, rfl⟩)

theorem startRoll_rollerFrame (p : RollPayload) (o : Bool) (d : RollDirection) (e : EndMode) (b c : Bool) (s : State) :
    RollerFrame s (startRoll p o d e b c s) := by
  unfold startRoll
  dsimp only
  split
  · exact ⟨_, _, rfl⟩
  · exact ⟨_, _, rfl⟩

theorem ruleRoll_outcome (p : RollPayload) (s : State) : RuleOutcome (RollerFrame s) s (ruleRoll p s) := by
  unfold ruleRoll
  split
  · exact .refuse _
  · exact .checked (.taken counted_of_clamped_or_ok (startRoll_rollerFrame ..))

theorem ruleSetSpeed_outcome (speed : Half) (direction : Byte) (s : State) :
    RuleOutcome (RollerFrame s) s (ruleSetSpeed speed direction s) := by
  unfold ruleSetSpeed
  split
  · exact .refuse _
  · split
    · exact .taken counted_of_clamped_or_ok ⟨_, _, rfl⟩
    · exact .refuse _

theorem ruleStopReplay_outcome (s : State) : RuleOutcome (RollerFrame s) s (ruleStopReplay s) := by
  unfold ruleStopReplay
  split
  · exact .unchanged _
  · exact .taken rfl ⟨_, _, rfl⟩

/-! ### Spots and showings -/

theorem ruleDefineSpot_outcome (p : SpotPayload) (s : State) : RuleOutcome (RotationFrame s) s (ruleDefineSpot p s) := by
  unfold ruleDefineSpot
  split
  · exact .refuse _
  · refine .checked ?_
    split
    · exact .taken rfl ⟨_, rfl⟩
    · exact .taken rfl ⟨_, rfl⟩

theorem ruleWithdrawSpot_outcome (id : Byte) (s : State) : RuleOutcome (RotationFrame s) s (ruleWithdrawSpot id s) := by
  unfold ruleWithdrawSpot
  split
  · exact .refuse _
  · split
    · exact .unchanged _
    · dsimp only
      split
      · exact .taken rfl ⟨_, rfl⟩
      · exact .taken rfl ⟨_, rfl⟩

theorem ruleSetContract_outcome (id : Byte) (seconds : Word) (s : State) :
    RuleOutcome (RotationFrame s) s (ruleSetContract id seconds s) :=
  .checked (.taken rfl ⟨_, rfl⟩)

theorem ruleResetTotals_outcome (id : Byte) (s : State) : RuleOutcome (RotationFrame s) s (ruleResetTotals id s) :=
  .checked (.taken rfl ⟨_, rfl⟩)

theorem ruleSetRotation_outcome (zone count : Byte) (ids : List Byte) (s : State) :
    RuleOutcome (RotationFrame s) s (ruleSetRotation zone count ids s) := by
  unfold ruleSetRotation
  split
  · exact .refuse _
  · exact .checked (.taken rfl ⟨_, rfl⟩)

theorem ruleSetSting_outcome (zone id : Byte) (s : State) : RuleOutcome (RotationFrame s) s (ruleSetSting zone id s) := by
  unfold ruleSetSting
  split
  · exact .refuse _
  · exact .checked (.taken rfl ⟨_, rfl⟩)

theorem offerExposure_frame (w : PartWrite) (m : MemoryController) :
    ∃ q x, m.offerExposure w = { m with queue := q, waitExposure := x } := by
  obtain ⟨-, -, h⟩ | h := offerExposure_cases w m
  · exact ⟨_, m.waitExposure, h⟩
  · exact ⟨m.queue, _, h⟩

theorem offerRecord_showingFrame (z : ZoneIx) (reason : ShowingEnd) (saturated : Bool) (h : Showing) (s : State) :
    ShowingFrame s (offerRecord z reason saturated h s) := by
  unfold offerRecord
  split
  · obtain ⟨q, x, hm⟩ := offerExposure_frame
      (recordWrite s.exposure.nextRecord (proofRecord s.exposure.nextRecord z reason saturated s.clock.venue h)) s.memctl
    rw [hm]
    exact ⟨s.rotation, _, s.command.flags, q, x, rfl⟩
  · exact ⟨s.rotation, _, _, s.memctl.queue, s.memctl.waitExposure, rfl⟩

theorem RotationFrame.showingFrame {s t : State} (h : RotationFrame s t) : ShowingFrame s t := by
  obtain ⟨_, rfl⟩ := h
  exact ⟨_, s.exposure, s.command.flags, s.memctl.queue, s.memctl.waitExposure, rfl⟩

theorem endShowing_showingFrame (z : ZoneIx) (reason : ShowingEnd) (s : State) : ShowingFrame s (endShowing z reason s) := by
  unfold endShowing
  split
  · exact .refl s
  · exact (offerRecord_showingFrame ..).trans (RotationFrame.showingFrame ⟨_, rfl⟩)

theorem endIf_showingFrame (z : ZoneIx) (reason : Option ShowingEnd) (s : State) : ShowingFrame s (endIf z reason s) := by
  cases reason with
  | none => exact .refl s
  | some r => exact endShowing_showingFrame z r s

theorem raiseIf_showingFrame (c : Bool) (f : Flag) (s : State) : ShowingFrame s (s.raiseIf c f) := by
  obtain ⟨g, h⟩ := State.raiseIf_frame c f s
  exact ⟨s.rotation, s.exposure, g, s.memctl.queue, s.memctl.waitExposure, h⟩

theorem accountFrame_showingFrame (z : ZoneIx) (h : Showing) (p : Spot) (s : State) : ShowingFrame s (accountFrame z h p s) := by
  unfold accountFrame
  dsimp only
  split
  · exact ((RotationFrame.showingFrame ⟨_, rfl⟩).trans (raiseIf_showingFrame ..)).trans (raiseIf_showingFrame ..)
  · exact RotationFrame.showingFrame ⟨_, rfl⟩

theorem accountZone_showingFrame (z : ZoneIx) (s : State) : ShowingFrame s (accountZone z s).1 := by
  unfold accountZone
  split
  · exact .refl s
  · split
    · exact .refl s
    · exact (accountFrame_showingFrame ..).trans (endIf_showingFrame ..)

/-- The part of the ending stage that precedes the mode: the plan change, and the emptying of a zone's list and sting (R122). -/
def planStage (z : ZoneIx) (s : State) : State :=
  let zr := s.composer.record.zones[z]
  let s1 := if planEnds zr then endShowing z .planChange s else s
  if !zr.desc.isOn .sponsor || zr.resized then { s1 with rotation := s1.rotation.mapZone z SponsorZone.emptied } else s1

/-- The end of every showing under a mode that is not NORMAL (R122). -/
def modeStage (z : ZoneIx) (s : State) : State :=
  let s3 := endShowing z .outputMode s
  { s3 with rotation := s3.rotation.mapZone z SponsorZone.unpended }

/-- The ending stage by its parts. -/
theorem endingStage_eq (z : ZoneIx) (s : State) :
    endingStage z s =
      if s.composer.record.mode != .normal then (modeStage z (planStage z s), none)
      else if planEnds s.composer.record.zones[z] then (planStage z s, none)
      else accountZone z (planStage z s) := rfl

theorem planStage_showingFrame (z : ZoneIx) (s : State) : ShowingFrame s (planStage z s) := by
  have hplan : ShowingFrame s (if planEnds s.composer.record.zones[z] then endShowing z .planChange s else s) := by
    split
    · exact endShowing_showingFrame ..
    · exact .refl s
  unfold planStage
  dsimp only
  split
  · exact hplan.trans (RotationFrame.showingFrame ⟨_, rfl⟩)
  · exact hplan

theorem modeStage_showingFrame (z : ZoneIx) (s : State) : ShowingFrame s (modeStage z s) :=
  (endShowing_showingFrame ..).trans (RotationFrame.showingFrame ⟨_, rfl⟩)

theorem endingStage_showingFrame (z : ZoneIx) (s : State) : ShowingFrame s (endingStage z s).1 := by
  have hplan := planStage_showingFrame z s
  rw [endingStage_eq]
  split
  · exact hplan.trans (modeStage_showingFrame ..)
  · split
    · exact hplan
    · exact hplan.trans (accountZone_showingFrame ..)

theorem endingStages_showingFrame : ∀ (l : List ZoneIx) (s : State), ShowingFrame s (endingStages l s).1
  | [], s => .refl s
  | z :: rest, s => (endingStage_showingFrame z s).trans (endingStages_showingFrame rest _)

theorem beginShowing_rotationFrame (z : ZoneIx) (id : Nat) (sting overrun : Bool) (s : State) :
    RotationFrame s (beginShowing z id sting overrun s) := ⟨_, rfl⟩

theorem RotationFrame.refl (s : State) : RotationFrame s s := ⟨_, rfl⟩

theorem RotationFrame.trans {s t u : State} (h : RotationFrame s t) (h' : RotationFrame t u) : RotationFrame s u := by
  obtain ⟨_, rfl⟩ := h
  obtain ⟨_, rfl⟩ := h'
  exact ⟨_, rfl⟩

theorem passes_rotationFrame (z : ZoneIx) (s : State) : RotationFrame s (passes z s) := by
  unfold passes
  dsimp only
  split
  · exact ⟨_, rfl⟩
  · split
    · exact ⟨_, rfl⟩
    · exact .refl s

theorem answerSting_rotationFrame (z : ZoneIx) (s : State) : RotationFrame s (answerSting z s) := by
  unfold answerSting
  dsimp only
  split
  · split
    · exact RotationFrame.trans ⟨_, rfl⟩ (passes_rotationFrame z _)
    · exact ⟨_, rfl⟩
  · exact RotationFrame.trans ⟨_, rfl⟩ (passes_rotationFrame z _)

theorem selectionStage_rotationFrame (z : ZoneIx) (s : State) : RotationFrame s (selectionStage z s) := by
  unfold selectionStage
  split
  · split
    · exact answerSting_rotationFrame z s
    · exact passes_rotationFrame z s
  · exact .refl s

theorem selectionStages_rotationFrame : ∀ (l : List ZoneIx) (s : State), RotationFrame s (selectionStages l s)
  | [], s => .refl s
  | z :: rest, s => (selectionStage_rotationFrame z s).trans (selectionStages_rotationFrame rest _)

theorem rotationFrameWork_fst (s : State) :
    (rotationFrameWork s).1 = selectionStages allZones (endingStages allZones s).1 := by
  simp only [rotationFrameWork]

theorem rotationFrameWork_showingFrame (s : State) : ShowingFrame s (rotationFrameWork s).1 := by
  have hselect := selectionStages_rotationFrame allZones (endingStages allZones s).1
  rw [rotationFrameWork_fst]
  exact (endingStages_showingFrame allZones s).trans hselect.showingFrame

theorem endAllShowings_showingFrame : ∀ (l : List ZoneIx) (s : State), ShowingFrame s (endAllShowings l s)
  | [], s => .refl s
  | z :: rest, s => (endShowing_showingFrame z .restart s).trans (endAllShowings_showingFrame rest _)

theorem restartRotation_showingFrame (s : State) : ShowingFrame s (restartRotation s) :=
  (endAllShowings_showingFrame allZones s).trans (RotationFrame.showingFrame ⟨_, rfl⟩)

/-- The state a RESTART makes, from the state in which the showings have ended. -/
theorem ruleRestart_fst (s : State) :
    (ruleRestart s).1 =
      { restartRotation s with
        composer := (restartRotation s).composer.restarted
        roller := (restartRotation s).roller.restarted
        ticker := (restartRotation s).ticker.restarted
        command :=
          { (restartRotation s).command with causes := { (restartRotation s).command.causes with restart := true } } } := rfl

/-- RESTART always answers OK, with the state that `ruleRestart` makes. -/
theorem ruleRestart_outcome (s : State) : RuleOutcome (RestartFrame s) s (ruleRestart s) := by
  refine .inr ⟨rfl, ?_⟩
  obtain ⟨r, e, f, q, w, h⟩ := restartRotation_showingFrame s
  rw [ruleRestart_fst, h]
  exact ⟨_, _, _, r, e, f, _, q, w, rfl⟩

/-! ### The ticker -/

theorem noteRemoval_tickerFrame (e : TickerEntry) (reason : RemovalReason) (s : State) :
    TickerFrame s (noteRemoval e reason s) := ⟨_, _, rfl⟩

theorem noteRemovals_tickerFrame (reason : RemovalReason) : ∀ (l : List TickerEntry) (s : State),
    TickerFrame s (noteRemovals reason l s)
  | [], s => .refl s
  | e :: rest, s => (noteRemoval_tickerFrame e reason s).trans (noteRemovals_tickerFrame reason rest _)

theorem setTickerUnit_tickerFrame (k : TickerUnit) (s : State) : TickerFrame s { s with ticker := k } := ⟨_, s.command.flags, rfl⟩

theorem setShowing_tickerFrame (x : Option ShowingEntry) (s : State) : TickerFrame s (setShowing x s) := setTickerUnit_tickerFrame _ s

theorem removeShowing_tickerFrame (reason : RemovalReason) (s : State) : TickerFrame s (removeShowing reason s) := by
  unfold removeShowing
  split
  · exact (setShowing_tickerFrame none s).trans (noteRemoval_tickerFrame ..)
  · exact .refl s

theorem removeWaiting_tickerFrame (test : TickerEntry → Bool) (reason : RemovalReason) (s : State) :
    TickerFrame s (removeWaiting test reason s) :=
  (setTickerUnit_tickerFrame _ s).trans (noteRemovals_tickerFrame ..)

theorem tickerCancels_tickerFrame (s : State) : TickerFrame s (tickerCancels s) := by
  unfold tickerCancels
  split
  · split
    · exact removeShowing_tickerFrame _ s
    · exact .refl s
  · exact .refl s

theorem expireShowing_tickerFrame (s : State) : TickerFrame s (expireShowing s) := by
  unfold expireShowing
  split
  · dsimp only
    split
    · exact (setShowing_tickerFrame _ s).trans (removeShowing_tickerFrame ..)
    · exact setShowing_tickerFrame _ s
  · exact .refl s

theorem tickerExpiry_tickerFrame (s : State) : TickerFrame s (tickerExpiry s) :=
  (removeWaiting_tickerFrame ..).trans (expireShowing_tickerFrame _)

theorem returnShowing_tickerFrame (x : ShowingEntry) (s : State) : TickerFrame s (returnShowing x s) := setTickerUnit_tickerFrame _ s

theorem passEnd_tickerFrame (x : ShowingEntry) (w : Nat) (s : State) : TickerFrame s (passEnd x w s) := by
  unfold passEnd
  dsimp only
  split
  · exact (setShowing_tickerFrame _ s).trans (removeShowing_tickerFrame ..)
  · split
    · exact (setShowing_tickerFrame _ s).trans (removeShowing_tickerFrame ..)
    · split
      · exact (setShowing_tickerFrame _ s).trans (returnShowing_tickerFrame ..)
      · exact (setShowing_tickerFrame _ s).trans (setShowing_tickerFrame ..)

theorem tickerAdvance_tickerFrame (s : State) : TickerFrame s (tickerAdvance s).1 := by
  unfold tickerAdvance
  split
  · split
    · dsimp only
      split
      · exact (setShowing_tickerFrame _ s).trans (passEnd_tickerFrame ..)
      · exact setShowing_tickerFrame _ s
    · exact .refl s
  · exact .refl s

theorem tickerCuts_tickerFrame (s : State) : TickerFrame s (tickerCuts s) := by
  unfold tickerCuts
  split
  · split
    · exact returnShowing_tickerFrame ..
    · exact .refl s
  · exact .refl s

theorem tickerTaking_tickerFrame (s : State) : TickerFrame s (tickerTaking s) := by
  unfold tickerTaking
  split
  · split
    · exact setTickerUnit_tickerFrame _ s
    · exact .refl s
  · exact .refl s

theorem tickerFrameWork_tickerFrame (s : State) : TickerFrame s (tickerFrameWork s).1 :=
  ((((tickerCancels_tickerFrame s).trans (tickerExpiry_tickerFrame _)).trans (tickerAdvance_tickerFrame _)).trans
    (tickerCuts_tickerFrame _)).trans (tickerTaking_tickerFrame _)

theorem rulePostMessage_outcome (p : MessagePayload) (s : State) : RuleOutcome (TickerFrame s) s (rulePostMessage p s) := by
  unfold rulePostMessage
  split
  · exact .refuse _
  · split
    · exact .refuse _
    · split
      · exact .refuse _
      · split
        · exact .unchanged _
        · split
          · exact .unchanged _
          · exact .taken rfl (setTickerUnit_tickerFrame _ s)

theorem ruleCancelMessage_outcome (tag : Half) (s : State) : RuleOutcome (TickerFrame s) s (ruleCancelMessage tag s) := by
  unfold ruleCancelMessage
  split
  · exact .refuse _
  · split
    · exact .taken rfl (removeWaiting_tickerFrame ..)
    · split
      · split
        · exact .taken rfl (setShowing_tickerFrame ..)
        · exact .refuse _
      · exact .refuse _

theorem ruleClearMessages_outcome (s : State) : RuleOutcome (TickerFrame s) s (ruleClearMessages s) :=
  .taken rfl ((removeWaiting_tickerFrame ..).trans (setShowing_tickerFrame ..))

theorem ruleSetTicker_outcome (speed : Byte) (gap : Half) (s : State) : RuleOutcome (TickerFrame s) s (ruleSetTicker speed gap s) :=
  .checked (.taken rfl (setTickerUnit_tickerFrame _ s))

/-! ### The command unit's own commands -/

theorem ruleAckFlags_outcome (mask : Word) (s : State) : RuleOutcome (CommandFrame s) s (ruleAckFlags mask s) :=
  .taken rfl ⟨_, _, _, rfl⟩

theorem ruleSetAttnMask_outcome (mask : Word) (s : State) : RuleOutcome (CommandFrame s) s (ruleSetAttnMask mask s) :=
  .taken rfl ⟨_, _, _, rfl⟩

theorem ruleAckCauses_outcome (s : State) : RuleOutcome (CommandFrame s) s (ruleAckCauses s) := .taken rfl ⟨_, _, _, rfl⟩

end Sys2Proof.Machine
end

section
/-! PROOFS. The owner of each host command, the frame of each event, and the induction over steps that every invariant goes through. -/

namespace Sys2Proof.Machine

/-! ### The owner of a host command (R179 step 3) -/

/-- The block whose rule takes a host command; the command unit's own is the block of every event too, which no rule takes. -/
inductive CommandOwner where
  | commandUnit
  | wholePart
  | composer
  | intake
  | roller
  | clockUnit
  | console
  | scoreUnit
  | rotationUnit
  | tickerUnit
  deriving DecidableEq

/-- The owner of a host command, by its kind's group in Table 11.2. -/
def commandOwner : Instr → CommandOwner
  | .restart _ => .wholePart
  | .setScreen _ _ _ => .composer
  | .stageZone _ _ _ => .composer
  | .applyPlan _ => .composer
  | .cancelStage _ => .composer
  | .setOutputMode _ _ => .composer
  | .setHouseSlate _ _ _ => .composer
  | .setFont _ _ _ => .composer
  | .setRing _ _ _ _ _ _ => .intake
  | .holdFrames _ _ _ => .intake
  | .releaseFrames _ _ _ => .intake
  | .discardFrames _ _ _ => .intake
  | .roll _ _ => .roller
  | .setSpeed _ _ _ => .roller
  | .stopReplay _ => .roller
  | .setGameClock _ _ _ _ _ => .clockUnit
  | .startClock _ => .clockUnit
  | .stopClock _ => .clockUnit
  | .adjustClock _ _ => .clockUnit
  | .setMark _ _ _ _ _ => .clockUnit
  | .setShotClock _ _ _ _ _ => .clockUnit
  | .shotReset _ => .clockUnit
  | .shotStart _ => .clockUnit
  | .shotStop _ => .clockUnit
  | .shotBlank _ => .clockUnit
  | .setHorn _ _ _ _ => .clockUnit
  | .soundHorn _ _ => .clockUnit
  | .setLine _ _ _ _ _ _ => .console
  | .setCapture _ _ _ _ _ => .console
  | .setScore _ _ _ => .scoreUnit
  | .addScore _ _ _ => .scoreUnit
  | .setFlash _ _ => .scoreUnit
  | .defineSpot _ _ => .rotationUnit
  | .withdrawSpot _ _ => .rotationUnit
  | .setRotation _ _ _ _ => .rotationUnit
  | .setSting _ _ _ => .rotationUnit
  | .setContract _ _ _ => .rotationUnit
  | .resetTotals _ _ => .rotationUnit
  | .postMessage _ _ => .tickerUnit
  | .cancelMessage _ _ => .tickerUnit
  | .clearMessages _ => .tickerUnit
  | .setTicker _ _ _ => .tickerUnit
  | _ => .commandUnit

/-- The states that a rule of an owner can make. -/
def OwnerFrame : CommandOwner → State → State → Prop
  | .commandUnit => CommandFrame
  | .wholePart => RestartFrame
  | .composer => ComposerFrame
  | .intake => IntakeFrame
  | .roller => RollerFrame
  | .clockUnit => ClockFrame
  | .console => ConsoleFrame
  | .scoreUnit => ScoreFrame
  | .rotationUnit => RotationFrame
  | .tickerUnit => TickerFrame

/-- The rule of each host command refuses without a change or changes what its owner may change. -/
theorem commandRule_elim_outcome (i : Instr) (s : State) :
    (commandRule i).elim True fun rule => RuleOutcome (OwnerFrame (commandOwner i) s) s (rule s) := by
  cases i
  case nop => exact .unchanged _
  case ackFlags => exact ruleAckFlags_outcome ..
  case setAttnMask => exact ruleSetAttnMask_outcome ..
  case ackCauses => exact ruleAckCauses_outcome ..
  case restart => exact ruleRestart_outcome ..
  case setScreen => exact ruleSetScreen_outcome ..
  case stageZone => exact ruleStageZone_outcome ..
  case applyPlan => exact ruleApplyPlan_outcome ..
  case cancelStage => exact ruleCancelStage_outcome ..
  case setOutputMode => exact ruleSetOutputMode_outcome ..
  case setHouseSlate => exact ruleSetHouseSlate_outcome ..
  case setFont => exact ruleSetFont_outcome ..
  case setRing => exact ruleSetRing_outcome ..
  case holdFrames => exact ruleHoldFrames_outcome ..
  case releaseFrames => exact ruleReleaseFrames_outcome ..
  case discardFrames => exact ruleDiscardFrames_outcome ..
  case roll => exact ruleRoll_outcome ..
  case setSpeed => exact ruleSetSpeed_outcome ..
  case stopReplay => exact ruleStopReplay_outcome ..
  case setGameClock => exact ruleSetGameClock_outcome ..
  case startClock => exact startClock_outcome ..
  case stopClock => exact stopClock_outcome ..
  case adjustClock => exact ruleAdjustClock_outcome ..
  case setMark => exact ruleSetMark_outcome ..
  case setShotClock => exact ruleSetShotClock_outcome ..
  case shotReset => exact shotReset_outcome ..
  case shotStart => exact shotStart_outcome ..
  case shotStop => exact shotStop_outcome ..
  case shotBlank => exact shotBlank_outcome ..
  case setHorn => exact ruleSetHorn_outcome ..
  case soundHorn => exact ruleSoundHorn_outcome ..
  case setLine => exact ruleSetLine_outcome ..
  case setCapture => exact ruleSetCapture_outcome ..
  case setScore => exact ruleSetScore_outcome ..
  case addScore => exact ruleAddScore_outcome ..
  case setFlash => exact ruleSetFlash_outcome ..
  case defineSpot => exact ruleDefineSpot_outcome ..
  case withdrawSpot => exact ruleWithdrawSpot_outcome ..
  case setRotation => exact ruleSetRotation_outcome ..
  case setSting => exact ruleSetSting_outcome ..
  case setContract => exact ruleSetContract_outcome ..
  case resetTotals => exact ruleResetTotals_outcome ..
  case postMessage => exact rulePostMessage_outcome ..
  case cancelMessage => exact ruleCancelMessage_outcome ..
  case clearMessages => exact ruleClearMessages_outcome ..
  case setTicker => exact ruleSetTicker_outcome ..
  all_goals exact trivial

/-- Every rule refuses without a change or changes what its owner may change. -/
theorem commandRule_outcome {i : Instr} {rule : CommandRule} (h : commandRule i = some rule) (s : State) :
    RuleOutcome (OwnerFrame (commandOwner i) s) s (rule s) := by
  simpa only [h, Option.elim_some] using commandRule_elim_outcome i s

/-- A command has a rule exactly if it has a slot. -/
theorem commandRule_isSome (i : Instr) : (commandRule i).isSome = (commandSlot i).isSome := by cases i <;> rfl

/-- The row of a host command is the taking of its slot by its rule; an event has neither. -/
theorem exec_eq_elim (i : Instr) (s : State) :
    exec i s = (commandSlot i).elim (exec i s) fun slot => (commandRule i).elim (exec i s) fun rule => hostCommand slot rule s := by
  cases i <;> rfl

theorem exec_eq_hostCommand {i : Instr} {slot : RingSlot} {rule : CommandRule} (hslot : commandSlot i = some slot)
    (hrule : commandRule i = some rule) (s : State) : exec i s = hostCommand slot rule s := by
  rw [exec_eq_elim, hslot, Option.elim_some, hrule, Option.elim_some]

/-! ### The delivery of a result -/

/-- The states that differ from a state in what the delivery of a result changes. -/
def DeliveryFrame (s t : State) : Prop :=
  ∃ n m f q w, t =
    { s with
      command := { s.command with taken := n, refused := m, flags := f }
      memctl := { s.memctl with queue := q, waitCommand := w } }

theorem offerCommand_frame (w : PartWrite) (behind : Nat) (m : MemoryController) :
    ∃ q x, m.offerCommand w behind = { m with queue := q, waitCommand := x } := by
  obtain ⟨-, -, -, h⟩ | h := offerCommand_cases w behind m
  · exact ⟨_, m.waitCommand, h⟩
  · exact ⟨m.queue, _, h⟩

theorem CommandUnit.count_cases (c : ResultCode) (u : CommandUnit) :
    (c.counted = true ∧ u.count c = { u with taken := u.taken + 1 }) ∨
    (c.counted = false ∧ u.count c = { u with refused := u.refused + 1, flags := u.flags ||| Flag.cmdRefused.bit }) := by
  unfold CommandUnit.count
  split
  · next h => exact .inl ⟨h, rfl⟩
  · next h => exact .inr ⟨Bool.eq_false_iff.mpr h, rfl⟩

theorem finishCommand_deliveryFrame (slot : RingSlot) (r : Result) (s : State) : DeliveryFrame s (finishCommand slot r s) := by
  obtain ⟨q, x, hm⟩ := offerCommand_frame (resultWrite slot r) (if r.afterRecords then s.memctl.waitExposure.length else 0) s.memctl
  unfold finishCommand
  rw [hm]
  obtain ⟨-, hc⟩ | ⟨-, hc⟩ := CommandUnit.count_cases r.code s.command
  · rw [hc]
    exact ⟨_, s.command.refused, s.command.flags, q, x, rfl⟩
  · rw [hc]
    exact ⟨s.command.taken, _, _, q, x, rfl⟩

/-! ### The tick -/

theorem makeRequest_clockFrame (q : LineRequest) (s : State) : ClockFrame s (makeRequest q s) := by
  have h : ClockFrame s (decideRequest q s).1 := (decideRequest_outcome q s).elim (.refl s) fun _ ht => ht
  unfold makeRequest
  dsimp only
  split
  · exact h
  · exact h.trans ⟨_, _, _, _, rfl⟩

theorem edgeActs_clockFrame (n : Fin 8) (raw : Bool) (s : State) : ClockFrame s (edgeActs n raw s) := by
  have h := (fireCapture_captureFrame (.line n raw) s).clockFrame
  unfold edgeActs
  dsimp only
  split
  · exact h.trans (makeRequest_clockFrame _ _)
  · exact h

theorem setLineState_clockFrame (n : Fin 8) (l : ConsoleLine) (s : State) : ClockFrame s (setLineState n l s) :=
  ⟨_, _, _, s.command.flags, rfl⟩

theorem sampleLine_clockFrame (lines : Byte) (n : Fin 8) (s : State) : ClockFrame s (sampleLine lines n s) := by
  unfold sampleLine
  dsimp only
  split
  · exact (setLineState_clockFrame ..).trans (edgeActs_clockFrame ..)
  · exact setLineState_clockFrame ..

theorem tickPart_clockFrame (lines : Byte) (p : TickPart) (r : State × TickEvents) : ClockFrame r.1 (tickPart lines p r).1 := by
  cases p with
  | clockWork => exact (withClock_clockFrame _ r.1).trans (handOn_captureFrame ..).clockFrame
  | line n =>
    unfold tickPart
    dsimp only
    split
    · exact sampleLine_clockFrame ..
    · exact .refl _

theorem tickRun_clockFrame (lines : Byte) : ∀ (l : List TickPart) (r : State × TickEvents),
    ClockFrame r.1 (tickRun lines l r).1
  | [], r => .refl r.1
  | p :: rest, r => (tickPart_clockFrame lines p r).trans (tickRun_clockFrame lines rest _)

theorem millisecondTick_clockFrame (t : TickInput) (s : State) : ClockFrame s (millisecondTick t s).1 := by
  have h := tickRun_clockFrame t.lines (completeOrder t.order) (s, { clock := ClockEvents.none, edges := [] })
  unfold millisecondTick
  dsimp only at h ⊢
  split
  · exact h
  · exact h.trans ⟨_, _, _, (tickRun t.lines (completeOrder t.order) (s, { clock := ClockEvents.none, edges := [] })).1.command.flags, rfl⟩

/-! ### The intake and the roller at their events -/

theorem retryNow_intakeFrame (s : State) : IntakeFrame s (retryNow s) := by
  unfold retryNow
  split
  · exact ⟨_, rfl⟩
  · exact ⟨_, rfl⟩

theorem IntakeFrame.refl (s : State) : IntakeFrame s s := ⟨_, rfl⟩

theorem retryIntake_intakeFrame (s : State) : IntakeFrame s (retryIntake s) := by
  unfold retryIntake
  split
  · split
    · exact ⟨_, rfl⟩
    · exact retryNow_intakeFrame s
  · exact .refl s

theorem retryHeldOver_intakeFrame (s : State) : IntakeFrame s (retryHeldOver s) := by
  unfold retryHeldOver
  split
  · exact retryNow_intakeFrame s
  · exact .refl s

theorem IntakeFrame.flagFrame {s t : State} (h : IntakeFrame s t) : IntakeFlagFrame s t := by
  obtain ⟨_, rfl⟩ := h
  exact ⟨_, s.command.flags, rfl⟩

theorem examineTrailer_intakeFlagFrame (s : State) : IntakeFlagFrame s (examineTrailer s) := by
  unfold examineTrailer
  split
  · split
    · exact ⟨s.intake, _, rfl⟩
    · split
      · exact ⟨_, _, rfl⟩
      · exact IntakeFrame.flagFrame ⟨_, rfl⟩
  · exact .refl s

theorem countedStep_rollerFrame (s : State) : RollerFrame s (countedStep s) := by
  unfold countedStep
  dsimp only
  split
  · exact ⟨_, _, rfl⟩
  · split
    · exact ⟨_, s.command.flags, rfl⟩
    · split
      · exact ⟨_, s.command.flags, rfl⟩
      · split
        · obtain ⟨g, h⟩ := State.raiseIf_frame (s.roller.state == .rolling) .replayStarved { s with roller := s.roller.stepStarved }
          exact ⟨_, g, h⟩
        · exact ⟨_, _, rfl⟩

theorem rollerFrameWork_rollerFrame (s : State) : RollerFrame s (rollerFrameWork s) := by
  unfold rollerFrameWork
  split
  · split
    · exact .refl s
    · exact ⟨_, _, rfl⟩
  · split
    · exact countedStep_rollerFrame s
    · exact .refl s

/-- The states that differ from a state in the roller, the intake and the flags alone. -/
def ReplayFrame (s t : State) : Prop := ∃ r n f, t = { s with roller := r, intake := n, command := { s.command with flags := f } }

theorem ReplayFrame.trans {s t u : State} (h : ReplayFrame s t) (h' : ReplayFrame t u) : ReplayFrame s u := by
  obtain ⟨_, _, _, rfl⟩ := h
  obtain ⟨_, _, _, rfl⟩ := h'
  exact ⟨_, _, _, rfl⟩

theorem RollerFrame.replayFrame {s t : State} (h : RollerFrame s t) : ReplayFrame s t := by
  obtain ⟨_, _, rfl⟩ := h
  exact ⟨_, _, _, rfl⟩

theorem IntakeFrame.replayFrame {s t : State} (h : IntakeFrame s t) : ReplayFrame s t := by
  obtain ⟨_, rfl⟩ := h
  exact ⟨_, _, s.command.flags, rfl⟩

theorem replayFrameWork_replayFrame (retryFirst : Bool) (s : State) : ReplayFrame s (replayFrameWork retryFirst s) := by
  unfold replayFrameWork
  split
  · exact (retryIntake_intakeFrame s).replayFrame.trans (rollerFrameWork_rollerFrame _).replayFrame
  · exact (rollerFrameWork_rollerFrame s).replayFrame.trans (retryIntake_intakeFrame _).replayFrame

/-! ### FRAME_END and FRAME_START -/

/-- The states that differ from a state in what the sources' frame work changes: intake, roller, rotation unit, log, ticker, flags, and
the records in the queue or waiting for it. -/
def SourcesFrame (s t : State) : Prop :=
  ∃ n o r e k f q w, t =
    { s with
      intake := n
      roller := o
      rotation := r
      exposure := e
      ticker := k
      command := { s.command with flags := f }
      memctl := { s.memctl with queue := q, waitExposure := w } }

/-- The frame work of every source at a FRAME_END, before the scan is closed. -/
def sourcesWork (retryFirst : Bool) (s : State) : State :=
  (tickerFrameWork (rotationFrameWork (replayFrameWork retryFirst s)).1).1

theorem frameEnd_fst (retryFirst : Bool) (s : State) : (frameEnd retryFirst s).1 = closeScan (sourcesWork retryFirst s) := by
  simp only [frameEnd, sourcesWork]

theorem sourcesWork_sourcesFrame (retryFirst : Bool) (s : State) : SourcesFrame s (sourcesWork retryFirst s) := by
  unfold sourcesWork
  have hreplay := replayFrameWork_replayFrame retryFirst s
  generalize replayFrameWork retryFirst s = s1 at hreplay ⊢
  have hrotation := rotationFrameWork_showingFrame s1
  generalize (rotationFrameWork s1).1 = s2 at hrotation ⊢
  have hticker := tickerFrameWork_tickerFrame s2
  generalize (tickerFrameWork s2).1 = s3 at hticker ⊢
  obtain ⟨o, n, f, rfl⟩ := hreplay
  obtain ⟨r, e, f, q, w, rfl⟩ := hrotation
  obtain ⟨k, f, rfl⟩ := hticker
  exact ⟨n, o, r, e, k, f, q, w, rfl⟩

/-- What a FRAME_END changes at all. -/
theorem frameEnd_frame (retryFirst : Bool) (s : State) :
    ∃ n o r e k f q w, (frameEnd retryFirst s).1 =
      { s with
        intake := n
        roller := o
        rotation := r
        exposure := e
        ticker := k
        command := { s.command with flags := f }
        memctl := { s.memctl with queue := q, waitExposure := w }
        score := s.score.flashFall
        timing := { s.timing with blanking := true }
        panel := PanelScan.reset } := by
  obtain ⟨n, o, r, e, k, f, q, w, h⟩ := sourcesWork_sourcesFrame retryFirst s
  rw [frameEnd_fst, h]
  exact ⟨n, o, r, e, k, f, q, w, rfl⟩

/-- What the composer's work at a FRAME_START changes at all. -/
theorem composeFrame_frame (s : State) :
    ∃ f, composeFrame s =
      { s with
        timing := { frameNumber := s.timing.frameNumber + 1, blanking := false }
        composer := composerNext s (buildRecord s)
        intake := (s.intake.pinAll (recordSlots (buildRecord s))).releaseAll s.composer.pins
        command := { s.command with flags := f } } := by
  unfold composeFrame
  dsimp only
  generalize buildRecord s = r
  obtain ⟨f, h⟩ := State.raiseIf_frame s.composer.applyRequest .planApplied
    { s with
      timing := { frameNumber := s.timing.frameNumber + 1, blanking := false }
      composer := composerNext s r
      intake := (s.intake.pinAll (recordSlots r)).releaseAll s.composer.pins }
  rw [h]
  obtain ⟨g, h'⟩ := State.raiseIf_frame (s.composer.requestedMode != s.composer.record.mode) .modeChanged
    { s with
      timing := { frameNumber := s.timing.frameNumber + 1, blanking := false }
      composer := composerNext s r
      intake := (s.intake.pinAll (recordSlots r)).releaseAll s.composer.pins
      command := { s.command with flags := f } }
  rw [h']
  exact ⟨g, rfl⟩

theorem offerAll_frame : ∀ (l : List PartWrite) (m : MemoryController),
    ∃ q x, offerAll l m = { m with queue := q, waitCommand := x }
  | [], m => ⟨m.queue, m.waitCommand, rfl⟩
  | w :: rest, m => by
    obtain ⟨q, x, h⟩ := offerCommand_frame w 0 m
    obtain ⟨q', x', h'⟩ := offerAll_frame rest (m.offerCommand w 0)
    rw [offerAll, h', h]
    exact ⟨q', x', rfl⟩

theorem statusWriteBack_frame (s : State) :
    ∃ b q x, statusWriteBack s =
      { s with
        command := { s.command with statusInFlight := b }
        memctl := { s.memctl with queue := q, waitCommand := x } } := by
  unfold statusWriteBack
  split
  · exact ⟨s.command.statusInFlight, s.memctl.queue, s.memctl.waitCommand, rfl⟩
  · obtain ⟨q, x, h⟩ := offerAll_frame (statusEntries s) s.memctl
    rw [h]
    exact ⟨true, q, x, rfl⟩

/-- What a FRAME_START changes at all. -/
theorem frameStart_frame (s : State) :
    ∃ f b q x p, frameStart s =
      { s with
        timing := { frameNumber := s.timing.frameNumber + 1, blanking := false }
        composer := composerNext s (buildRecord s)
        intake := (s.intake.pinAll (recordSlots (buildRecord s))).releaseAll s.composer.pins
        panel := p
        command := { s.command with flags := f, statusInFlight := b }
        memctl := { s.memctl with queue := q, waitCommand := x } } := by
  obtain ⟨f, h⟩ := composeFrame_frame s
  obtain ⟨b, q, x, h'⟩ := statusWriteBack_frame (beginScan (composeFrame s))
  rw [frameStart, h', h]
  exact ⟨f, b, q, x, _, rfl⟩

/-! ### The port and the memory controller -/

/-- The states that differ from a state in the port alone. -/
def PortFrame (s t : State) : Prop := ∃ p, t = { s with port := p }

theorem present_portFrame (q : HostRequest) (s : State) : PortFrame s (present q s) := by
  unfold present
  split
  · split
    · exact ⟨_, rfl⟩
    · exact ⟨_, rfl⟩
  · split
    · exact ⟨_, rfl⟩
    · exact ⟨_, rfl⟩

theorem shadowBeat_frame (o : Nat) (d : Beat) (k : Byte) : ∀ (js : List Nat) (s : State),
    ∃ m, shadowBeat o d k js s = { s with command := { s.command with shadow := m } }
  | [], s => ⟨s.command.shadow, rfl⟩
  | j :: rest, s => by
    unfold shadowBeat
    split
    · obtain ⟨m, h⟩ := shadowBeat_frame o d k rest (s.putShadow (o + j) (beatByte d j))
      exact ⟨m, h⟩
    · exact shadowBeat_frame o d k rest s

/-- What a write beat's own row changes at all, but for the transaction. -/
theorem rowEffect_frame (row : BeatRow) (a : Nat) (d : Beat) (k : Byte) (t : HostTransaction) (s : State) :
    ∃ m f v, (rowEffect row a d k t s).1 =
      { s with command := { s.command with shadow := m, flags := f }, intake := { s.intake with trailer := v } } := by
  cases row with
  | ring o =>
    obtain ⟨m, h⟩ := shadowBeat_frame o d k beatPositions s
    exact ⟨m, s.command.flags, s.intake.trailer, h⟩
  | steeredTo slot o =>
    unfold rowEffect remapBeat
    dsimp only
    split
    · exact ⟨s.command.shadow, s.command.flags, _, rfl⟩
    · exact ⟨s.command.shadow, s.command.flags, s.intake.trailer, rfl⟩
  | status => exact ⟨s.command.shadow, _, s.intake.trailer, rfl⟩
  | readWord => exact ⟨s.command.shadow, s.command.flags, s.intake.trailer, rfl⟩
  | log => exact ⟨s.command.shadow, _, s.intake.trailer, rfl⟩
  | control => exact ⟨s.command.shadow, s.command.flags, s.intake.trailer, rfl⟩
  | blocked => exact ⟨s.command.shadow, _, s.intake.trailer, rfl⟩
  | pinned => exact ⟨s.command.shadow, _, s.intake.trailer, rfl⟩
  | onAirArt => exact ⟨s.command.shadow, _, s.intake.trailer, rfl⟩
  | ordinary => exact ⟨s.command.shadow, s.command.flags, s.intake.trailer, rfl⟩

theorem writeBeat_frame (d : Beat) (k : Byte) (t : HostTransaction) (s : State) :
    ∃ m f v p, writeBeat d k t s =
      { s with
        command := { s.command with shadow := m, flags := f }
        intake := { s.intake with trailer := v }
        port := p } := by
  unfold writeBeat
  dsimp only
  split
  · exact ⟨s.command.shadow, s.command.flags, s.intake.trailer, _, rfl⟩
  · obtain ⟨m, f, v, h⟩ := rowEffect_frame (classify s (s.beatAddr t.request t.beats)) (s.beatAddr t.request t.beats) d k t s
    rw [h]
    exact ⟨m, f, v, _, rfl⟩

/-- The states that differ from a state in the log counters and the flags alone. -/
def LogFrame (s t : State) : Prop := ∃ e f, t = { s with exposure := e, command := { s.command with flags := f } }

theorem watchedWrite_logFrame (v : Word) (s : State) : LogFrame s (watchedWrite v s) := by
  unfold watchedWrite
  split
  · exact ⟨_, s.command.flags, rfl⟩
  · exact ⟨s.exposure, _, rfl⟩

theorem join_frame (first : WriterBlock) (m : MemoryController) :
    ∃ q x y, m.join first = { m with queue := q, waitCommand := x, waitExposure := y } := by
  obtain h | ⟨-, _, _, -, h⟩ | ⟨-, _, _, -, -, h⟩ := join_cases first m
  · exact ⟨m.queue, m.waitCommand, m.waitExposure, h⟩
  · exact ⟨_, _, _, h⟩
  · exact ⟨_, _, m.waitExposure, h⟩

/-- The states that differ from a state in what the end of an access and the next grant change: memory controller, port, line buffer,
memory, and the flags and the write-back mark of the command unit. -/
def AccessFrame (s t : State) : Prop :=
  ∃ m p l b f a, t =
    { s with
      memctl := m
      port := p
      panel := l
      mem := b
      command := { s.command with flags := f, statusInFlight := a } }

theorem AccessFrame.refl (s : State) : AccessFrame s s := ⟨_, _, _, _, _, _, rfl⟩

theorem AccessFrame.trans {s t u : State} (h : AccessFrame s t) (h' : AccessFrame t u) : AccessFrame s u := by
  obtain ⟨_, _, _, _, _, _, rfl⟩ := h
  obtain ⟨_, _, _, _, _, _, rfl⟩ := h'
  exact ⟨_, _, _, _, _, _, rfl⟩

theorem clearAccess_accessFrame (s : State) : AccessFrame s (clearAccess s) := ⟨_, _, _, _, s.command.flags, s.command.statusInFlight, rfl⟩

theorem landWrite_frame (w : PartWrite) (s : State) :
    ∃ b a, landWrite w s = { s with mem := b, command := { s.command with statusInFlight := a } } := by
  unfold landWrite
  dsimp only
  rw [State.putBytes_frame]
  split
  · exact ⟨_, _, rfl⟩
  · exact ⟨_, s.command.statusInFlight, rfl⟩

theorem landWrite_accessFrame (w : PartWrite) (s : State) : AccessFrame s (landWrite w s) := by
  obtain ⟨b, a, h⟩ := landWrite_frame w s
  rw [h]
  exact ⟨s.memctl, s.port, s.panel, b, s.command.flags, a, rfl⟩

theorem fetchDone_accessFrame (p a : Nat) (s : State) : AccessFrame s (fetchDone p a s) := by
  unfold fetchDone
  split
  · exact .refl s
  · exact ⟨_, _, _, _, s.command.flags, s.command.statusInFlight, rfl⟩

theorem servePlayout_portFrame (s : State) : PortFrame s (servePlayout s) := by
  unfold servePlayout
  split
  · split
    · exact ⟨_, rfl⟩
    · exact ⟨_, rfl⟩
  · exact ⟨_, rfl⟩

theorem PortFrame.accessFrame {s t : State} (h : PortFrame s t) : AccessFrame s t := by
  obtain ⟨_, rfl⟩ := h
  exact ⟨_, _, _, _, s.command.flags, s.command.statusInFlight, rfl⟩

theorem finishAccess_accessFrame (s : State) : AccessFrame s (finishAccess s) := by
  obtain ⟨-, h⟩ | ⟨-, h⟩ | ⟨_, _, -, h⟩ | ⟨_, -, h⟩ | ⟨-, h⟩ | ⟨-, h⟩ := finishAccess_cases s
  · rw [h]
    exact .refl s
  · rw [h]
    exact clearAccess_accessFrame s
  · rw [h]
    exact (fetchDone_accessFrame ..).trans (clearAccess_accessFrame _)
  · rw [h]
    exact (landWrite_accessFrame ..).trans (clearAccess_accessFrame _)
  · rw [h]
    exact (servePlayout_portFrame s).accessFrame.trans (clearAccess_accessFrame _)
  · rw [h]
    exact ⟨_, _, _, _, s.command.flags, s.command.statusInFlight, rfl⟩

theorem retestBeats_accessFrame (t : HostTransaction) (s : State) : AccessFrame s (retestBeats t s) := by
  obtain ⟨g, h⟩ := State.raiseIf_frame (t.forward.any (droppedAtGrant s)) .filteredWrite s
  unfold retestBeats
  rw [h]
  exact ⟨_, _, _, _, g, s.command.statusInFlight, rfl⟩

theorem putBeats_accessFrame (l : List ForwardBeat) (s : State) : AccessFrame s (putBeats l s) :=
  ⟨_, _, _, _, _, _, putBeats_frame l s⟩

theorem setMemctl_accessFrame (m : MemoryController) (s : State) : AccessFrame s { s with memctl := m } :=
  ⟨_, _, _, _, s.command.flags, s.command.statusInFlight, rfl⟩

theorem grantPlayout_accessFrame (s : State) : AccessFrame s (grantPlayout s) := by
  unfold grantPlayout
  split
  · dsimp only
    split
    · exact ((retestBeats_accessFrame ..).trans (putBeats_accessFrame ..)).trans (setMemctl_accessFrame ..)
    · exact (retestBeats_accessFrame ..).trans (setMemctl_accessFrame ..)
  · exact .refl s

theorem grantQueue_accessFrame (first : WriterBlock) (s : State) : AccessFrame s (grantQueue first s) := by
  unfold grantQueue
  split
  · exact setMemctl_accessFrame ..
  · exact .refl s

theorem beginGrant_accessFrame (first : WriterBlock) (g : Grant) (s : State) : AccessFrame s (beginGrant first g s) := by
  cases g with
  | refresh => exact setMemctl_accessFrame ..
  | scan p a => exact ⟨_, _, _, _, s.command.flags, s.command.statusInFlight, rfl⟩
  | queue => exact grantQueue_accessFrame first s
  | playout => exact grantPlayout_accessFrame s
  | startUp => exact setMemctl_accessFrame ..

theorem grantNext_accessFrame (i : ChoiceInput) (first : WriterBlock) (s : State) : AccessFrame s (grantNext i first s) := by
  obtain h | ⟨_, -, h⟩ := grantNext_cases i first s
  · rw [h]
    exact .refl s
  · rw [h]
    exact beginGrant_accessFrame ..

/-- What an ACCESS_END changes at all. -/
theorem accessEnd_accessFrame (i : ChoiceInput) (first : WriterBlock) (s : State) : AccessFrame s (accessEnd i first s) :=
  ((finishAccess_accessFrame s).trans ⟨_, _, _, _, (finishAccess s).command.flags, (finishAccess s).command.statusInFlight, rfl⟩).trans
    (grantNext_accessFrame i first (sendBlocks i.sent (finishAccess s)))

theorem settleAccess_frame (s : State) :
    ∃ c b a, settleAccess s =
      { s with memctl := { s.memctl with access := c }, mem := b, command := { s.command with statusInFlight := a } } := by
  unfold settleAccess
  split
  · exact ⟨s.memctl.access, s.mem, s.command.statusInFlight, rfl⟩
  · exact ⟨s.memctl.access, s.mem, s.command.statusInFlight, rfl⟩
  · exact ⟨none, s.mem, s.command.statusInFlight, rfl⟩
  · obtain ⟨b, a, h⟩ := landWrite_frame ‹PartWrite› s
    rw [h]
    exact ⟨none, b, a, rfl⟩
  · exact ⟨none, s.mem, s.command.statusInFlight, rfl⟩
  · exact ⟨none, s.mem, s.command.statusInFlight, rfl⟩

/-- What the end of the start-up changes at all. -/
theorem completeStartUp_frame (s : State) :
    ∃ p, completeStartUp s = { s with phase := .running, timing := { s.timing with blanking := true }, port := p } := by
  unfold completeStartUp
  dsimp only
  split
  · exact ⟨_, rfl⟩
  · exact ⟨_, rfl⟩

end Sys2Proof.Machine
end

section
/-! PROOFS. The induction over steps that every invariant goes through, and what holds of every command: it answers next, leaves the queue
of waiting commands alone, and delivers its result. -/

namespace Sys2Proof.Machine

/-! ### Every command answers -/

theorem exec_powerOn (s : State) :
    exec .powerOn s = .next
      { State.reset with pending := s.pending, powerOns := s.powerOns + 1, phase := .powerOnReset, straps := s.straps } := rfl

theorem hostCommand_answers (slot : RingSlot) (rule : CommandRule) (s : State) : ∃ t, hostCommand slot rule s = .next t := by
  unfold hostCommand
  split
  · exact ⟨_, rfl⟩
  · exact ⟨_, rfl⟩

/-- A meaning that makes one state while a condition holds, and otherwise leaves the state as it is. -/
theorem ite_next_cases {p : Prop} [Decidable p] {s s' t : State}
    (h : (if p then .next s' else .next s : Host.Outcome State Fault Refusal) = .next t) : (p ∧ t = s') ∨ (¬p ∧ t = s) := by
  split at h
  · next hp => exact .inl ⟨hp, (Host.Outcome.next.inj h).symm⟩
  · next hp => exact .inr ⟨hp, (Host.Outcome.next.inj h).symm⟩

theorem ite_next_answers {p : Prop} [Decidable p] (s s' : State) :
    ∃ t, (if p then .next s' else .next s : Host.Outcome State Fault Refusal) = .next t := by
  split
  · exact ⟨_, rfl⟩
  · exact ⟨_, rfl⟩

theorem execResetLineLow_cases {s t : State} (h : execResetLineLow s = .next t) :
    ((s.phase = .startUp ∨ s.phase = .running) ∧ t = resetLineLow s) ∨ t = s := by
  unfold execResetLineLow at h
  split at h <;> obtain rfl := Host.Outcome.next.inj h
  · exact .inr rfl
  · exact .inr rfl
  · next hp => exact .inl ⟨.inl hp, rfl⟩
  · next hp => exact .inl ⟨.inr hp, rfl⟩

theorem execResetRelease_cases {st : Straps} {s t : State} (h : execResetRelease st s = .next t) :
    (s.phase = .powerOnReset ∧ t = beginStartUp st s) ∨ (s.phase = .resetLow ∧ t = beginStartUp st (addResetLine s)) ∨ t = s := by
  unfold execResetRelease at h
  split at h <;> obtain rfl := Host.Outcome.next.inj h
  · next hp => exact .inl ⟨hp, rfl⟩
  · next hp => exact .inr (.inl ⟨hp, rfl⟩)
  · exact .inr (.inr rfl)
  · exact .inr (.inr rfl)

theorem execStartUpComplete_cases {s t : State} (h : execStartUpComplete s = .next t) :
    (s.phase = .startUp ∧ s.memctl.startUp = .done ∧ t = completeStartUp s) ∨ t = s := by
  unfold execStartUpComplete at h
  split at h
  · exact .inr (Host.Outcome.next.inj h).symm
  · exact .inr (Host.Outcome.next.inj h).symm
  · next hp =>
    obtain ⟨hd, ht⟩ | ⟨-, ht⟩ := ite_next_cases h
    · exact .inl ⟨hp, hd, ht⟩
    · exact .inr ht
  · exact .inr (Host.Outcome.next.inj h).symm

theorem execWriteBeat_cases {d : Beat} {k : Byte} {s t : State} (h : execWriteBeat d k s = .next t) :
    (∃ x, s.port.transaction = some x ∧ s.phase = .running ∧ x.expectsBeat = true ∧ t = writeBeat d k x s) ∨ t = s := by
  unfold execWriteBeat at h
  split at h
  · next x hx =>
    obtain ⟨⟨hp, he⟩, ht⟩ | ⟨-, ht⟩ := ite_next_cases h
    · exact .inl ⟨x, hx, hp, he, ht⟩
    · exact .inr ht
  · exact .inr (Host.Outcome.next.inj h).symm

theorem execHostWriteEnd_cases {lines : Byte} {r : Bool} {s t : State} (h : execHostWriteEnd lines r s = .next t) :
    (∃ x, s.port.transaction = some x ∧ s.phase = .running ∧ x.canEnd = true ∧ t = writeEnd lines r x s) ∨ t = s := by
  unfold execHostWriteEnd at h
  split at h
  · next x hx =>
    obtain ⟨⟨hp, he⟩, ht⟩ | ⟨-, ht⟩ := ite_next_cases h
    · exact .inl ⟨x, hx, hp, he, ht⟩
    · exact .inr ht
  · exact .inr (Host.Outcome.next.inj h).symm

theorem execUnknownKind_cases {slot : RingSlot} {kind tag : Half} {closing : Word} {s t : State}
    (h : execUnknownKind slot kind tag closing s = .next t) :
    (∃ code, s.phase = .running ∧ t = finishCommand slot (Result.plain code) s) ∨ t = s := by
  unfold execUnknownKind at h
  split at h
  · obtain ⟨hp, ht⟩ | ⟨-, ht⟩ := hostCommand_cases h
    · exact .inl ⟨_, hp, ht⟩
    · exact .inr ht
  · exact .inr (Host.Outcome.next.inj h).symm

/-- No meaning faults or refuses. -/
theorem exec_answers (c : Instr) (s : State) : ∃ t, exec c s = .next t := by
  cases c
  case powerOn => exact ⟨_, rfl⟩
  case resetLineLow =>
    change ∃ t, execResetLineLow s = .next t
    unfold execResetLineLow
    split <;> exact ⟨_, rfl⟩
  case resetRelease st =>
    change ∃ t, execResetRelease st s = .next t
    unfold execResetRelease
    split <;> exact ⟨_, rfl⟩
  case startUpComplete =>
    change ∃ t, execStartUpComplete s = .next t
    unfold execStartUpComplete
    split
    · exact ⟨_, rfl⟩
    · exact ⟨_, rfl⟩
    · exact ite_next_answers ..
    · exact ⟨_, rfl⟩
  case millisecondTick => exact ⟨_, rfl⟩
  case periodEnd => exact ⟨_, rfl⟩
  case markFires => exact ⟨_, rfl⟩
  case shotClockEnd => exact ⟨_, rfl⟩
  case hornTimerRunsOut => exact ⟨_, rfl⟩
  case lineEdge => exact ⟨_, rfl⟩
  case frameEnd => exact ⟨_, rfl⟩
  case frameStart => exact ⟨_, rfl⟩
  case leadInEnd => exact ⟨_, rfl⟩
  case underrun => exact ite_next_answers ..
  case intakeRetry => exact ite_next_answers ..
  case dwellDone => exact ⟨_, rfl⟩
  case coverLimit => exact ⟨_, rfl⟩
  case messageExpiry => exact ⟨_, rfl⟩
  case passEnd => exact ⟨_, rfl⟩
  case hostWriteArrival => exact ⟨_, rfl⟩
  case writeBeat d k =>
    change ∃ t, execWriteBeat d k s = .next t
    unfold execWriteBeat
    split
    · exact ite_next_answers ..
    · exact ⟨_, rfl⟩
  case hostWriteEnd lines r =>
    change ∃ t, execHostWriteEnd lines r s = .next t
    unfold execHostWriteEnd
    split
    · exact ite_next_answers ..
    · exact ⟨_, rfl⟩
  case hostRead => exact ⟨_, rfl⟩
  case completion => exact ite_next_answers ..
  case watchedWrite => exact ite_next_answers ..
  case refreshDue => exact ite_next_answers ..
  case accessEnd => exact ite_next_answers ..
  case queueJoin => exact ite_next_answers ..
  case unknownKind slot kind tag closing =>
    change ∃ t, execUnknownKind slot kind tag closing s = .next t
    unfold execUnknownKind
    split
    · exact hostCommand_answers ..
    · exact ⟨_, rfl⟩
  all_goals exact hostCommand_answers ..

/-! ### The induction over steps -/

/-- What is said of the rule of an owner's command may be proved of every outcome the owner's frame allows. -/
theorem commandRule_elim {i : Instr} {o : CommandOwner} (s : State) {P : CommandRule → Prop} (ho : commandOwner i = o)
    (h : ∀ r : CommandRule, RuleOutcome (OwnerFrame o s) s (r s) → P r) : (commandRule i).elim True P := by
  have houtcome := commandRule_elim_outcome i s
  rw [ho] at houtcome
  cases hr : commandRule i with
  | none => exact trivial
  | some r =>
    rw [hr] at houtcome
    exact h r houtcome

/-- A property of states that each of the part's operations keeps, each at the moment at which it can come about. An operation whose frame
leaves the property's fields alone needs no proof of its own: the default is its frame. -/
structure Kept (I : State → Prop) : Prop where
  /-- POWER_ON -/
  powerOn : ∀ s, I s →
    I { State.reset with pending := s.pending, powerOns := s.powerOns + 1, phase := .powerOnReset, straps := s.straps }
  /-- RESET_LINE_LOW -/
  resetLine : ∀ s, s.phase = .startUp ∨ s.phase = .running → I s → I (resetLineLow s)
  /-- RESET_RELEASE, its cause -/
  cause : ∀ s, s.phase = .resetLow → I s → I (addResetLine s) := by exact fun _ _ h => h
  /-- RESET_RELEASE -/
  release : ∀ st s, s.phase = .powerOnReset ∨ s.phase = .resetLow → I s → I (beginStartUp st s) := by exact fun _ _ _ h => h
  /-- START_UP_COMPLETE -/
  startUp : ∀ s, s.phase = .startUp → I s → I (completeStartUp s) := by
    intro s _ h
    obtain ⟨_, e⟩ := completeStartUp_frame s
    rw [e]
    exact h
  /-- a millisecond tick -/
  tick : ∀ t s, I s → I (millisecondTick t s).1 := by
    intro t s h
    obtain ⟨_, _, _, _, e⟩ := millisecondTick_clockFrame t s
    rw [e]
    exact h
  /-- FRAME_END -/
  frameEnd : ∀ r s, s.scanning = true → I s → I (frameEnd r s).1 := by
    intro r s _ h
    obtain ⟨_, _, _, _, _, _, _, _, e⟩ := frameEnd_frame r s
    rw [e]
    exact h
  /-- FRAME_START -/
  frameStart : ∀ s, s.inBlanking = true → I s → I (frameStart s) := by
    intro s _ h
    obtain ⟨_, _, _, _, _, e⟩ := frameStart_frame s
    rw [e]
    exact h
  /-- UNDERRUN -/
  underrun : ∀ cx cy s, I s → I (underrunCell cx cy s) := by exact fun _ _ _ h => h
  /-- INTAKE_RETRY -/
  retry : ∀ s, I s → I (retryIntake s) := by
    intro s h
    obtain ⟨_, e⟩ := retryIntake_intakeFrame s
    rw [e]
    exact h
  /-- COMPLETION -/
  completion : ∀ s, I s → I (examineTrailer s) := by
    intro s h
    obtain ⟨_, _, e⟩ := examineTrailer_intakeFlagFrame s
    rw [e]
    exact h
  /-- HOST_WRITE_ARRIVAL and HOST_READ -/
  present : ∀ q s, I s → I (present q s) := by
    intro q s h
    obtain ⟨_, e⟩ := present_portFrame q s
    rw [e]
    exact h
  /-- WRITE_BEAT -/
  beat : ∀ d k x s, s.port.transaction = some x → x.expectsBeat = true → I s → I (writeBeat d k x s) := by
    intro d k x s _ _ h
    obtain ⟨_, _, _, _, e⟩ := writeBeat_frame d k x s
    rw [e]
    exact h
  /-- HOST_WRITE_END, the transaction's end -/
  endTransaction : ∀ x s, s.port.transaction = some x → x.canEnd = true → I s → I (setTransaction none s) := by exact fun _ _ _ _ h => h
  /-- HOST_WRITE_END, a retry held over -/
  heldOver : ∀ s, I s → I (retryHeldOver s) := by
    intro s h
    obtain ⟨_, e⟩ := retryHeldOver_intakeFrame s
    rw [e]
    exact h
  /-- WATCHED_WRITE -/
  watched : ∀ v s, I s → I (watchedWrite v s) := by
    intro v s h
    obtain ⟨_, _, e⟩ := watchedWrite_logFrame v s
    rw [e]
    exact h
  /-- REFRESH_DUE -/
  refresh : ∀ s, I s → I { s with memctl := { s.memctl with refreshDue := s.memctl.refreshDue + 1 } } := by exact fun _ h => h
  /-- ACCESS_END -/
  access : ∀ i first s, s.phase ≠ .powerOnReset → I s → I (accessEnd i first s) := by
    intro i first s _ h
    obtain ⟨_, _, _, _, _, _, e⟩ := accessEnd_accessFrame i first s
    rw [e]
    exact h
  /-- QUEUE_JOIN -/
  join : ∀ first s, I s → I { s with memctl := s.memctl.join first } := by
    intro first s h
    obtain ⟨_, _, _, e⟩ := join_frame first s.memctl
    rw [e]
    exact h
  /-- the delivery of a result -/
  deliver : ∀ slot r s, I s → I (finishCommand slot r s) := by
    intro slot r s h
    obtain ⟨_, _, _, _, _, e⟩ := finishCommand_deliveryFrame slot r s
    rw [e]
    exact h
  /-- a rule of the command unit -/
  commandRules : ∀ i s, commandOwner i = .commandUnit → I s → (commandRule i).elim True fun r => I (r s).1 := by
    intro i s ho h
    refine commandRule_elim s ho fun r hr => ?_
    obtain e | ⟨-, _, _, _, e⟩ := hr
    · rw [e]
      exact h
    · rw [e]
      exact h
  /-- RESTART -/
  restart : ∀ i s, commandOwner i = .wholePart → I s → (commandRule i).elim True fun r => I (r s).1 := by
    intro i s ho h
    refine commandRule_elim s ho fun r hr => ?_
    obtain e | ⟨-, _, _, _, _, _, _, _, _, _, e⟩ := hr
    · rw [e]
      exact h
    · rw [e]
      exact h
  /-- a rule of the composer -/
  composerRules : ∀ i s, commandOwner i = .composer → I s → (commandRule i).elim True fun r => I (r s).1 := by
    intro i s ho h
    refine commandRule_elim s ho fun r hr => ?_
    obtain e | ⟨-, _, e⟩ := hr
    · rw [e]
      exact h
    · rw [e]
      exact h
  /-- a rule of the intake -/
  intakeRules : ∀ i s, commandOwner i = .intake → I s → (commandRule i).elim True fun r => I (r s).1 := by
    intro i s ho h
    refine commandRule_elim s ho fun r hr => ?_
    obtain e | ⟨-, _, e⟩ := hr
    · rw [e]
      exact h
    · rw [e]
      exact h
  /-- a rule of the roller -/
  rollerRules : ∀ i s, commandOwner i = .roller → I s → (commandRule i).elim True fun r => I (r s).1 := by
    intro i s ho h
    refine commandRule_elim s ho fun r hr => ?_
    obtain e | ⟨-, _, _, e⟩ := hr
    · rw [e]
      exact h
    · rw [e]
      exact h
  /-- a rule of the clock unit -/
  clockRules : ∀ i s, commandOwner i = .clockUnit → I s → (commandRule i).elim True fun r => I (r s).1 := by
    intro i s ho h
    refine commandRule_elim s ho fun r hr => ?_
    obtain e | ⟨-, _, _, _, _, e⟩ := hr
    · rw [e]
      exact h
    · rw [e]
      exact h
  /-- a rule of the console -/
  consoleRules : ∀ i s, commandOwner i = .console → I s → (commandRule i).elim True fun r => I (r s).1 := by
    intro i s ho h
    refine commandRule_elim s ho fun r hr => ?_
    obtain e | ⟨-, _, e⟩ := hr
    · rw [e]
      exact h
    · rw [e]
      exact h
  /-- a rule of the score unit -/
  scoreRules : ∀ i s, commandOwner i = .scoreUnit → I s → (commandRule i).elim True fun r => I (r s).1 := by
    intro i s ho h
    refine commandRule_elim s ho fun r hr => ?_
    obtain e | ⟨-, _, _, _, _, e⟩ := hr
    · rw [e]
      exact h
    · rw [e]
      exact h
  /-- a rule of the rotation unit -/
  rotationRules : ∀ i s, commandOwner i = .rotationUnit → I s → (commandRule i).elim True fun r => I (r s).1 := by
    intro i s ho h
    refine commandRule_elim s ho fun r hr => ?_
    obtain e | ⟨-, _, e⟩ := hr
    · rw [e]
      exact h
    · rw [e]
      exact h
  /-- a rule of the ticker unit -/
  tickerRules : ∀ i s, commandOwner i = .tickerUnit → I s → (commandRule i).elim True fun r => I (r s).1 := by
    intro i s ho h
    refine commandRule_elim s ho fun r hr => ?_
    obtain e | ⟨-, _, _, e⟩ := hr
    · rw [e]
      exact h
    · rw [e]
      exact h

/-- The rule of every host command keeps what each owner's rules keep. -/
theorem Kept.rule {I : State → Prop} (K : Kept I) {i : Instr} {r : CommandRule} {s : State} (hr : commandRule i = some r)
    (h : I s) : I (r s).1 := by
  have helim : (commandRule i).elim True fun r => I (r s).1 := by
    cases ho : commandOwner i with
    | commandUnit => exact K.commandRules i s ho h
    | wholePart => exact K.restart i s ho h
    | composer => exact K.composerRules i s ho h
    | intake => exact K.intakeRules i s ho h
    | roller => exact K.rollerRules i s ho h
    | clockUnit => exact K.clockRules i s ho h
    | console => exact K.consoleRules i s ho h
    | scoreUnit => exact K.scoreRules i s ho h
    | rotationUnit => exact K.rotationRules i s ho h
    | tickerUnit => exact K.tickerRules i s ho h
  rwa [hr] at helim

theorem Kept.tickWith {I : State → Prop} (K : Kept I) (due : TickEvents → Bool) (t : TickInput) {s : State} (h : I s) :
    I (tickWith due t s) := by
  obtain ⟨-, -, ht⟩ | ht := tickWith_cases due t s
  · rw [ht]
    exact K.tick t s h
  · rwa [ht]

theorem Kept.frameEndWith {I : State → Prop} (K : Kept I) (due : FrameEndEvents → Bool) (r : Bool) {s : State} (h : I s) :
    I (frameEndWith due r s) := by
  obtain ⟨hs, -, ht⟩ | ht := frameEndWith_cases due r s
  · rw [ht]
    exact K.frameEnd r s hs h
  · rwa [ht]

theorem Kept.frameStartIf {I : State → Prop} (K : Kept I) (due : Bool) {s : State} (h : I s) : I (frameStartIf due s) := by
  obtain ⟨hs, -, ht⟩ | ht := frameStartIf_cases due s
  · rw [ht]
    exact K.frameStart s hs h
  · rwa [ht]

theorem Kept.hostCommand {I : State → Prop} (K : Kept I) {i : Instr} {slot : RingSlot} {s t : State} (h : I s)
    (ht : Machine.exec i s = .next t) (hslot : commandSlot i = some slot) : I t := by
  obtain ⟨rule, hrule⟩ := Option.isSome_iff_exists.mp ((commandRule_isSome i).trans (by rw [hslot]; rfl))
  rw [exec_eq_hostCommand hslot hrule] at ht
  obtain ⟨-, rfl⟩ | ⟨-, rfl⟩ := hostCommand_cases ht
  · exact K.deliver _ _ _ (K.rule hrule h)
  · exact h

theorem Kept.takeSlot {I : State → Prop} (K : Kept I) (slot : RingSlot) (lines : Byte) {s : State} (h : I s) :
    I (takeSlot slot lines s) := by
  unfold Machine.takeSlot
  split
  · exact K.deliver _ _ _ h
  · exact K.deliver _ _ _ h
  · next i _ =>
    split
    · next rule hrule => exact K.deliver _ _ _ (K.rule hrule h)
    · exact h

/-- The end-of-burst events one after another: the slot closed, the completion, the watched write (R166). -/
def closingStage (lines : Byte) (slot : Option RingSlot) (s : State) : State := slot.elim s fun k => takeSlot k lines s

def completionStage (c : Bool) (s : State) : State := if c then examineTrailer s else s

def watchedStage (v : Option Word) (s : State) : State := v.elim s fun w => watchedWrite w s

theorem endOfBurst_eq (lines : Byte) (x : HostTransaction) (s : State) :
    endOfBurst lines x s = watchedStage x.watched (completionStage x.completion (closingStage lines x.closing s)) := by
  unfold endOfBurst watchedStage completionStage closingStage
  cases x.watched <;> cases x.closing <;> rfl

theorem Kept.endOfBurst {I : State → Prop} (K : Kept I) (lines : Byte) (x : HostTransaction) {s : State} (h : I s) :
    I (endOfBurst lines x s) := by
  have hclosing : I (closingStage lines x.closing s) := by
    cases x.closing with
    | none => exact h
    | some slot => exact K.takeSlot slot lines h
  have hcompletion : I (completionStage x.completion (closingStage lines x.closing s)) := by
    cases x.completion with
    | false => exact hclosing
    | true => exact K.completion _ hclosing
  rw [endOfBurst_eq]
  cases x.watched with
  | none => exact hcompletion
  | some v => exact K.watched v _ hcompletion

theorem Kept.writeEnd {I : State → Prop} (K : Kept I) (lines : Byte) (r : Bool) {x : HostTransaction} {s : State}
    (hx : s.port.transaction = some x) (he : x.canEnd = true) (h : I s) : I (writeEnd lines r x s) := by
  have hover := K.endTransaction x s hx he h
  unfold Machine.writeEnd
  dsimp only
  split
  · exact K.endOfBurst lines x (K.heldOver _ hover)
  · exact K.heldOver _ (K.endOfBurst lines x hover)

/-- What every operation keeps, every command keeps. -/
theorem Kept.exec {I : State → Prop} (K : Kept I) {c : Instr} {s t : State} (h : I s) (ht : exec c s = .next t) : I t := by
  cases c
  case powerOn =>
    obtain rfl := Host.Outcome.next.inj ht
    exact K.powerOn s h
  case resetLineLow =>
    obtain ⟨hp, rfl⟩ | rfl := execResetLineLow_cases ht
    · exact K.resetLine s hp h
    · exact h
  case resetRelease st =>
    obtain ⟨hp, rfl⟩ | ⟨hp, rfl⟩ | rfl := execResetRelease_cases ht
    · exact K.release st s (.inl hp) h
    · exact K.release st _ (.inr hp) (K.cause s hp h)
    · exact h
  case startUpComplete =>
    obtain ⟨hp, -, rfl⟩ | rfl := execStartUpComplete_cases ht
    · exact K.startUp s hp h
    · exact h
  case millisecondTick => exact Host.Outcome.next.inj ht ▸ K.tickWith _ _ h
  case periodEnd => exact Host.Outcome.next.inj ht ▸ K.tickWith _ _ h
  case markFires => exact Host.Outcome.next.inj ht ▸ K.tickWith _ _ h
  case shotClockEnd => exact Host.Outcome.next.inj ht ▸ K.tickWith _ _ h
  case hornTimerRunsOut => exact Host.Outcome.next.inj ht ▸ K.tickWith _ _ h
  case lineEdge => exact Host.Outcome.next.inj ht ▸ K.tickWith _ _ h
  case frameEnd => exact Host.Outcome.next.inj ht ▸ K.frameEndWith _ _ h
  case frameStart => exact Host.Outcome.next.inj ht ▸ K.frameStartIf _ h
  case leadInEnd => exact Host.Outcome.next.inj ht ▸ K.frameStartIf _ h
  case underrun =>
    obtain ⟨-, rfl⟩ | ⟨-, rfl⟩ := ite_next_cases ht
    · exact K.underrun _ _ s h
    · exact h
  case intakeRetry =>
    obtain ⟨-, rfl⟩ | ⟨-, rfl⟩ := ite_next_cases ht
    · exact K.retry s h
    · exact h
  case dwellDone => exact Host.Outcome.next.inj ht ▸ K.frameEndWith _ _ h
  case coverLimit => exact Host.Outcome.next.inj ht ▸ K.frameEndWith _ _ h
  case messageExpiry => exact Host.Outcome.next.inj ht ▸ K.frameEndWith _ _ h
  case passEnd => exact Host.Outcome.next.inj ht ▸ K.frameEndWith _ _ h
  case hostWriteArrival => exact Host.Outcome.next.inj ht ▸ K.present _ s h
  case writeBeat =>
    obtain ⟨x, hx, -, he, rfl⟩ | rfl := execWriteBeat_cases ht
    · exact K.beat _ _ x s hx he h
    · exact h
  case hostWriteEnd =>
    obtain ⟨x, hx, -, he, rfl⟩ | rfl := execHostWriteEnd_cases ht
    · exact K.writeEnd _ _ hx he h
    · exact h
  case hostRead => exact Host.Outcome.next.inj ht ▸ K.present _ s h
  case completion =>
    obtain ⟨-, rfl⟩ | ⟨-, rfl⟩ := ite_next_cases ht
    · exact K.completion s h
    · exact h
  case watchedWrite =>
    obtain ⟨-, rfl⟩ | ⟨-, rfl⟩ := ite_next_cases ht
    · exact K.watched _ s h
    · exact h
  case refreshDue =>
    obtain ⟨-, rfl⟩ | ⟨-, rfl⟩ := ite_next_cases ht
    · exact K.refresh s h
    · exact h
  case accessEnd =>
    obtain ⟨-, rfl⟩ | ⟨hp, rfl⟩ := ite_next_cases ht
    · exact h
    · exact K.access _ _ s hp h
  case queueJoin =>
    obtain ⟨-, rfl⟩ | ⟨-, rfl⟩ := ite_next_cases ht
    · exact K.join _ s h
    · exact h
  case unknownKind =>
    obtain ⟨_, -, rfl⟩ | rfl := execUnknownKind_cases ht
    · exact K.deliver _ _ s h
    · exact h
  all_goals exact K.hostCommand h ht rfl

/-- What every operation keeps, and the queue of waiting commands does not bear on, every step keeps. -/
theorem Kept.step {I : State → Prop} (K : Kept I) (hpending : ∀ s q, I s → I (s.withPending q)) {s t : State} (h : I s)
    (ht : step s = .next t) : I t := by
  obtain ⟨-, rfl⟩ | ⟨c, rest, -, hc⟩ := step_cases ht
  · exact h
  · exact K.exec (hpending s rest h) hc

end Sys2Proof.Machine
end

section
/-! PROOFS. What holds of every command: it answers next, leaves the queue of waiting commands alone, and delivers its result (R179, R181). -/

namespace Sys2Proof.Machine

/-! ### The queue of waiting commands -/

/-- What a RESET* changes, and what it leaves. -/
theorem resetLineLow_frame (s : State) :
    resetLineLow s =
      { State.reset with
        pending := s.pending
        powerOns := s.powerOns
        phase := .resetLow
        straps := s.straps
        command := CommandUnit.reset s.command.causes
        memctl :=
          { MemoryController.reset with
            refreshDue := s.memctl.refreshDue
            access := (settleAccess s).memctl.access
            deadlineBegun := s.memctl.deadlineBegun }
        port := { PlayoutPort.reset with presented := s.port.presented }
        mem := (settleAccess s).mem } := by
  obtain ⟨_, _, _, e⟩ := settleAccess_frame s
  rw [resetLineLow, e]
  rfl

theorem kept_pending (q : List Instr) : Kept fun s => s.pending = q where
  powerOn _ h := h
  resetLine s _ h := by
    rw [resetLineLow_frame]
    exact h

/-- Settles O1: the equation of `step` in its two cases. -/
theorem stepRunsFrontCommand : Obligations.StepRunsFrontCommand := by
  unfold Obligations.StepRunsFrontCommand
  refine ⟨fun c rest s h => ?_, fun s h => ?_⟩
  · rw [step, h]
  · rw [step, h]

/-- Settles O2: every meaning answers next, and the queue of waiting commands is kept by every operation. -/
theorem everyCommandAnswersNext : Obligations.EveryCommandAnswersNext := by
  unfold Obligations.EveryCommandAnswersNext
  intro c s
  obtain ⟨t, ht⟩ := exec_answers c s
  exact ⟨t, ht, (kept_pending s.pending).exec rfl ht⟩

/-! ### The delivery of a result -/

theorem ResultCode.counted_iff (c : ResultCode) : c.counted = true ↔ c = .ok ∨ c = .clamped := by
  simp [ResultCode.counted]

/-- A counted code counts as taken; another as refused, with CMD_REFUSED (R181). -/
theorem CommandUnit.count_of_counted {c : ResultCode} (u : CommandUnit) (h : c.counted = true) :
    u.count c = { u with taken := u.taken + 1 } := by
  rw [CommandUnit.count, if_pos h]

theorem CommandUnit.count_of_refused {c : ResultCode} (u : CommandUnit) (h : c.counted = false) :
    u.count c = { u with refused := u.refused + 1, flags := u.flags ||| Flag.cmdRefused.bit } := by
  rw [CommandUnit.count, h, if_neg Bool.false_ne_true]

theorem finishCommand_command (slot : RingSlot) (r : Result) (s : State) :
    (finishCommand slot r s).command = s.command.count r.code := rfl

theorem finishCommand_memctl (slot : RingSlot) (r : Result) (s : State) :
    (finishCommand slot r s).memctl =
      s.memctl.offerCommand (resultWrite slot r) (if r.afterRecords then s.memctl.waitExposure.length else 0) := rfl

/-- A refusal raises CMD_REFUSED and no other flag. -/
theorem flagged_of_refused {u : State} {s : State} (h : u.command.flags = s.command.flags ||| Flag.cmdRefused.bit) :
    u.flagged .cmdRefused = true ∧ ∀ f : Flag, f ≠ .cmdRefused → u.flagged f = s.flagged f := by
  have hflags : ∀ f, u.flagged f = (s.raise .cmdRefused).flagged f := fun f => by
    rw [State.flagged, h, State.flagged, State_raise_flags]
  exact ⟨by rw [hflags, State.raise_flagged], fun f hf => by rw [hflags, State.raise_flagged_other s hf]⟩

/-- With room in the queue and nothing before it, a write the command unit offers joins the queue at once. -/
theorem offerCommand_joins {m : MemoryController} {behind : Nat} (w : PartWrite) (hwait : m.waitCommand = []) (hbehind : behind = 0)
    (hroom : m.queue.length < Config.queueCapacity) : m.offerCommand w behind = { m with queue := m.queue ++ [w] } := by
  simp [MemoryController.offerCommand, MemoryController.hasRoom, hwait, hbehind, hroom]

/-- Otherwise it waits behind those that wait, and behind the records it was told to let join first. -/
theorem offerCommand_waits {m : MemoryController} {behind : Nat} (w : PartWrite)
    (h : m.waitCommand ≠ [] ∨ behind ≠ 0 ∨ Config.queueCapacity ≤ m.queue.length) :
    m.offerCommand w behind = { m with waitCommand := m.waitCommand ++ [{ write := w, behind := behind }] } := by
  unfold MemoryController.offerCommand
  rw [if_neg]
  simp only [MemoryController.hasRoom, Bool.and_eq_true, List.isEmpty_iff, beq_iff_eq, decide_eq_true_eq]
  rintro ⟨⟨hwait, hbehind⟩, hroom⟩
  obtain h | h | h := h
  · exact h hwait
  · exact h hbehind
  · omega

/-- Settles O3: the row of a host command is its rule's taking, every rule refuses without a change, and a result is delivered by its
code and by what waits before it. -/
theorem hostCommandsDeliverResults : Obligations.HostCommandsDeliverResults := by
  unfold Obligations.HostCommandsDeliverResults
  refine ⟨fun i slot rule s hslot hrule hrun => ⟨?_, fun hcode => ?_⟩, fun slot r s => ?_⟩
  · exact answers_of_rule (exec_eq_hostCommand hslot hrule s) hrun rfl
  · obtain h | ⟨hcounted, -⟩ := commandRule_outcome hrule s
    · exact h
    · rw [hcode] at hcounted
      cases hcounted
  · dsimp only
    refine ⟨?_, fun hcode => ?_, fun hok hclamped => ?_, ⟨fun hafter hwait hroom => ?_, fun hafter hwait => ?_, fun hafter hwait => ?_⟩, rfl⟩
    · obtain ⟨_, _, _, _, _, h⟩ := finishCommand_deliveryFrame slot r s
      rw [h]
    · rw [finishCommand_command, CommandUnit.count_of_counted _ ((ResultCode.counted_iff _).mpr hcode)]
      exact ⟨rfl, rfl, rfl⟩
    · have hrefused : r.code.counted = false := by
        rw [Bool.eq_false_iff, ne_eq, ResultCode.counted_iff]
        simp [hok, hclamped]
      have hcount := CommandUnit.count_of_refused s.command hrefused
      refine ⟨?_, ?_, flagged_of_refused ?_⟩ <;> rw [finishCommand_command, hcount]
    · have hbehind : (if r.afterRecords then s.memctl.waitExposure.length else 0) = 0 := by
        obtain h | h := hafter
        · rw [h]
          rfl
        · rw [h]
          split <;> rfl
      rw [finishCommand_memctl, offerCommand_joins _ hwait hbehind hroom]
      exact ⟨rfl, hwait⟩
    · rw [finishCommand_memctl, hafter, offerCommand_waits _ (hwait.imp id .inr)]
      exact ⟨rfl, rfl⟩
    · have hbehind : s.memctl.waitCommand ≠ [] ∨ s.memctl.waitExposure.length ≠ 0 ∨ Config.queueCapacity ≤ s.memctl.queue.length := by
        rw [ne_eq, ne_eq, List.length_eq_zero_iff]
        tauto
      rw [finishCommand_memctl, hafter, if_pos rfl, offerCommand_waits _ hbehind]
      exact ⟨rfl, rfl⟩

end Sys2Proof.Machine
end

section
/-! PROOFS. The clock unit keeps its clocks, marks and horn in their ranges (R67, R68, R74, R76, R82, R83). -/

namespace Sys2Proof.Machine

/-- The clock unit's items lie in their ranges: what `ClocksSound` says of a state, said of the unit. -/
def ClockUnit.Sound (c : ClockUnit) : Prop :=
  c.game.Sound ∧ c.shot.Sound ∧ c.horn.Sound ∧ c.mark0.value.getD 0 ≤ Config.clockMax ∧ c.mark1.value.getD 0 ≤ Config.clockMax

theorem clocksSound_iff (s : State) : ClocksSound s ↔ s.clock.Sound := Iff.rfl

/-! ### The game clock -/

/-- The end value does not depend on the value or the state. -/
@[simp] theorem GameClock.endValue_with (g : GameClock) (v : Nat) (st : GameState) :
    GameClock.endValue { g with value := v, state := st } = g.endValue := rfl

/-- A clock of sound settings is sound with a value in its range and a state that is ENDED exactly at the end value. -/
theorem GameClock.Sound.set {g : GameClock} (h : g.Sound) {v : Nat} {st : GameState} (hv : v ≤ g.top)
    (hst : st = .ended ↔ v = g.endValue) : GameClock.Sound { g with value := v, state := st } := by
  obtain ⟨-, hlow, hhigh, -, -⟩ := h
  refine ⟨?_, hlow, hhigh, fun hup => ?_, hst⟩
  · cases hd : g.direction <;> simp only [GameClock.top, hd] at hv
    · exact hv
    · exact hv.trans hhigh
  · change g.direction = .up at hup
    simpa only [GameClock.top, hup] using hv

theorem GameClock.Sound.value_le_top {g : GameClock} (h : g.Sound) : g.value ≤ g.top := by
  obtain ⟨hmax, -, -, hup, -⟩ := h
  cases hd : g.direction <;> simp only [GameClock.top, hd]
  · exact hmax
  · exact hup hd

theorem GameClock.endValue_le_top (g : GameClock) : g.endValue ≤ g.top := by
  cases hd : g.direction <;> simp [GameClock.top, GameClock.endValue, hd]

/-- A clock that is not ENDED may take any other state that is not ENDED (R71, R72). -/
theorem GameClock.Sound.setState {g : GameClock} (h : g.Sound) {st : GameState} (hg : g.state ≠ .ended) (hst : st ≠ .ended) :
    GameClock.Sound { g with state := st } := by
  refine h.set h.value_le_top ⟨fun e => absurd e hst, fun e => absurd (h.2.2.2.2.mpr e) hg⟩

/-- A RUNNING clock moves within its range (R68). -/
theorem GameClock.moved_le_top {g : GameClock} (h : g.Sound) (hrun : g.state = .running) : g.moved ≤ g.top := by
  have hne : g.value ≠ g.endValue := fun e => by
    have := h.2.2.2.2.mpr e
    rw [hrun] at this
    cases this
  have htop := h.value_le_top
  cases hd : g.direction <;> simp only [GameClock.top, GameClock.moved, GameClock.endValue, hd] at hne htop ⊢ <;> omega

theorem GameClock.adjusted_le_top (g : GameClock) (delta : Int) : g.adjusted delta ≤ g.top := by
  rw [GameClock.adjusted]
  omega

/-! ### The shot clock and the horn -/

theorem ShotClock.Sound.onStart {t : ShotClock} (h : t.Sound) : t.onStart.Sound := by
  obtain ⟨hlow, hhigh, hmax, hpos, hend⟩ := h
  unfold ShotClock.onStart
  split
  · exact ⟨hlow, hhigh, hhigh, fun _ => Nat.lt_of_lt_of_le (by decide) hlow, fun e => by cases e⟩
  · split
    · next hstopped =>
      simp only [Bool.and_eq_true, beq_iff_eq] at hstopped
      exact ⟨hlow, hhigh, hmax, fun _ => hpos (.inl hstopped.2), fun e => by cases e⟩
    · exact ⟨hlow, hhigh, hmax, hpos, hend⟩

theorem ShotClock.Sound.onStop {t : ShotClock} (h : t.Sound) : t.onStop.Sound := by
  obtain ⟨hlow, hhigh, hmax, hpos, hend⟩ := h
  unfold ShotClock.onStop
  split
  · next hrun =>
    simp only [Bool.and_eq_true, beq_iff_eq] at hrun
    exact ⟨hlow, hhigh, hmax, fun _ => hpos (.inr hrun.2), fun e => by cases e⟩
  · exact ⟨hlow, hhigh, hmax, hpos, hend⟩

theorem ClockUnit.Sound.hornEvent {c : ClockUnit} (h : c.Sound) {d : Nat} (hd : d ≤ 5000) : (c.hornEvent d).Sound := by
  obtain ⟨hgame, hshot, ⟨hp, hp', hs, hs', htimer⟩, hmarks⟩ := h
  exact ⟨hgame, hshot, ⟨hp, hp', hs, hs', max_le htimer hd⟩, hmarks⟩

theorem ClockUnit.Sound.hornEventIf {c : ClockUnit} (h : c.Sound) (b : Bool) {d : Nat} (hd : d ≤ 5000) : (c.hornEventIf b d).Sound := by
  cases b
  · exact h
  · exact h.hornEvent hd

theorem ClockUnit.Sound.setGame {c : ClockUnit} (h : c.Sound) {g : GameClock} (hg : g.Sound) : ClockUnit.Sound { c with game := g } :=
  ⟨hg, h.2⟩

theorem ClockUnit.Sound.setShot {c : ClockUnit} (h : c.Sound) {t : ShotClock} (ht : t.Sound) : ClockUnit.Sound { c with shot := t } :=
  ⟨h.1, ht, h.2.2⟩

theorem ClockUnit.Sound.periodTime_le {c : ClockUnit} (h : c.Sound) : c.horn.periodTime ≤ 5000 := h.2.2.1.2.1

theorem ClockUnit.Sound.shotTime_le {c : ClockUnit} (h : c.Sound) : c.horn.shotTime ≤ 5000 := h.2.2.1.2.2.2.1

/-! ### Starts, stops and period ends (R68, R71, R72) -/

theorem ClockUnit.Sound.started {c : ClockUnit} (h : c.Sound) (hstate : c.game.state ≠ .ended) : c.started.Sound :=
  (h.setGame (h.1.setState hstate (by decide))).setShot h.2.1.onStart

theorem ClockUnit.Sound.halted {c : ClockUnit} (h : c.Sound) (hstate : c.game.state ≠ .ended) : c.halted.Sound :=
  (h.setGame (h.1.setState hstate (by decide))).setShot h.2.1.onStop

/-- The period of a clock that stands at its end value ends soundly, whatever its state was. -/
theorem ClockUnit.Sound.periodEnded {c : ClockUnit} (h : c.Sound) {g : GameClock} (hg : GameClock.Sound { g with state := .ended }) :
    (ClockUnit.periodEnded { c with game := g }).Sound :=
  ((h.setGame hg).setShot h.2.1.onStop).hornEventIf _ h.periodTime_le

/-! ### The tick (R66) -/

theorem ClockUnit.Sound.tickTimers {c : ClockUnit} (h : c.Sound) : c.tickTimers.Sound := by
  obtain ⟨hgame, hshot, ⟨hp, hp', hs, hs', htimer⟩, hmarks⟩ := h
  exact ⟨hgame, hshot, ⟨hp, hp', hs, hs', Nat.le_trans (Nat.sub_le ..) htimer⟩, hmarks⟩

theorem ClockUnit.Sound.tickGame {c : ClockUnit} (h : c.Sound) (hrun : c.game.state = .running) : c.tickGame.Sound := by
  have htop := GameClock.moved_le_top h.1 hrun
  unfold ClockUnit.tickGame
  dsimp only
  split
  · next hend => exact h.periodEnded (h.1.set htop (iff_of_true rfl hend))
  · next hne => exact h.setGame (h.1.set htop (iff_of_false (by rw [hrun]; decide) hne))

theorem ClockUnit.Sound.markActions {c : ClockUnit} (h : c.Sound) (m : Mark) : (c.markActions m).Sound := by
  have hhorn := h.hornEventIf m.horn h.periodTime_le
  unfold ClockUnit.markActions
  dsimp only
  split
  · next hstop =>
    simp only [Bool.and_eq_true, beq_iff_eq] at hstop
    exact hhorn.halted (by rw [hstop.2]; decide)
  · exact hhorn

theorem ClockUnit.Sound.markIf {c : ClockUnit} (h : c.Sound) (b : Bool) (m : Mark) : (c.markIf b m).Sound := by
  cases b
  · exact h
  · exact h.markActions m

theorem ClockUnit.Sound.tickStep3 {c : ClockUnit} (h : c.Sound) : c.tickStep3.1.Sound := by
  unfold ClockUnit.tickStep3
  split
  · next hrun => exact ((h.tickGame hrun).markIf _ _).markIf _ _
  · exact h

theorem ClockUnit.Sound.tickShot {c : ClockUnit} (h : c.Sound) : c.tickShot.1.Sound := by
  obtain ⟨hlow, hhigh, hmax, hpos, hend⟩ := h.2.1
  unfold ClockUnit.tickShot
  split
  · next hrun =>
    dsimp only
    split
    · have hended : ShotClock.Sound { c.shot with value := 0, state := .ended } :=
        ⟨hlow, hhigh, Nat.zero_le _, fun e => by simp at e, fun _ => rfl⟩
      exact (h.setShot hended).hornEventIf _ h.shotTime_le
    · next hne =>
      refine h.setShot ⟨hlow, hhigh, Nat.le_trans (Nat.sub_le ..) hmax, fun _ => Nat.pos_of_ne_zero hne, fun e => ?_⟩
      change c.shot.state = .ended at e
      rw [hrun] at e
      cases e
  · exact h

theorem ClockUnit.Sound.tick {c : ClockUnit} (h : c.Sound) : c.tick.1.Sound := h.tickTimers.tickStep3.tickShot

/-! ### Requests and commands -/

theorem cutOnClock_clock (s : State) : (cutOnClock s).clock = s.clock := by
  obtain ⟨_, _, h⟩ := cutOnClock_rollerFrame s
  rw [h]

theorem gameClockStart_clock (s : State) : (gameClockStart s).clock = s.clock.started := by
  rw [gameClockStart, fireCapture_clock, cutOnClock_clock]

theorem gameClockStop_clock (s : State) : (gameClockStop s).clock = s.clock.halted := by
  rw [gameClockStop, fireCapture_clock]

theorem gamePeriodEnd_clock (s : State) : (gamePeriodEnd s).clock = s.clock.periodEnded := by
  rw [gamePeriodEnd, fireCapture_clock, State_raise_clock]

theorem startClock_sound {s : State} (h : s.clock.Sound) : (startClock s).1.clock.Sound := by
  unfold startClock
  split
  · next hstate =>
    rw [gameClockStart_clock]
    exact h.started (by rw [hstate]; decide)
  · exact h
  · exact h

theorem stopClock_sound {s : State} (h : s.clock.Sound) : (stopClock s).1.clock.Sound := by
  unfold stopClock
  split
  · next hstate =>
    rw [gameClockStop_clock]
    exact h.halted (by rw [hstate]; decide)
  · exact h
  · exact h

theorem shotReset_sound {s : State} (h : s.clock.Sound) : (shotReset s).1.clock.Sound := by
  obtain ⟨hlow, hhigh, -, -, -⟩ := h.2.1
  refine h.setShot ⟨hlow, hhigh, hhigh, fun _ => Nat.lt_of_lt_of_le (by decide) hlow, fun e => ?_⟩
  dsimp only at e
  split at e <;> cases e

/-- A STOPPED or RUNNING shot clock may become the other, and any shot clock BLANK (R79). -/
theorem ClockUnit.Sound.setShotState {c : ClockUnit} (h : c.Sound) {st : ShotState}
    (hst : st = .blank ∨ (st ≠ .ended ∧ (c.shot.state = .stopped ∨ c.shot.state = .running))) :
    ClockUnit.Sound { c with shot := { c.shot with state := st } } := by
  obtain ⟨hlow, hhigh, hmax, hpos, -⟩ := h.2.1
  refine h.setShot ⟨hlow, hhigh, hmax, fun e => ?_, fun e => ?_⟩
  · obtain rfl | ⟨-, hc⟩ := hst
    · simp at e
    · exact hpos hc
  · obtain rfl | ⟨hne, -⟩ := hst
    · cases e
    · exact absurd e hne

theorem shotStart_sound {s : State} (h : s.clock.Sound) : (shotStart s).1.clock.Sound := by
  unfold shotStart
  split
  · exact h
  · next hstate => exact h.setShotState (.inr ⟨by decide, .inl hstate⟩)
  · exact h
  · exact h

theorem shotStop_sound {s : State} (h : s.clock.Sound) : (shotStop s).1.clock.Sound := by
  unfold shotStop
  split
  · next hstate => exact h.setShotState (.inr ⟨by decide, .inr hstate⟩)
  · exact h
  · exact h
  · exact h

theorem decideRequest_sound (q : LineRequest) {s : State} (h : s.clock.Sound) : (decideRequest q s).1.clock.Sound := by
  cases q with
  | start => exact startClock_sound h
  | stop => exact stopClock_sound h
  | shotReset => exact shotReset_sound h
  | shotToggle =>
    unfold decideRequest shotToggle
    dsimp only
    split
    · exact shotStop_sound h
    · exact shotStart_sound h

theorem makeRequest_sound (q : LineRequest) {s : State} (h : s.clock.Sound) : (makeRequest q s).clock.Sound := by
  unfold makeRequest
  dsimp only
  split
  · exact decideRequest_sound q h
  · exact decideRequest_sound q h

theorem sampleLine_sound (lines : Byte) (n : Fin 8) {s : State} (h : s.clock.Sound) : (sampleLine lines n s).clock.Sound := by
  have hedge : ∀ raw (u : State), u.clock.Sound → (edgeActs n raw u).clock.Sound := by
    intro raw u hu
    rw [← fireCapture_clock (.line n raw) u] at hu
    unfold edgeActs
    dsimp only
    split
    · exact makeRequest_sound _ hu
    · exact hu
  unfold sampleLine
  dsimp only
  split
  · exact hedge _ _ h
  · exact h

theorem tickPart_sound (lines : Byte) (p : TickPart) {r : State × TickEvents} (h : r.1.clock.Sound) :
    (tickPart lines p r).1.clock.Sound := by
  cases p with
  | clockWork =>
    unfold tickPart
    dsimp only
    rw [handOn_clock]
    exact h.tick
  | line n =>
    unfold tickPart
    dsimp only
    split
    · exact sampleLine_sound lines n h
    · exact h

theorem tickRun_sound (lines : Byte) : ∀ (l : List TickPart) {r : State × TickEvents}, r.1.clock.Sound →
    (tickRun lines l r).1.clock.Sound
  | [], _, h => h
  | p :: rest, _, h => tickRun_sound lines rest (tickPart_sound lines p h)

theorem millisecondTick_sound (t : TickInput) {s : State} (h : s.clock.Sound) : (millisecondTick t s).1.clock.Sound := by
  have hrun := tickRun_sound t.lines (completeOrder t.order) (r := (s, { clock := ClockEvents.none, edges := [] })) h
  unfold millisecondTick
  dsimp only
  split
  · exact hrun
  · exact hrun

theorem adjustClock_sound (delta : Int) {s : State} (h : s.clock.Sound) : (adjustClock delta s).clock.Sound := by
  have htop := GameClock.adjusted_le_top s.clock.game delta
  unfold adjustClock
  dsimp only
  split
  · next hrun =>
    split
    · next hend =>
      rw [gamePeriodEnd_clock]
      exact h.periodEnded (h.1.set htop (iff_of_true rfl hend))
    · next hne => exact h.setGame (h.1.set htop (iff_of_false (by rw [hrun]; decide) hne))
  · refine h.setGame (h.1.set htop ?_)
    split
    · next hend => exact iff_of_true rfl hend
    · next hne => exact iff_of_false (by decide) hne

/-- What a checked rule keeps: the state as it is on a refusal, and what it makes when all its checks pass. -/
theorem checked_fst {I : State → Prop} {checks : List (Bool × ResultCode)} {s : State} {taken : State × Result} (h : I s)
    (htaken : (∀ c ∈ checks, c.1 = false) → I taken.1) : I (checked checks s taken).1 := by
  cases hf : firstFailing checks with
  | none =>
    rw [checked_of_none hf]
    exact htaken (firstFailing_eq_none.mp hf)
  | some code =>
    rw [checked_of_some hf]
    exact h

theorem ruleSetGameClock_sound (value limit : Word) (direction tenths : Byte) {s : State} (h : s.clock.Sound) :
    (ruleSetGameClock value limit direction tenths s).1.clock.Sound := by
  unfold ruleSetGameClock
  split
  · next d t _ _ =>
    refine checked_fst (I := fun u => u.clock.Sound) h fun hchecks => ?_
    simp only [List.forall_mem_cons, Bool.or_eq_false_iff, Bool.and_eq_false_iff, decide_eq_false_iff_not, Nat.not_lt] at hchecks
    obtain ⟨⟨⟨hvalue, hlow⟩, hhigh⟩, hup, -⟩ := hchecks
    refine h.setGame ⟨hvalue, hlow, hhigh, fun hd => ?_, ?_⟩
    · obtain hne | hle := hup
      · change d = .up at hd
        simp [hd] at hne
      · exact hle
    · dsimp only
      split
      · next hend => exact iff_of_true rfl hend
      · next hne => exact iff_of_false (by decide) hne
  · exact h

theorem ruleAdjustClock_sound (delta : Word) {s : State} (h : s.clock.Sound) : (ruleAdjustClock delta s).1.clock.Sound := by
  unfold ruleAdjustClock
  split
  · exact h
  · split
    · exact h
    · exact adjustClock_sound _ h

theorem ruleSetMark_sound (mark present actions : Byte) (value : Word) {s : State} (h : s.clock.Sound) :
    (ruleSetMark mark present actions value s).1.clock.Sound := by
  unfold ruleSetMark
  split
  · exact h
  · next p _ =>
    refine checked_fst (I := fun u => u.clock.Sound) h fun hchecks => ?_
    simp only [List.forall_mem_cons, Bool.and_eq_false_iff, decide_eq_false_iff_not, Nat.not_lt] at hchecks
    obtain ⟨-, hvalue, -⟩ := hchecks
    have hmark : (if p then some value.toNat else none).getD 0 ≤ Config.clockMax := by
      cases p
      · exact Nat.zero_le _
      · exact hvalue.resolve_left (by decide)
    obtain ⟨hgame, hshot, hhorn, h0, h1⟩ := h
    split
    · exact ⟨hgame, hshot, hhorn, hmark, h1⟩
    · exact ⟨hgame, hshot, hhorn, h0, hmark⟩

theorem ruleSetShotClock_sound (preset : Word) (follow startOnGame shotHorn : Byte) {s : State} (h : s.clock.Sound) :
    (ruleSetShotClock preset follow startOnGame shotHorn s).1.clock.Sound := by
  unfold ruleSetShotClock
  split
  · refine checked_fst (I := fun u => u.clock.Sound) h fun hchecks => ?_
    simp only [List.forall_mem_cons, Bool.or_eq_false_iff, decide_eq_false_iff_not, Nat.not_lt] at hchecks
    obtain ⟨⟨hlow, hhigh⟩, -⟩ := hchecks
    obtain ⟨-, -, hmax, hpos, hend⟩ := h.2.1
    exact h.setShot ⟨hlow, hhigh, hmax, hpos, hend⟩
  · exact h

theorem badHornTime_eq_false {v : Half} (h : badHornTime v = false) : 100 ≤ v.toNat ∧ v.toNat ≤ 5000 := by
  simpa only [badHornTime, Bool.or_eq_false_iff, decide_eq_false_iff_not, Nat.not_lt] using h

theorem ruleSetHorn_sound (periodTime shotTime : Half) (endHorn : Byte) {s : State} (h : s.clock.Sound) :
    (ruleSetHorn periodTime shotTime endHorn s).1.clock.Sound := by
  unfold ruleSetHorn
  split
  · exact h
  · refine checked_fst (I := fun u => u.clock.Sound) h fun hchecks => ?_
    simp only [List.forall_mem_cons, Bool.or_eq_false_iff] at hchecks
    obtain ⟨⟨hperiod, hshottime⟩, -⟩ := hchecks
    obtain ⟨hp, hp'⟩ := badHornTime_eq_false hperiod
    obtain ⟨hs, hs'⟩ := badHornTime_eq_false hshottime
    obtain ⟨hgame, hshot, ⟨-, -, -, -, htimer⟩, hmarks⟩ := h
    exact ⟨hgame, hshot, ⟨hp, hp', hs, hs', htimer⟩, hmarks⟩

theorem ruleSoundHorn_sound (duration : Half) {s : State} (h : s.clock.Sound) : (ruleSoundHorn duration s).1.clock.Sound := by
  refine checked_fst (I := fun u => u.clock.Sound) h fun hchecks => ?_
  exact h.hornEvent (badHornTime_eq_false (hchecks _ (List.mem_singleton_self _))).2

theorem clockRules_sound (i : Instr) (s : State) (ho : commandOwner i = .clockUnit) (h : s.clock.Sound) :
    (commandRule i).elim True fun r => (r s).1.clock.Sound := by
  cases i
  case setGameClock => exact ruleSetGameClock_sound _ _ _ _ h
  case startClock => exact startClock_sound h
  case stopClock => exact stopClock_sound h
  case adjustClock => exact ruleAdjustClock_sound _ h
  case setMark => exact ruleSetMark_sound _ _ _ _ h
  case setShotClock => exact ruleSetShotClock_sound _ _ _ _ h
  case shotReset => exact shotReset_sound h
  case shotStart => exact shotStart_sound h
  case shotStop => exact shotStop_sound h
  case shotBlank => exact h.setShotState (.inl rfl)
  case setHorn => exact ruleSetHorn_sound _ _ _ h
  case soundHorn => exact ruleSoundHorn_sound _ h
  all_goals cases ho

theorem clockUnit_reset_sound : ClockUnit.reset.Sound := by
  refine ⟨⟨by decide, by decide, by decide, by decide, by decide⟩, ⟨by decide, by decide, by decide, by decide, by decide⟩,
    ⟨by decide, by decide, by decide, by decide, by decide⟩, by decide, by decide⟩

theorem kept_clocksSound : Kept ClocksSound where
  powerOn _ _ := clockUnit_reset_sound
  resetLine s _ _ := by
    rw [resetLineLow_frame]
    exact clockUnit_reset_sound
  tick t _ h := millisecondTick_sound t h
  clockRules := clockRules_sound

end Sys2Proof.Machine
end

section
/-! PROOFS. The score record and the flash stay in their ranges (R100, R103, R104), and at most 1,024 records stand unreleased (R140,
R142, R143). -/

namespace Sys2Proof.Machine

/-! ### The score (R100) -/

theorem clampField_le (f : Fin 10) (v : Int) : clampField f v ≤ fieldMax f := by
  rw [clampField]
  omega

/-- The score unit's fields, flash length and counters lie in their ranges: what `ScoresInRange` says of a state, said of the unit. -/
def ScoreUnit.InRange (u : ScoreUnit) : Prop :=
  (∀ f : Fin 10, u.fields[f] ≤ fieldMax f) ∧ u.flashLength ≤ 255 ∧ u.homeFlash ≤ 255 ∧ u.guestFlash ≤ 255

theorem ScoreUnit.InRange.setField {u : ScoreUnit} (h : u.InRange) (f : Fin 10) {v : Nat} (hv : v ≤ fieldMax f) :
    ScoreUnit.InRange { u with fields := u.fields.set f.val v f.isLt } := by
  refine ⟨fun g => ?_, h.2⟩
  by_cases hg : f = g
  · subst hg
    simpa using hv
  · have hne : f.val ≠ g.val := fun e => hg (Fin.ext e)
    simpa [Vector.getElem_set_ne, hne] using h.1 g

theorem ScoreUnit.InRange.startFlash {u : ScoreUnit} (h : u.InRange) (f : Fin 10) : (u.startFlash f).InRange := by
  obtain ⟨hfields, hlength, hhome, hguest⟩ := h
  unfold ScoreUnit.startFlash
  split
  · exact ⟨hfields, hlength, hlength, hguest⟩
  · split
    · exact ⟨hfields, hlength, hhome, hlength⟩
    · exact ⟨hfields, hlength, hhome, hguest⟩

theorem ScoreUnit.InRange.flashFall {u : ScoreUnit} (h : u.InRange) : u.flashFall.InRange := by
  obtain ⟨hfields, hlength, hhome, hguest⟩ := h
  exact ⟨hfields, hlength, Nat.le_trans (Nat.sub_le ..) hhome, Nat.le_trans (Nat.sub_le ..) hguest⟩

theorem storeScore_inRange {f : Fin 10} {v : Nat} {s : State} (h : s.score.InRange) (hv : v ≤ fieldMax f) :
    (storeScore f v s).score.InRange := by
  have hset := h.setField f hv
  obtain hplain | ⟨-, hfall⟩ | ⟨-, hrise⟩ := storeScore_cases f v s
  · rw [hplain]
    exact hset
  · rw [hfall, fireCapture_score]
    exact hset
  · rw [hrise, scoreRise_score, fireCapture_score]
    exact hset.startFlash f

theorem ruleSetScore_inRange (field : Byte) (value : Word) {s : State} (h : s.score.InRange) :
    (ruleSetScore field value s).1.score.InRange := by
  unfold ruleSetScore
  split
  · exact storeScore_inRange h (clampField_le ..)
  · exact h

theorem ruleAddScore_inRange (field : Byte) (delta : Word) {s : State} (h : s.score.InRange) :
    (ruleAddScore field delta s).1.score.InRange := by
  unfold ruleAddScore
  split
  · split
    · exact h
    · split
      · exact h
      · exact storeScore_inRange h (clampField_le ..)
  · exact h

theorem ruleSetFlash_inRange (frames : Half) {s : State} (h : s.score.InRange) : (ruleSetFlash frames s).1.score.InRange := by
  refine checked_fst (I := fun u => u.score.InRange) h fun hchecks => ?_
  have hlength := hchecks _ (List.mem_singleton_self _)
  rw [decide_eq_false_iff_not, Nat.not_lt] at hlength
  exact ⟨h.1, hlength, h.2.2⟩

theorem scoreRules_inRange (i : Instr) (s : State) (ho : commandOwner i = .scoreUnit) (h : s.score.InRange) :
    (commandRule i).elim True fun r => (r s).1.score.InRange := by
  cases i
  case setScore => exact ruleSetScore_inRange _ _ h
  case addScore => exact ruleAddScore_inRange _ _ h
  case setFlash => exact ruleSetFlash_inRange _ h
  all_goals cases ho

theorem scoreUnit_reset_inRange : ScoreUnit.reset.InRange := by
  refine ⟨fun f => ?_, by decide, by decide, by decide⟩
  simp [ScoreUnit.reset]

theorem kept_scoresInRange : Kept ScoresInRange where
  powerOn _ _ := scoreUnit_reset_inRange
  resetLine s _ _ := by
    rw [resetLineLow_frame]
    exact scoreUnit_reset_inRange
  frameEnd r s _ h := by
    obtain ⟨_, _, _, _, _, _, _, _, e⟩ := frameEnd_frame r s
    rw [e]
    exact ScoreUnit.InRange.flashFall h
  scoreRules := scoreRules_inRange

/-! ### What the rotation unit's frame work and a RESTART keep, if every record offered keeps it -/

/-- A property of states that neither spots, zones nor flags bear on, and that a record offered to the log keeps. -/
structure KeptByRecords (I : State → Prop) : Prop where
  rotation : ∀ s t, RotationFrame s t → I s → I t
  flag : ∀ c f s, I s → I (s.raiseIf c f)
  record : ∀ z reason saturated h s, I s → I (offerRecord z reason saturated h s)

section
variable {I : State → Prop} (K : KeptByRecords I)
include K

theorem KeptByRecords.endShowing (z : ZoneIx) (reason : ShowingEnd) {s : State} (h : I s) : I (endShowing z reason s) := by
  unfold Machine.endShowing
  split
  · exact h
  · exact K.rotation _ _ ⟨_, rfl⟩ (K.record _ _ _ _ _ h)

theorem KeptByRecords.endIf (z : ZoneIx) (reason : Option ShowingEnd) {s : State} (h : I s) : I (endIf z reason s) := by
  cases reason with
  | none => exact h
  | some r => exact K.endShowing z r h

theorem KeptByRecords.accountFrame (z : ZoneIx) (x : Showing) (p : Spot) {s : State} (h : I s) : I (accountFrame z x p s) := by
  unfold Machine.accountFrame
  dsimp only
  split
  · exact K.flag _ _ _ (K.flag _ _ _ (K.rotation _ _ ⟨_, rfl⟩ h))
  · exact K.rotation _ _ ⟨_, rfl⟩ h

theorem KeptByRecords.accountZone (z : ZoneIx) {s : State} (h : I s) : I (accountZone z s).1 := by
  unfold Machine.accountZone
  split
  · exact h
  · split
    · exact h
    · exact K.endIf _ _ (K.accountFrame _ _ _ h)

theorem KeptByRecords.planStage (z : ZoneIx) {s : State} (h : I s) : I (planStage z s) := by
  have hend : I (if planEnds s.composer.record.zones[z] then Machine.endShowing z .planChange s else s) := by
    split
    · exact K.endShowing z _ h
    · exact h
  unfold Machine.planStage
  dsimp only
  split
  · exact K.rotation _ _ ⟨_, rfl⟩ hend
  · exact hend

theorem KeptByRecords.endingStage (z : ZoneIx) {s : State} (h : I s) : I (endingStage z s).1 := by
  have hplan := K.planStage z h
  rw [endingStage_eq]
  split
  · exact K.rotation _ _ ⟨_, rfl⟩ (K.endShowing z _ hplan)
  · split
    · exact hplan
    · exact K.accountZone z hplan

theorem KeptByRecords.endingStages : ∀ (l : List ZoneIx) {s : State}, I s → I (endingStages l s).1
  | [], _, h => h
  | z :: rest, _, h => KeptByRecords.endingStages rest (K.endingStage z h)

theorem KeptByRecords.rotationFrameWork {s : State} (h : I s) : I (rotationFrameWork s).1 := by
  have hselect := selectionStages_rotationFrame allZones (Machine.endingStages allZones s).1
  rw [rotationFrameWork_fst]
  exact K.rotation _ _ hselect (K.endingStages allZones h)

theorem KeptByRecords.endAllShowings : ∀ (l : List ZoneIx) {s : State}, I s → I (endAllShowings l s)
  | [], _, h => h
  | z :: rest, _, h => KeptByRecords.endAllShowings rest (K.endShowing z .restart h)

theorem KeptByRecords.restartRotation {s : State} (h : I s) : I (restartRotation s) :=
  K.rotation (Machine.endAllShowings allZones s) _ ⟨_, rfl⟩ (K.endAllShowings allZones h)

/-- A RESTART, if the composer, the roller, the ticker and the causes do not bear on the property. -/
theorem KeptByRecords.restart
    (hclear : ∀ s c o k g, I s → I { s with composer := c, roller := o, ticker := k, command := { s.command with causes := g } })
    {s : State} (h : I s) : I (ruleRestart s).1 := by
  have hrotation := K.restartRotation h
  rw [ruleRestart_fst]
  exact hclear _ _ _ _ _ hrotation

/-- A FRAME_END, if the other sources' frame work does not bear on the property. -/
theorem KeptByRecords.frameEnd (hreplay : ∀ s t, ReplayFrame s t → I s → I t) (hticker : ∀ s t, TickerFrame s t → I s → I t)
    (hclose : ∀ s, I s → I (closeScan s)) (r : Bool) {s : State} (h : I s) : I (frameEnd r s).1 := by
  have hrotation := K.rotationFrameWork (hreplay _ _ (replayFrameWork_replayFrame r s) h)
  have hticker' := hticker _ _ (tickerFrameWork_tickerFrame _) hrotation
  rw [frameEnd_fst]
  exact hclose _ hticker'

end

/-! ### The log counters (R140, R142, R143) -/

theorem ExposureCounter.unreleased_next {e : ExposureCounter} (h : e.unreleased < Config.logRecords) :
    ExposureCounter.unreleased { e with nextRecord := e.nextRecord + 1 } = e.unreleased + 1 := by
  simp only [ExposureCounter.unreleased, Config.logRecords] at h ⊢
  bv_omega

/-- A watched write that is taken leaves no more records unreleased than there were. -/
theorem ExposureCounter.unreleased_read {e : ExposureCounter} {v : Word} (h : (v - e.readMark).toNat ≤ e.unreleased) :
    ExposureCounter.unreleased { e with readMark := v } ≤ e.unreleased := by
  simp only [ExposureCounter.unreleased] at h ⊢
  bv_omega

theorem offerRecord_logBounded (z : ZoneIx) (reason : ShowingEnd) (saturated : Bool) (x : Showing) (s : State) (h : LogBounded s) :
    LogBounded (offerRecord z reason saturated x s) := by
  unfold offerRecord
  split
  · next hroom =>
    refine ⟨?_, h.2⟩
    exact (ExposureCounter.unreleased_next hroom).trans_le hroom
  · exact ⟨h.1, Nat.min_le_left ..⟩

theorem keptByRecords_logBounded : KeptByRecords LogBounded where
  rotation := by
    rintro s _ ⟨_, rfl⟩ h
    exact h
  flag c f s h := by
    obtain ⟨_, e⟩ := State.raiseIf_frame c f s
    rw [e]
    exact h
  record := offerRecord_logBounded

theorem watchedWrite_logBounded (v : Word) (s : State) (h : LogBounded s) : LogBounded (watchedWrite v s) := by
  unfold watchedWrite
  split
  · next hle => exact ⟨(ExposureCounter.unreleased_read hle).trans h.1, h.2⟩
  · exact h

theorem exposureCounter_reset_bounded :
    ExposureCounter.reset.unreleased ≤ Config.logRecords ∧ ExposureCounter.reset.missed ≤ 65535 := by decide

theorem kept_logBounded : Kept LogBounded where
  powerOn _ _ := exposureCounter_reset_bounded
  resetLine s _ _ := by
    rw [resetLineLow_frame]
    exact exposureCounter_reset_bounded
  frameEnd r s _ h := by
    refine keptByRecords_logBounded.frameEnd ?_ ?_ (fun _ h => h) r h
    · rintro s _ ⟨_, _, _, rfl⟩ h
      exact h
    · rintro s _ ⟨_, _, rfl⟩ h
      exact h
  watched := watchedWrite_logBounded
  restart i s ho h := by
    cases i
    case restart => exact keptByRecords_logBounded.restart (fun _ _ _ _ _ h => h) h
    all_goals cases ho

/-- Settles O56, from what the clock unit's tick and commands, the score unit's stores and the log's records keep. -/
theorem stepKeepsUnitRanges : Obligations.StepKeepsUnitRanges := by
  unfold Obligations.StepKeepsUnitRanges
  refine ⟨fun s t h ht => ?_, fun s t hscore hlog ht => ⟨?_, ?_⟩⟩
  · exact kept_clocksSound.step (fun _ _ h => h) h ht
  · exact kept_scoresInRange.step (fun _ _ h => h) hscore ht
  · exact kept_logBounded.step (fun _ _ h => h) hlog ht

end Sys2Proof.Machine
end

section
/-! PROOFS. The ticker's entries: what each operation does to the entries held and to the free chunks, and that the text pool stays
balanced (R147, R149, R150, R155). -/

namespace Sys2Proof.Machine

/-! ### The entries held, waiting and showing together -/

/-- The entries held: the waiting ones and the showing one (R147). -/
def TickerUnit.entries (t : TickerUnit) : List TickerEntry := t.waiting ++ (t.showing.map ShowingEntry.entry).toList

/-- Entries with distinct tags, their chunks and the free ones 128 together, and no more than 32 of them. -/
def PoolOf (entries : List TickerEntry) (free : Nat) : Prop :=
  (entries.map TickerEntry.tag).Nodup ∧ (entries.map TickerEntry.chunks).sum + free = Config.poolChunks ∧
  entries.length ≤ Config.messagePlaces

theorem TickerUnit.tags_eq (t : TickerUnit) : t.tags = t.entries.map TickerEntry.tag := by
  rw [TickerUnit.tags, TickerUnit.entries, List.map_append]
  cases t.showing <;> rfl

theorem TickerUnit.heldChunks_eq (t : TickerUnit) : t.heldChunks = (t.entries.map TickerEntry.chunks).sum := by
  rw [TickerUnit.heldChunks, TickerUnit.entries, List.map_append, List.sum_append]
  cases t.showing <;> simp

theorem TickerUnit.heldCount_eq (t : TickerUnit) : t.heldCount = t.entries.length := by
  rw [TickerUnit.heldCount, TickerUnit.entries, List.length_append]
  cases t.showing <;> rfl

/-- The pool is balanced exactly if the entries held and the free chunks are. -/
theorem poolBalanced_iff (s : State) : PoolBalanced s ↔ PoolOf s.ticker.entries s.ticker.freeChunks := by
  rw [PoolBalanced, TickerUnit.tags_eq, TickerUnit.heldChunks_eq, TickerUnit.heldCount_eq, PoolOf]

theorem PoolOf.perm {l m : List TickerEntry} {free : Nat} (h : PoolOf l free) (hperm : l.Perm m) : PoolOf m free := by
  obtain ⟨htags, hchunks, hcount⟩ := h
  refine ⟨(hperm.map _).nodup_iff.mp htags, ?_, hperm.length_eq ▸ hcount⟩
  rw [← (hperm.map TickerEntry.chunks).sum_eq]
  exact hchunks

/-- Entries with the same tags and chunks are as good. -/
theorem PoolOf.congr {l m : List TickerEntry} {free : Nat} (h : PoolOf l free)
    (htag : l.map TickerEntry.tag = m.map TickerEntry.tag) (hchunks : l.map TickerEntry.chunks = m.map TickerEntry.chunks) :
    PoolOf m free := by
  obtain ⟨h1, h2, h3⟩ := h
  refine ⟨htag ▸ h1, hchunks ▸ h2, ?_⟩
  have hlen := congrArg List.length htag
  simp only [List.length_map] at hlen
  omega

/-- Removed entries give their chunks back (R155). -/
theorem PoolOf.remove {l m : List TickerEntry} {free : Nat} (h : PoolOf (l ++ m) free) :
    PoolOf m (free + (l.map TickerEntry.chunks).sum) := by
  obtain ⟨htags, hchunks, hcount⟩ := h
  rw [List.map_append] at htags hchunks
  rw [List.sum_append] at hchunks
  rw [List.length_append] at hcount
  exact ⟨htags.of_append_right, by omega, by omega⟩

/-- A new entry with a new tag, a place and enough free chunks is taken in (R151). -/
theorem PoolOf.add {l : List TickerEntry} {free : Nat} {e : TickerEntry} (h : PoolOf l free) (htag : e.tag ∉ l.map TickerEntry.tag)
    (hplace : l.length < Config.messagePlaces) (hfree : e.chunks ≤ free) : PoolOf (e :: l) (free - e.chunks) := by
  obtain ⟨htags, hchunks, -⟩ := h
  refine ⟨List.nodup_cons.mpr ⟨htag, htags⟩, ?_, hplace⟩
  rw [List.map_cons, List.sum_cons]
  omega

/-! ### What the ticker's operations do to the entries -/

theorem insertWaiting_perm (next : Word) (e : TickerEntry) : ∀ l : List TickerEntry, (insertWaiting next e l).Perm (e :: l)
  | [] => .refl _
  | x :: rest => by
    unfold insertWaiting
    split
    · exact .refl _
    · exact ((insertWaiting_perm next e rest).cons x).trans (.swap e x rest)

theorem joinWaiting_waiting (e : TickerEntry) (t : TickerUnit) :
    (t.joinWaiting e).waiting = insertWaiting t.nextOrder { e with order := t.nextOrder } t.waiting := rfl

/-- An entry that joins the waiting list is held from then on, with the order number it takes. -/
theorem joinWaiting_entries (e : TickerEntry) (t : TickerUnit) :
    (t.joinWaiting e).entries.Perm ({ e with order := t.nextOrder } :: t.entries) :=
  (insertWaiting_perm _ _ _).append_right _

theorem PoolOf.join {e : TickerEntry} {t : TickerUnit} {free : Nat} (h : PoolOf (e :: t.entries) free) :
    PoolOf (t.joinWaiting e).entries free := by
  have horder : PoolOf ({ e with order := t.nextOrder } :: t.entries) free := h.congr rfl rfl
  exact horder.perm (joinWaiting_entries e t).symm

/-- What the removals of entries do to the ticker but for the last removed record: the chunks come back. -/
theorem noteRemovals_ticker (reason : RemovalReason) : ∀ (l : List TickerEntry) (s : State),
    ∃ x, (noteRemovals reason l s).ticker =
      { s.ticker with freeChunks := s.ticker.freeChunks + (l.map TickerEntry.chunks).sum, lastRemoved := x }
  | [], s => ⟨s.ticker.lastRemoved, rfl⟩
  | e :: rest, s => by
    obtain ⟨x, h⟩ := noteRemovals_ticker reason rest (noteRemoval e reason s)
    refine ⟨x, ?_⟩
    rw [noteRemovals, h, noteRemoval, State_raise_ticker, List.map_cons, List.sum_cons, Nat.add_assoc]

theorem poolBalanced_noteRemovals {l : List TickerEntry} {reason : RemovalReason} {s : State}
    (h : PoolOf (l ++ s.ticker.entries) s.ticker.freeChunks) : PoolBalanced (noteRemovals reason l s) := by
  obtain ⟨x, hticker⟩ := noteRemovals_ticker reason l s
  rw [poolBalanced_iff, hticker]
  exact h.remove

theorem removeWaiting_poolBalanced (test : TickerEntry → Bool) (reason : RemovalReason) {s : State} (h : PoolBalanced s) :
    PoolBalanced (removeWaiting test reason s) := by
  rw [poolBalanced_iff] at h
  refine poolBalanced_noteRemovals (h.perm ?_)
  rw [TickerUnit.entries, TickerUnit.entries, ← List.append_assoc]
  exact (List.filter_append_perm test s.ticker.waiting).symm.append_right _

/-- The showing entry with other fields than its tag and its text. -/
theorem setShowing_poolBalanced {x y : ShowingEntry} {s : State} (h : PoolBalanced s) (hx : s.ticker.showing = some x)
    (htag : y.entry.tag = x.entry.tag) (htext : y.entry.text = x.entry.text) : PoolBalanced (setShowing (some y) s) := by
  rw [poolBalanced_iff] at h ⊢
  refine h.congr ?_ ?_
  · simp [TickerUnit.entries, setShowing, hx, htag]
  · simp [TickerUnit.entries, setShowing, hx, TickerEntry.chunks, htext]

theorem entries_of_showing {t : TickerUnit} {x : ShowingEntry} (h : t.showing = some x) :
    t.entries.Perm (x.entry :: TickerUnit.entries { t with showing := none }) := by
  simp only [TickerUnit.entries, h, Option.map_some, Option.toList_some, Option.map_none, Option.toList_none, List.append_nil]
  exact List.perm_append_singleton _ _

theorem removeShowing_poolBalanced (reason : RemovalReason) {s : State} (h : PoolBalanced s) : PoolBalanced (removeShowing reason s) := by
  unfold removeShowing
  split
  · next x hx =>
    rw [poolBalanced_iff] at h
    exact poolBalanced_noteRemovals (l := [x.entry]) (s := setShowing none s) (h.perm (entries_of_showing hx))
  · exact h

theorem returnShowing_poolBalanced {x : ShowingEntry} {s : State} (h : PoolBalanced s) (hx : s.ticker.showing = some x) :
    PoolBalanced (returnShowing x s) := by
  rw [poolBalanced_iff] at h ⊢
  exact PoolOf.join (t := { s.ticker with showing := none }) (h.perm (entries_of_showing hx))

/-! ### The frame work (R156) -/

theorem tickerCancels_poolBalanced {s : State} (h : PoolBalanced s) : PoolBalanced (tickerCancels s) := by
  unfold tickerCancels
  split
  · split
    · exact removeShowing_poolBalanced _ h
    · exact h
  · exact h

theorem expireShowing_poolBalanced {s : State} (h : PoolBalanced s) : PoolBalanced (expireShowing s) := by
  unfold expireShowing
  split
  · next x hx =>
    have hmarked := fun b => setShowing_poolBalanced (y := { x with lastPass := b }) h hx rfl rfl
    dsimp only
    split
    · exact removeShowing_poolBalanced _ (hmarked _)
    · exact hmarked _
  · exact h

theorem passEnd_poolBalanced {x : ShowingEntry} (w : Nat) {s : State} (h : PoolBalanced s) (hx : s.ticker.showing = some x) :
    PoolBalanced (passEnd x w s) := by
  have hcounted := setShowing_poolBalanced (y := { x with entry := x.entry.passCounted }) h hx rfl rfl
  unfold passEnd
  dsimp only
  split
  · exact removeShowing_poolBalanced _ hcounted
  · split
    · exact removeShowing_poolBalanced _ hcounted
    · split
      · exact returnShowing_poolBalanced hcounted rfl
      · exact setShowing_poolBalanced hcounted rfl rfl rfl

theorem tickerAdvance_poolBalanced {s : State} (h : PoolBalanced s) : PoolBalanced (tickerAdvance s).1 := by
  unfold tickerAdvance
  split
  · next x _ hx _ =>
    have hmoved := setShowing_poolBalanced (y := { x with position := x.position - s.ticker.speed }) h hx rfl rfl
    split
    · dsimp only
      split
      · exact passEnd_poolBalanced _ hmoved rfl
      · exact hmoved
    · exact h
  · exact h

theorem tickerCuts_poolBalanced {s : State} (h : PoolBalanced s) : PoolBalanced (tickerCuts s) := by
  unfold tickerCuts
  split
  · next x hx =>
    split
    · exact returnShowing_poolBalanced h hx
    · exact h
  · exact h

theorem tickerTaking_poolBalanced {s : State} (h : PoolBalanced s) : PoolBalanced (tickerTaking s) := by
  unfold tickerTaking
  split
  · next hnone _ =>
    split
    · next e he =>
      rw [poolBalanced_iff] at h ⊢
      refine h.perm ?_
      simp only [TickerUnit.entries, hnone, Option.map_none, Option.toList_none, List.append_nil, Option.map_some, Option.toList_some]
      exact (List.perm_cons_erase (List.mem_of_find?_eq_some he)).trans (List.perm_append_singleton _ _).symm
    · exact h
  · exact h

theorem tickerFrameWork_poolBalanced {s : State} (h : PoolBalanced s) : PoolBalanced (tickerFrameWork s).1 := by
  have hcancels := tickerCancels_poolBalanced h
  have hexpiry := expireShowing_poolBalanced (removeWaiting_poolBalanced
    (fun e => e.expired (tickerCancels s).clock.venue) .expired hcancels)
  exact tickerTaking_poolBalanced (tickerCuts_poolBalanced (tickerAdvance_poolBalanced hexpiry))

/-! ### The commands (R151-R154) -/

theorem payloadTake_length : ∀ (l : List Byte) (n : Nat), (payloadTake l n).length = n
  | _, 0 => by simp [payloadTake]
  | [], n + 1 => by simp [payloadTake, payloadTake_length [] n]
  | _ :: rest, n + 1 => by simp [payloadTake, payloadTake_length rest n]

theorem postedEntry_chunks (venue : Word) (p : MessagePayload) (only : Bool) :
    (postedEntry venue p only).chunks = chunksFor p.length.toNat := by
  rw [TickerEntry.chunks, postedEntry, payloadTake_length]

theorem holdsTag_iff (t : TickerUnit) (tag : Nat) : t.holdsTag tag = true ↔ tag ∈ t.entries.map TickerEntry.tag := by
  cases hshow : t.showing with
  | none => simp [TickerUnit.holdsTag, TickerUnit.showsTag, TickerUnit.entries, hshow]
  | some x => simp [TickerUnit.holdsTag, TickerUnit.showsTag, TickerUnit.entries, hshow, @eq_comm _ tag]

theorem rulePostMessage_poolBalanced (p : MessagePayload) {s : State} (h : PoolBalanced s) :
    PoolBalanced (rulePostMessage p s).1 := by
  unfold rulePostMessage
  split
  · exact h
  · next only _ =>
    split
    · exact h
    · split
      · exact h
      · next htag =>
        split
        · exact h
        · next hplace =>
          split
          · exact h
          · next hfree =>
            rw [holdsTag_iff] at htag
            rw [TickerUnit.heldCount_eq, Nat.not_le] at hplace
            rw [Nat.not_lt, ← postedEntry_chunks s.clock.venue p only] at hfree
            rw [poolBalanced_iff] at h ⊢
            have hadd := PoolOf.add (e := postedEntry s.clock.venue p only) h htag hplace hfree
            rw [postedEntry_chunks] at hadd
            exact PoolOf.join (t := { s.ticker with freeChunks := s.ticker.freeChunks - chunksFor p.length.toNat }) hadd

theorem ruleCancelMessage_poolBalanced (tag : Half) {s : State} (h : PoolBalanced s) : PoolBalanced (ruleCancelMessage tag s).1 := by
  unfold ruleCancelMessage
  split
  · exact h
  · split
    · exact removeWaiting_poolBalanced _ _ h
    · split
      · next x hx =>
        split
        · exact setShowing_poolBalanced h hx rfl rfl
        · exact h
      · exact h

theorem ruleClearMessages_poolBalanced {s : State} (h : PoolBalanced s) : PoolBalanced (ruleClearMessages s).1 := by
  have hcleared := removeWaiting_poolBalanced (fun _ => true) .cleared h
  unfold ruleClearMessages
  dsimp only
  cases hx : (removeWaiting (fun _ => true) .cleared s).ticker.showing with
  | none =>
    rw [Option.map_none, setShowing, ← hx]
    exact hcleared
  | some x => exact setShowing_poolBalanced hcleared hx rfl rfl

theorem ruleSetTicker_poolBalanced (speed : Byte) (gap : Half) {s : State} (h : PoolBalanced s) :
    PoolBalanced (ruleSetTicker speed gap s).1 :=
  checked_fst h fun _ => h

theorem tickerRules_poolBalanced (i : Instr) (s : State) (ho : commandOwner i = .tickerUnit) (h : PoolBalanced s) :
    (commandRule i).elim True fun r => PoolBalanced (r s).1 := by
  cases i
  case postMessage => exact rulePostMessage_poolBalanced _ h
  case cancelMessage => exact ruleCancelMessage_poolBalanced _ h
  case clearMessages => exact ruleClearMessages_poolBalanced h
  case setTicker => exact ruleSetTicker_poolBalanced _ _ h
  all_goals cases ho

/-! ### The invariant -/

theorem tickerUnit_reset_pool : PoolOf TickerUnit.reset.entries TickerUnit.reset.freeChunks :=
  ⟨List.nodup_nil, rfl, Nat.zero_le _⟩

theorem kept_poolBalanced : Kept PoolBalanced where
  powerOn _ _ := (poolBalanced_iff _).mpr tickerUnit_reset_pool
  resetLine s _ _ := by
    rw [resetLineLow_frame]
    exact (poolBalanced_iff _).mpr tickerUnit_reset_pool
  frameEnd r s _ h := by
    obtain ⟨_, _, _, hreplay⟩ := replayFrameWork_replayFrame r s
    obtain ⟨_, _, _, _, _, hrotation⟩ := rotationFrameWork_showingFrame (replayFrameWork r s)
    have hbefore : PoolBalanced (rotationFrameWork (replayFrameWork r s)).1 := by
      rw [hrotation, hreplay]
      exact h
    have hafter := tickerFrameWork_poolBalanced hbefore
    rw [frameEnd_fst, sourcesWork]
    generalize (tickerFrameWork (rotationFrameWork (replayFrameWork r s)).1).1 = u at hafter ⊢
    exact hafter
  restart i s ho h := by
    cases i
    case restart =>
      change PoolBalanced (ruleRestart s).1
      rw [poolBalanced_iff, ruleRestart_fst]
      exact ⟨List.nodup_nil, rfl, Nat.zero_le _⟩
    all_goals cases ho
  tickerRules := tickerRules_poolBalanced

/-- Settles O57: every operation on the ticker keeps the entries' tags distinct and their chunks and the free ones 128 together. -/
theorem stepKeepsPoolBalanced : Obligations.StepKeepsPoolBalanced := by
  unfold Obligations.StepKeepsPoolBalanced
  exact fun s t h ht => kept_poolBalanced.step (fun _ _ h => h) h ht

end Sys2Proof.Machine
end

section
/-! PROOFS. The byte stores stay canonical, the part write queue sound (R171), and a granted WRITE's bytes in memory until it is served
(R166, R169). -/

namespace Sys2Proof.Machine

/-! ### The byte stores -/

theorem rowEffect_shadow_wf (row : BeatRow) (a : Nat) (d : Beat) (k : Byte) (t : HostTransaction) {s : State}
    (h : s.command.shadow.wf (some 0) = true) : (rowEffect row a d k t s).1.command.shadow.wf (some 0) = true := by
  cases row with
  | ring o => exact shadowBeat_wf o d k beatPositions s h
  | steeredTo slot o =>
    unfold rowEffect remapBeat
    dsimp only
    split
    · exact h
    · exact h
  | status => exact h
  | readWord => exact h
  | log => exact h
  | control => exact h
  | blocked => exact h
  | pinned => exact h
  | onAirArt => exact h
  | ordinary => exact h

theorem writeBeat_canonical (d : Beat) (k : Byte) (t : HostTransaction) {s : State} (h : MemoryCanonical s) :
    MemoryCanonical (writeBeat d k t s) := by
  obtain ⟨hmem, hshadow⟩ := h
  refine ⟨?_, ?_⟩
  · obtain ⟨_, _, _, _, e⟩ := writeBeat_frame d k t s
    rw [e]
    exact hmem
  · unfold writeBeat
    dsimp only
    split
    · exact hshadow
    · rw [setTransaction_command]
      exact rowEffect_shadow_wf _ _ _ _ _ hshadow

theorem finishAccess_mem_wf {s : State} (h : s.mem.wf none = true) : (finishAccess s).mem.wf none = true := by
  obtain ⟨-, e⟩ | ⟨-, e⟩ | ⟨p, a, -, e⟩ | ⟨w, -, e⟩ | ⟨-, e⟩ | ⟨-, e⟩ := finishAccess_cases s <;> rw [e]
  · exact h
  · exact h
  · unfold fetchDone
    split
    · exact h
    · exact h
  · have hland := landWrite_wf w s h
    rwa [clearAccess_mem]
  · obtain ⟨_, e'⟩ := servePlayout_portFrame s
    rw [e']
    exact h
  · exact h

theorem raiseIf_mem (c : Bool) (f : Flag) (s : State) : (s.raiseIf c f).mem = s.mem := by
  obtain ⟨_, e⟩ := State.raiseIf_frame c f s
  rw [e]

theorem retestBeats_mem (t : HostTransaction) (s : State) : (retestBeats t s).mem = s.mem := by
  rw [retestBeats, setTransaction_mem, raiseIf_mem]

theorem grantPlayout_mem_wf {s : State} (h : s.mem.wf none = true) : (grantPlayout s).mem.wf none = true := by
  unfold grantPlayout
  split
  · next t _ =>
    have hretest : (retestBeats t s).mem.wf none = true := by rwa [retestBeats_mem]
    dsimp only
    split
    · exact putBeats_wf _ _ hretest
    · exact hretest
  · exact h

theorem beginGrant_mem_wf (first : WriterBlock) (g : Grant) {s : State} (h : s.mem.wf none = true) :
    (beginGrant first g s).mem.wf none = true := by
  cases g with
  | refresh => exact h
  | scan p a => exact h
  | queue =>
    unfold beginGrant grantQueue
    dsimp only
    split
    · exact h
    · exact h
  | playout => exact grantPlayout_mem_wf h
  | startUp => exact h

theorem accessEnd_mem_wf (i : ChoiceInput) (first : WriterBlock) {s : State} (h : s.mem.wf none = true) :
    (accessEnd i first s).mem.wf none = true := by
  have hfinish : (sendBlocks i.sent (finishAccess s)).mem.wf none = true := finishAccess_mem_wf h
  obtain e | ⟨g, -, e⟩ := grantNext_cases i first (sendBlocks i.sent (finishAccess s))
  · rw [accessEnd, e]
    exact hfinish
  · rw [accessEnd, e]
    exact beginGrant_mem_wf first g hfinish

theorem settleAccess_mem_wf {s : State} (h : s.mem.wf none = true) : (settleAccess s).mem.wf none = true := by
  unfold settleAccess
  split
  · exact h
  · exact h
  · exact h
  · exact landWrite_wf _ s h
  · exact h
  · exact h

theorem kept_memoryCanonical : Kept MemoryCanonical where
  powerOn _ _ := ⟨rfl, rfl⟩
  resetLine s _ h := by
    rw [resetLineLow_frame]
    exact ⟨settleAccess_mem_wf h.1, rfl⟩
  beat d k x s _ _ h := writeBeat_canonical d k x h
  access i first s _ h := by
    obtain ⟨_, _, _, _, _, _, e⟩ := accessEnd_accessFrame i first s
    refine ⟨accessEnd_mem_wf i first h.1, ?_⟩
    rw [e]
    exact h.2

/-! ### The part write queue (R171) -/

/-- At most 64 entries in the queue, and every write in it or waiting for it fits: what `QueueSound` says of a state, said of the memory
controller. -/
def MemoryController.Sound (m : MemoryController) : Prop :=
  m.queue.length ≤ Config.queueCapacity ∧ (∀ w ∈ m.queue, w.Fits) ∧ (∀ r ∈ m.waitCommand, r.write.Fits) ∧ ∀ w ∈ m.waitExposure, w.Fits

theorem forall_mem_append_singleton {α : Type} {P : α → Prop} {l : List α} {a : α} (h : ∀ x ∈ l, P x) (ha : P a) :
    ∀ x ∈ l ++ [a], P x := by
  intro x hx
  obtain hx | hx := List.mem_append.mp hx
  · exact h x hx
  · exact List.mem_singleton.mp hx ▸ ha

theorem MemoryController.Sound.enqueue {m : MemoryController} (h : m.Sound) {w : PartWrite} (hw : w.Fits)
    (hroom : m.queue.length < Config.queueCapacity) : MemoryController.Sound { m with queue := m.queue ++ [w] } := by
  refine ⟨?_, forall_mem_append_singleton h.2.1 hw, h.2.2⟩
  rw [List.length_append]
  exact hroom

theorem MemoryController.Sound.offerCommand {m : MemoryController} (h : m.Sound) {w : PartWrite} (hw : w.Fits) (behind : Nat) :
    (m.offerCommand w behind).Sound := by
  obtain ⟨-, -, hroom, e⟩ | e := offerCommand_cases w behind m
  · rw [e]
    exact h.enqueue hw hroom
  · rw [e]
    exact ⟨h.1, h.2.1, forall_mem_append_singleton h.2.2.1 hw, h.2.2.2⟩

theorem MemoryController.Sound.offerExposure {m : MemoryController} (h : m.Sound) {w : PartWrite} (hw : w.Fits) :
    (m.offerExposure w).Sound := by
  obtain ⟨-, hroom, e⟩ | e := offerExposure_cases w m
  · rw [e]
    exact h.enqueue hw hroom
  · rw [e]
    exact ⟨h.1, h.2.1, h.2.2.1, forall_mem_append_singleton h.2.2.2 hw⟩

theorem MemoryController.Sound.offerAll {l : List PartWrite} {m : MemoryController} (h : m.Sound) (hl : ∀ w ∈ l, w.Fits) :
    (offerAll l m).Sound := by
  induction l generalizing m with
  | nil => exact h
  | cons w rest ih =>
    obtain ⟨hw, hrest⟩ := List.forall_mem_cons.mp hl
    exact ih (h.offerCommand hw 0) hrest

theorem MemoryController.Sound.join {m : MemoryController} (h : m.Sound) (first : WriterBlock) : (m.join first).Sound := by
  obtain ⟨hlen, hqueue, hcommand, hexposure⟩ := h
  obtain e | ⟨hroom, w, rest, hw, e⟩ | ⟨hroom, r, rest, hr, -, e⟩ := join_cases first m
  · rw [e]
    exact ⟨hlen, hqueue, hcommand, hexposure⟩
  · rw [hw, List.forall_mem_cons] at hexposure
    rw [e]
    refine ⟨?_, forall_mem_append_singleton hqueue hexposure.1, fun r hr => ?_, hexposure.2⟩
    · rw [List.length_append]
      exact hroom
    · obtain ⟨q, hq, rfl⟩ := List.mem_map.mp hr
      exact hcommand q hq
  · rw [hr, List.forall_mem_cons] at hcommand
    rw [e]
    refine ⟨?_, forall_mem_append_singleton hqueue hcommand.1, hcommand.2, hexposure⟩
    rw [List.length_append]
    exact hroom

/-- A write of 2 to 64 bytes that begins and ends within one 64-byte block of the control area fits. -/
theorem PartWrite.fits_of {w : PartWrite} {b : Nat} (hb : b < 1024) (hlow : 64 * b ≤ w.offset) (h2 : 2 ≤ w.data.length)
    (hhigh : w.offset + w.data.length ≤ 64 * b + 64) : w.Fits := by
  refine ⟨h2, by omega, ?_, by omega⟩
  rw [Config.controlBytes]
  omega

theorem resultWrite_fits (slot : RingSlot) (r : Result) : (resultWrite slot r).Fits := by
  have hslot := slot.isLt
  have hlen : (resultWrite slot r).data.length = 4 := by simp [resultWrite]
  have hoffset : (resultWrite slot r).offset = 256 * slot.val + 4 := rfl
  exact PartWrite.fits_of (b := 4 * slot.val) (by omega) (by omega) (by omega) (by omega)

theorem proofRecord_length (number : Word) (z : ZoneIx) (reason : ShowingEnd) (saturated : Bool) (endVenue : Word) (h : Showing) :
    (proofRecord number z reason saturated endVenue h).length = 32 := by
  simp [proofRecord]

theorem recordWrite_fits (number : Word) {bytes : List Byte} (h : bytes.length = 32) : (recordWrite number bytes).Fits := by
  have hlen : (recordWrite number bytes).data.length = 32 := h
  have hoffset : (recordWrite number bytes).offset = 0x8000 + 32 * (number.toNat % Config.logRecords) := rfl
  rw [Config.logRecords] at hoffset
  exact PartWrite.fits_of (b := 512 + number.toNat % 1024 / 2) (by omega) (by omega) (by omega) (by omega)

theorem statusEntry_data_length (s : State) (o n : Nat) : (statusEntry (statusBytes s) o n).data.length = min n (1696 - o) := by
  simp [statusEntry, statusBytes_length]

theorem statusEntry_fits (s : State) {o n b : Nat} (h2 : 2 ≤ n) (hb : b < 64) (hlow : 64 * b ≤ o) (hhigh : o + n ≤ 64 * b + 64)
    (hend : o + n ≤ 1696) : (statusEntry (statusBytes s) o n).Fits := by
  have hlen := statusEntry_data_length s o n
  have hoffset : (statusEntry (statusBytes s) o n).offset = 0x4000 + o := rfl
  exact PartWrite.fits_of (b := 256 + b) (by omega) (by omega) (by omega) (by omega)

theorem tailEntry_fits (v : Nat) : PartWrite.Fits { offset := tailOffset, data := leBytes 4 v } := by
  have hlen : (leBytes 4 v).length = 4 := leBytes_length 4 v
  have hoffset : tailOffset = 0x4FFC := rfl
  refine PartWrite.fits_of (b := 319) (by omega) ?_ ?_ ?_ <;> dsimp only <;> omega

theorem statusEntries_fit (s : State) : ∀ w ∈ statusEntries s, w.Fits := by
  intro w hw
  simp only [statusEntries, List.mem_append, List.mem_cons, List.mem_map, List.mem_range, List.not_mem_nil, or_false] at hw
  obtain ((rfl | rfl) | ⟨i, hi, rfl⟩) | rfl | rfl := hw
  · exact statusEntry_fits s (b := 0) (by decide) (by decide) (by decide) (by decide) (by decide)
  · exact statusEntry_fits s (b := 0) (by decide) (by decide) (by decide) (by decide) (by decide)
  · exact statusEntry_fits s (b := i + 1) (by omega) (by omega) (by omega) (by omega) (by omega)
  · exact statusEntry_fits s (b := 26) (by decide) (by decide) (by decide) (by decide) (by decide)
  · exact tailEntry_fits _

theorem offerRecord_queueSound (z : ZoneIx) (reason : ShowingEnd) (saturated : Bool) (x : Showing) (s : State) (h : QueueSound s) :
    QueueSound (offerRecord z reason saturated x s) := by
  unfold offerRecord
  split
  · exact MemoryController.Sound.offerExposure h (recordWrite_fits _ (proofRecord_length ..))
  · exact h

theorem keptByRecords_queueSound : KeptByRecords QueueSound where
  rotation := by
    rintro s _ ⟨_, rfl⟩ h
    exact h
  flag c f s h := by
    obtain ⟨_, e⟩ := State.raiseIf_frame c f s
    rw [e]
    exact h
  record := offerRecord_queueSound

theorem frameStart_queueSound {s : State} (h : QueueSound s) : QueueSound (frameStart s) := by
  obtain ⟨_, e⟩ := composeFrame_frame s
  have hcompose : QueueSound (beginScan (composeFrame s)) := by
    rw [e]
    exact h
  unfold frameStart statusWriteBack
  split
  · exact hcompose
  · exact MemoryController.Sound.offerAll hcompose (statusEntries_fit _)

/-- The end of an access changes neither the queue nor what waits for it. -/
theorem finishAccess_queueSound {s : State} (h : QueueSound s) : QueueSound (finishAccess s) := by
  obtain ⟨-, e⟩ | ⟨-, e⟩ | ⟨p, a, -, e⟩ | ⟨w, -, e⟩ | ⟨-, e⟩ | ⟨-, e⟩ := finishAccess_cases s <;> rw [e]
  · exact h
  · exact h
  · unfold fetchDone
    split
    · exact h
    · exact h
  · obtain ⟨_, _, e'⟩ := landWrite_frame w s
    rw [e']
    exact h
  · obtain ⟨_, e'⟩ := servePlayout_portFrame s
    rw [e']
    exact h
  · exact h

theorem beginGrant_queueSound (first : WriterBlock) (g : Grant) {s : State} (h : QueueSound s) :
    QueueSound (beginGrant first g s) := by
  cases g with
  | refresh => exact h
  | scan p a => exact h
  | queue =>
    unfold beginGrant grantQueue
    dsimp only
    split
    · next w rest hqueue =>
      obtain ⟨hlen, hfits, hwaiting⟩ := h
      rw [hqueue] at hlen hfits
      refine MemoryController.Sound.join ?_ first
      exact ⟨Nat.le_of_succ_le hlen, fun v hv => hfits v (List.mem_cons_of_mem _ hv), hwaiting⟩
    · exact h
  | playout =>
    unfold beginGrant grantPlayout
    dsimp only
    split
    · next t _ =>
      obtain ⟨_, e⟩ := State.raiseIf_frame (t.forward.any (droppedAtGrant s)) .filteredWrite s
      have hretest : QueueSound (retestBeats t s) := by
        rw [retestBeats, e]
        exact h
      split
      · rw [putBeats_frame]
        exact hretest
      · exact hretest
    · exact h
  | startUp =>
    unfold beginGrant grantStartUp
    dsimp only
    split
    · exact h
    · exact h

theorem accessEnd_queueSound (i : ChoiceInput) (first : WriterBlock) {s : State} (h : QueueSound s) :
    QueueSound (accessEnd i first s) := by
  have hfinish : QueueSound (sendBlocks i.sent (finishAccess s)) := finishAccess_queueSound h
  obtain e | ⟨g, -, e⟩ := grantNext_cases i first (sendBlocks i.sent (finishAccess s))
  · rw [accessEnd, e]
    exact hfinish
  · rw [accessEnd, e]
    exact beginGrant_queueSound first g hfinish

theorem memoryController_empty_sound (n : Nat) (a : Option Access) (b : Bool) :
    MemoryController.Sound { MemoryController.reset with refreshDue := n, access := a, deadlineBegun := b } :=
  ⟨Nat.zero_le _, List.forall_mem_nil _, List.forall_mem_nil _, List.forall_mem_nil _⟩

theorem kept_queueSound : Kept QueueSound where
  powerOn _ _ := memoryController_empty_sound 0 none false
  resetLine s _ h := by
    rw [resetLineLow_frame]
    exact memoryController_empty_sound _ _ _
  frameEnd r s _ h := by
    refine keptByRecords_queueSound.frameEnd ?_ ?_ (fun _ h => h) r h
    · rintro s _ ⟨_, _, _, rfl⟩ h
      exact h
    · rintro s _ ⟨_, _, rfl⟩ h
      exact h
  frameStart s _ h := frameStart_queueSound h
  access i first s _ h := accessEnd_queueSound i first h
  join first s h := MemoryController.Sound.join h first
  deliver slot r s h := MemoryController.Sound.offerCommand h (resultWrite_fits slot r) _
  restart i s ho h := by
    cases i
    case restart => exact keptByRecords_queueSound.restart (fun _ _ _ _ _ h => h) h
    all_goals cases ho

/-! ### A granted WRITE in memory (R166, R169) -/

theorem GrantSound.access_ne {s : State} (h : GrantSound s) (hphase : s.phase ≠ .running) : s.memctl.access ≠ some .playout :=
  fun hacc => hphase (h.2 hacc).1

/-- With no host request being served, a state is sound if its WRITEs ask for memory only when their beats have come. -/
theorem grantSound_of_access_ne {s : State}
    (hpending : ∀ t ∈ s.port.transaction, t.request.isWrite = true → t.state.pending = true → t.beats = burstBeats t.request.length)
    (hacc : s.memctl.access ≠ some .playout) : GrantSound s :=
  ⟨hpending, fun h => absurd h hacc⟩

theorem settleAccess_access_ne (s : State) : (settleAccess s).memctl.access ≠ some .playout := by
  unfold settleAccess
  split
  · next h => rw [h]; exact nofun
  · next h => rw [h]; exact nofun
  · exact nofun
  · exact nofun
  · exact nofun
  · exact nofun

/-- A transaction that has just arrived asks for memory only if it is a READ (R166). -/
theorem newTransaction_sound (s : State) (q : HostRequest) :
    (newTransaction s q).request.isWrite = true → (newTransaction s q).state.pending = true →
      (newTransaction s q).beats = burstBeats (newTransaction s q).request.length := by
  intro hwrite hpending
  have hq : q.isWrite = true := hwrite
  simp [newTransaction, hq, RequestState.pending] at hpending

theorem arrive_grantSound (q : HostRequest) {s : State} (hacc : s.memctl.access ≠ some .playout) : GrantSound (arrive q s) := by
  refine grantSound_of_access_ne (fun t ht => ?_) hacc
  obtain rfl := Option.some.inj ht
  exact newTransaction_sound s _

theorem completeStartUp_grantSound {s : State} (hphase : s.phase = .startUp) (h : GrantSound s) : GrantSound (completeStartUp s) := by
  have hacc := h.access_ne (by rw [hphase]; decide)
  unfold completeStartUp
  dsimp only
  split
  · exact arrive_grantSound _ hacc
  · exact grantSound_of_access_ne h.1 hacc

theorem present_grantSound (q : HostRequest) {s : State} (h : GrantSound s) : GrantSound (present q s) := by
  unfold present
  split
  · split
    · next hnone =>
      refine arrive_grantSound q fun hacc => ?_
      obtain ⟨-, t, ht, -⟩ := h.2 hacc
      rw [ht] at hnone
      cases hnone
    · exact h
  · split
    · exact h
    · exact h

/-- A write beat's own row leaves the transaction's request, its beats and its memory request as they are. -/
theorem rowEffect_transaction (row : BeatRow) (a : Nat) (d : Beat) (k : Byte) (t : HostTransaction) (s : State) :
    (rowEffect row a d k t s).2.request = t.request ∧ (rowEffect row a d k t s).2.beats = t.beats ∧
    (rowEffect row a d k t s).2.state = t.state := by
  cases row with
  | steeredTo slot o =>
    unfold rowEffect remapBeat
    dsimp only
    split
    · exact ⟨rfl, rfl, rfl⟩
    · exact ⟨rfl, rfl, rfl⟩
  | ring o => exact ⟨rfl, rfl, rfl⟩
  | status => exact ⟨rfl, rfl, rfl⟩
  | readWord => exact ⟨rfl, rfl, rfl⟩
  | log => exact ⟨rfl, rfl, rfl⟩
  | control => exact ⟨rfl, rfl, rfl⟩
  | blocked => exact ⟨rfl, rfl, rfl⟩
  | pinned => exact ⟨rfl, rfl, rfl⟩
  | onAirArt => exact ⟨rfl, rfl, rfl⟩
  | ordinary => exact ⟨rfl, rfl, rfl⟩

/-- A transaction whose request has not begun asks for memory with its last beat alone (R166). -/
theorem counted_sound {t : HostTransaction} (h : t.state.pending = false) :
    t.counted.state.pending = true → t.counted.beats = burstBeats t.counted.request.length := by
  intro hpending
  unfold HostTransaction.counted at hpending ⊢
  dsimp only at hpending ⊢
  split at hpending
  · next hlast => exact hlast.1
  · rw [h] at hpending
    cases hpending

theorem writeBeat_grantSound (d : Beat) (k : Byte) {x : HostTransaction} {s : State} (hx : s.port.transaction = some x)
    (hexpects : x.expectsBeat = true) (h : GrantSound s) : GrantSound (writeBeat d k x s) := by
  simp only [HostTransaction.expectsBeat, Bool.and_eq_true, decide_eq_true_eq] at hexpects
  obtain ⟨hwrite, hmore⟩ := hexpects
  have hidle : x.state.pending = false := by
    rw [Bool.eq_false_iff]
    intro hpending
    have := h.1 x hx hwrite hpending
    omega
  have hacc : s.memctl.access ≠ some .playout := by
    intro hacc
    obtain ⟨-, t, ht, hgranted, -⟩ := h.2 hacc
    obtain rfl := Option.some.inj (hx.symm.trans ht)
    rw [hgranted] at hidle
    cases hidle
  unfold writeBeat
  dsimp only
  split
  · refine grantSound_of_access_ne (fun t ht _ => ?_) hacc
    obtain rfl := Option.some.inj ht
    exact counted_sound hidle
  · refine grantSound_of_access_ne (fun t ht _ => ?_) ?_
    · obtain rfl := Option.some.inj ht
      obtain ⟨-, -, hstate⟩ := rowEffect_transaction (classify s (s.beatAddr x.request x.beats)) (s.beatAddr x.request x.beats) d k x s
      exact counted_sound (by rw [hstate]; exact hidle)
    · obtain ⟨_, _, _, e⟩ := rowEffect_frame (classify s (s.beatAddr x.request x.beats)) (s.beatAddr x.request x.beats) d k x s
      rw [setTransaction_memctl, e]
      exact hacc

theorem endTransaction_grantSound {x : HostTransaction} {s : State} (hx : s.port.transaction = some x) (hend : x.canEnd = true)
    (h : GrantSound s) : GrantSound (setTransaction none s) := by
  refine grantSound_of_access_ne (fun t ht => by cases ht) fun hacc => ?_
  obtain ⟨-, t, ht, hgranted, -⟩ := h.2 hacc
  obtain rfl := Option.some.inj (hx.symm.trans ht)
  simp [HostTransaction.canEnd, hgranted, RequestState.pending] at hend

/-- After the end of an access none is in progress, and no WRITE asks for memory that did not before. -/
theorem finishAccess_grantSound {s : State} (h : GrantSound s) :
    GrantSound (finishAccess s) ∧ (finishAccess s).memctl.access = none := by
  obtain ⟨hacc, e⟩ | ⟨-, e⟩ | ⟨p, a, -, e⟩ | ⟨w, -, e⟩ | ⟨-, e⟩ | ⟨-, e⟩ := finishAccess_cases s <;> rw [e]
  · exact ⟨h, hacc⟩
  · exact ⟨grantSound_of_access_ne h.1 nofun, rfl⟩
  · refine ⟨grantSound_of_access_ne ?_ nofun, rfl⟩
    unfold fetchDone
    split
    · exact h.1
    · exact h.1
  · obtain ⟨_, _, e'⟩ := landWrite_frame w s
    rw [e']
    exact ⟨grantSound_of_access_ne h.1 nofun, rfl⟩
  · refine ⟨grantSound_of_access_ne ?_ nofun, rfl⟩
    unfold servePlayout
    split
    · split
      · intro t ht _ hpending
        obtain rfl := Option.some.inj ht
        cases hpending
      · intro t ht
        cases ht
    · exact h.1
  · exact ⟨grantSound_of_access_ne h.1 nofun, rfl⟩

/-- The host's request is granted only in a running part, and only if one waits (R172). -/
theorem arbiterChoice_playout {i : ChoiceInput} {s : State} (h : arbiterChoice i s = some .playout) :
    s.phase = .running ∧ s.playoutWaits = true := by
  unfold arbiterChoice at h
  split at h
  · cases h
  · split at h
    · cases h
    · cases h
    · unfold startUpChoice at h
      split at h
      · split at h <;> cases h
      · cases h
      · cases h
      · cases h
      · cases h
    · next hphase =>
      refine ⟨hphase, ?_⟩
      unfold runningChoice at h
      split at h
      · cases h
      · split at h
        · cases h
        · split at h
          · assumption
          · split at h <;> cases h

theorem memByte_congr {s t : State} (hmem : t.mem = s.mem) (hpowerOns : t.powerOns = s.powerOns) (a : Nat) : t.memByte a = s.memByte a := by
  rw [State.memByte, State.memByte, hmem, hpowerOns]

theorem BurstLanded.congr {l : List ForwardBeat} {s t : State} (h : BurstLanded l s) (hmem : t.mem = s.mem)
    (hpowerOns : t.powerOns = s.powerOns) : BurstLanded l t := by
  intro before b after hl j hj hmask hafter
  rw [memByte_congr hmem hpowerOns]
  exact h before b after hl j hj hmask hafter

theorem grantPlayout_grantSound {s : State} (hphase : s.phase = .running) (hwaits : s.playoutWaits = true) (h : GrantSound s) :
    GrantSound (grantPlayout s) := by
  unfold grantPlayout
  split
  · next t ht =>
    have hstate : t.state = .waiting := by
      simpa [State.playoutWaits, ht] using hwaits
    have hbeats : t.request.isWrite = true → t.beats = burstBeats t.request.length := fun hwrite =>
      h.1 t ht hwrite (by rw [hstate]; rfl)
    obtain ⟨_, e⟩ := State.raiseIf_frame (t.forward.any (droppedAtGrant s)) .filteredWrite s
    have hretest : (retestBeats t s).port.transaction = some { t with forward := openBeats t s, state := .granted } ∧
        (retestBeats t s).phase = .running := by
      rw [retestBeats, e]
      exact ⟨rfl, hphase⟩
    have hframe := putBeats_frame (openBeats t s) (retestBeats t s)
    have hlanded := burstLanded_putBeats (openBeats t s) (retestBeats t s)
    dsimp only
    split
    · refine ⟨fun x hx hwrite _ => ?_, fun _ => ⟨?_, { t with forward := openBeats t s, state := .granted }, ?_, rfl, fun _ => ?_⟩⟩
      · rw [hframe] at hx
        obtain rfl := Option.some.inj (hretest.1.symm.trans hx)
        exact hbeats hwrite
      · rw [hframe]
        exact hretest.2
      · rw [hframe]
        exact hretest.1
      · exact hlanded.congr rfl rfl
    · next hread =>
      refine ⟨fun x hx hwrite _ => ?_, fun _ => ⟨hretest.2, _, hretest.1, rfl, fun hwrite => absurd hwrite hread⟩⟩
      obtain rfl := Option.some.inj (hretest.1.symm.trans hx)
      exact hbeats hwrite
  · exact h

theorem beginGrant_grantSound (first : WriterBlock) {g : Grant} {s : State}
    (hplayout : g = .playout → s.phase = .running ∧ s.playoutWaits = true) (h : GrantSound s) : GrantSound (beginGrant first g s) := by
  cases g with
  | refresh => exact grantSound_of_access_ne h.1 nofun
  | scan p a => exact grantSound_of_access_ne h.1 nofun
  | queue =>
    unfold beginGrant grantQueue
    dsimp only
    split
    · refine grantSound_of_access_ne h.1 ?_
      obtain ⟨_, _, _, e⟩ := join_frame first
        { s.memctl with queue := ‹List PartWrite›, access := some (.queueEntry ‹PartWrite›), lastPlayout := false }
      dsimp only
      rw [e]
      exact nofun
    · exact h
  | playout =>
    obtain ⟨hphase, hwaits⟩ := hplayout rfl
    exact grantPlayout_grantSound hphase hwaits h
  | startUp => exact grantSound_of_access_ne h.1 nofun

theorem accessEnd_grantSound (i : ChoiceInput) (first : WriterBlock) {s : State} (h : GrantSound s) :
    GrantSound (accessEnd i first s) := by
  obtain ⟨hfinish, hacc⟩ := finishAccess_grantSound h
  have hsend : GrantSound (sendBlocks i.sent (finishAccess s)) := hfinish
  obtain e | ⟨g, hg, e⟩ := grantNext_cases i first (sendBlocks i.sent (finishAccess s))
  · rw [accessEnd, e]
    exact hsend
  · rw [accessEnd, e]
    exact beginGrant_grantSound first (fun hplayout => arbiterChoice_playout (hplayout ▸ hg)) hsend

theorem kept_grantSound : Kept GrantSound where
  powerOn _ _ := grantSound_of_access_ne (fun _ ht => by cases ht) nofun
  resetLine s _ _ := by
    rw [resetLineLow_frame]
    exact grantSound_of_access_ne (fun _ ht => by cases ht) (settleAccess_access_ne s)
  release st s hphase h := by
    refine grantSound_of_access_ne h.1 (h.access_ne ?_)
    obtain hp | hp := hphase <;> rw [hp] <;> decide
  startUp _ hphase h := completeStartUp_grantSound hphase h
  present q _ h := present_grantSound q h
  beat d k _ _ hx hexpects h := writeBeat_grantSound d k hx hexpects h
  endTransaction _ _ hx hend h := endTransaction_grantSound hx hend h
  access i first _ _ h := accessEnd_grantSound i first h

/-- Settles O55, from what every write to the stores, every offer to the queue and every grant keep. -/
theorem stepKeepsMemoryAndQueue : Obligations.StepKeepsMemoryAndQueue := by
  unfold Obligations.StepKeepsMemoryAndQueue
  refine ⟨fun s t h ht => ?_, fun s t h ht => ?_, fun s t h ht => ?_⟩
  · exact kept_memoryCanonical.step (fun _ _ h => h) h ht
  · exact kept_queueSound.step (fun _ _ h => h) h ht
  · exact kept_grantSound.step (fun _ _ h => h) h ht

end Sys2Proof.Machine
end

section
/-! PROOFS. The spot table and the sponsor zones (R110, R115): what each read gives after each write, and on air as a statement about
zones. -/

namespace Sys2Proof.Machine

/-! ### Zones after a change -/

theorem RotationUnit.mapZone_zones_same (z : ZoneIx) (f : SponsorZone → SponsorZone) (u : RotationUnit) :
    (u.mapZone z f).zones[z] = f u.zones[z] := by
  simp [RotationUnit.mapZone]

theorem RotationUnit.mapZone_zones_other {z y : ZoneIx} (h : y ≠ z) (f : SponsorZone → SponsorZone) (u : RotationUnit) :
    (u.mapZone z f).zones[y] = u.zones[y] := by
  have hne : z.val ≠ y.val := fun e => h (Fin.ext e.symm)
  simp [RotationUnit.mapZone, hne]

theorem RotationUnit.mapZones_zones (z : ZoneIx) (f : SponsorZone → SponsorZone) (u : RotationUnit) :
    (u.mapZones f).zones[z] = f u.zones[z] := by
  simp [RotationUnit.mapZones]

@[simp] theorem RotationUnit.mapSpot_zones (id : Nat) (f : Spot → Spot) (u : RotationUnit) : (u.mapSpot id f).zones = u.zones := rfl

@[simp] theorem RotationUnit.deleteSpot_zones (id : Nat) (u : RotationUnit) : (u.deleteSpot id).zones = u.zones := rfl

/-! ### Spots after a change -/

@[simp] theorem RotationUnit.mapZone_spots (z : ZoneIx) (f : SponsorZone → SponsorZone) (u : RotationUnit) :
    (u.mapZone z f).spots = u.spots := rfl

@[simp] theorem RotationUnit.mapZone_spot (z : ZoneIx) (f : SponsorZone → SponsorZone) (u : RotationUnit) (i : Nat) :
    (u.mapZone z f).spot i = u.spot i := rfl

@[simp] theorem RotationUnit.mapZones_spot (f : SponsorZone → SponsorZone) (u : RotationUnit) (i : Nat) :
    (u.mapZones f).spot i = u.spot i := rfl

theorem RotationUnit.spot_id {u : RotationUnit} {i : Nat} {p : Spot} (h : u.spot i = some p) : p.id = i := by
  simpa using List.find?_some h

/-- A spot read after every spot is changed, each keeping its id. -/
theorem find_id_map {f : Spot → Spot} (hf : ∀ p, (f p).id = p.id) (i : Nat) :
    ∀ l : List Spot, (l.map f).find? (fun p => p.id == i) = (l.find? fun p => p.id == i).map f
  | [] => rfl
  | p :: rest => by
    rw [List.map_cons, List.find?_cons, List.find?_cons, hf p, find_id_map hf i rest]
    cases p.id == i <;> rfl

theorem RotationUnit.mapSpot_spot {id : Nat} {f : Spot → Spot} (hf : ∀ p, p.id = id → (f p).id = id) (u : RotationUnit) (i : Nat) :
    (u.mapSpot id f).spot i = if i = id then (u.spot i).map f else u.spot i := by
  have hid : ∀ p : Spot, (if p.id = id then f p else p).id = p.id := by
    intro p
    split
    · next h => rw [hf p h, h]
    · rfl
  have hmap : (u.mapSpot id f).spot i = (u.spot i).map fun p => if p.id = id then f p else p := find_id_map hid i u.spots
  rw [hmap]
  cases h : u.spot i with
  | none => split <;> rfl
  | some p =>
    have hp := RotationUnit.spot_id h
    subst hp
    split
    · next hi => simp [hi]
    · next hi => simp [hi]

theorem RotationUnit.deleteSpot_spot (id : Nat) (u : RotationUnit) (i : Nat) :
    (u.deleteSpot id).spot i = if i = id then none else u.spot i := by
  unfold RotationUnit.spot RotationUnit.deleteSpot
  rw [List.find?_filter]
  split
  · next h =>
    refine List.find?_eq_none.mpr fun p _ => ?_
    simp [h]
  · next h =>
    congr 1
    funext p
    by_cases hp : p.id = i
    · simp [hp, h]
    · simp [hp]

/-- A spot read after one with a new id has been put in its place. -/
theorem find_id_insertSpot (p : Spot) (i : Nat) : ∀ {l : List Spot}, (∀ q ∈ l, q.id ≠ p.id) →
    (insertSpot p l).find? (fun q => q.id == i) = if i = p.id then some p else l.find? fun q => q.id == i
  | [], _ => by
    by_cases h : i = p.id
    · simp [insertSpot, h]
    · have h' : p.id ≠ i := fun e => h e.symm
      simp [insertSpot, h, h']
  | q :: rest, hnew => by
    obtain ⟨hq, hrest⟩ := List.forall_mem_cons.mp hnew
    have ih := find_id_insertSpot p i hrest
    unfold insertSpot
    split
    · by_cases h : i = p.id
      · simp [h]
      · have h' : p.id ≠ i := fun e => h e.symm
        simp [h, h']
    · rw [List.find?_cons, ih, List.find?_cons]
      by_cases h : i = p.id
      · have hne : (q.id == p.id) = false := by simpa using hq
        simp [h, hne]
      · simp [h]

theorem RotationUnit.forall_id_ne_of_spot_none {u : RotationUnit} {i : Nat} (h : u.spot i = none) : ∀ q ∈ u.spots, q.id ≠ i := by
  intro q hq
  simpa using List.find?_eq_none.mp h q hq

/-! ### On air (R120) -/

theorem mem_allZones (z : ZoneIx) : z ∈ allZones := by
  revert z
  decide

theorem SponsorZone.shows_iff {x : SponsorZone} {i : Nat} : x.shows i = true ↔ ∃ h, x.showing = some h ∧ h.spotId = i := by
  unfold SponsorZone.shows
  cases x.showing <;> simp

theorem RotationUnit.onAir_iff {u : RotationUnit} {i : Nat} : u.onAir i = true ↔ ∃ z : ZoneIx, (u.zones[z]).shows i = true := by
  simp [RotationUnit.onAir, List.any_eq_true, mem_allZones]

theorem RotationUnit.onAir_eq_false {u : RotationUnit} {i : Nat} :
    u.onAir i = false ↔ ∀ z : ZoneIx, (u.zones[z]).shows i = false := by
  simp [RotationUnit.onAir, mem_allZones]

/-- A change of the zones that leaves what they show leaves on air as it is. -/
theorem RotationUnit.onAir_congr {u v : RotationUnit} {i : Nat} (h : ∀ z : ZoneIx, (v.zones[z]).shows i = (u.zones[z]).shows i) :
    v.onAir i = u.onAir i := by
  simp only [RotationUnit.onAir, h]

end Sys2Proof.Machine
end

section
/-! PROOFS. Every step keeps each spot on air in at most one zone, and defined (R127). -/

namespace Sys2Proof.Machine

/-- No spot is shown in two zones, and every spot shown is defined: what `OnAirExclusive` says of a state, said of the rotation unit. -/
def RotationUnit.Exclusive (u : RotationUnit) : Prop :=
  (∀ (z z' : ZoneIx) (i : Nat), (u.zones[z]).shows i = true → (u.zones[z']).shows i = true → z = z') ∧
  ∀ (z : ZoneIx) (i : Nat), (u.zones[z]).shows i = true → (u.spot i).isSome = true

theorem onAirExclusive_iff (s : State) : OnAirExclusive s ↔ s.rotation.Exclusive := by
  constructor
  · rintro ⟨hone, hdefined⟩
    refine ⟨fun z z' i hz hz' => ?_, fun z i hz => ?_⟩
    · obtain ⟨h, hh, rfl⟩ := SponsorZone.shows_iff.mp hz
      obtain ⟨h', hh', e⟩ := SponsorZone.shows_iff.mp hz'
      exact hone z z' h hh h' hh' e.symm
    · obtain ⟨h, hh, rfl⟩ := SponsorZone.shows_iff.mp hz
      exact hdefined z h hh
  · rintro ⟨hone, hdefined⟩
    refine ⟨fun z z' h hh h' hh' e => ?_, fun z h hh => ?_⟩
    · exact hone z z' h.spotId (SponsorZone.shows_iff.mpr ⟨h, hh, rfl⟩) (SponsorZone.shows_iff.mpr ⟨h', hh', e.symm⟩)
    · exact hdefined z h.spotId (SponsorZone.shows_iff.mpr ⟨h, hh, rfl⟩)

/-! ### Changes of the unit that keep it exclusive -/

/-- A change after which every spot shown was shown by the same zone before, and is still defined. -/
theorem RotationUnit.Exclusive.mono {u v : RotationUnit} (h : u.Exclusive)
    (hshows : ∀ (z : ZoneIx) (i : Nat), (v.zones[z]).shows i = true → (u.zones[z]).shows i = true)
    (hspot : ∀ (z : ZoneIx) (i : Nat), (v.zones[z]).shows i = true → (u.spot i).isSome = true → (v.spot i).isSome = true) :
    v.Exclusive :=
  ⟨fun z z' i hz hz' => h.1 z z' i (hshows z i hz) (hshows z' i hz'), fun z i hz => hspot z i hz (h.2 z i (hshows z i hz))⟩

theorem RotationUnit.Exclusive.mapSpot {u : RotationUnit} (h : u.Exclusive) {id : Nat} {f : Spot → Spot}
    (hf : ∀ p, p.id = id → (f p).id = id) : (u.mapSpot id f).Exclusive := by
  refine h.mono (fun _ _ hz => hz) fun z i _ hdefined => ?_
  rw [mapSpot_spot hf]
  split
  · rwa [Option.isSome_map]
  · exact hdefined

theorem RotationUnit.Exclusive.mapZones {u : RotationUnit} (h : u.Exclusive) {f : SponsorZone → SponsorZone}
    (hf : ∀ x i, (f x).shows i = true → x.shows i = true) : (u.mapZones f).Exclusive := by
  refine h.mono (fun z i hz => hf _ i ?_) fun _ _ _ hdefined => hdefined
  rwa [mapZones_zones] at hz

theorem RotationUnit.Exclusive.mapZone {u : RotationUnit} (h : u.Exclusive) {z : ZoneIx} {f : SponsorZone → SponsorZone}
    (hf : ∀ i, (f u.zones[z]).shows i = true → (u.zones[z]).shows i = true) : (u.mapZone z f).Exclusive := by
  refine h.mono (fun y i hy => ?_) fun _ _ _ hdefined => hdefined
  by_cases hyz : y = z
  · subst hyz
    rw [mapZone_zones_same] at hy
    exact hf i hy
  · rwa [mapZone_zones_other hyz] at hy

/-- A spot that no zone shows may be deleted. -/
theorem RotationUnit.Exclusive.deleteSpot {u : RotationUnit} (h : u.Exclusive) {id : Nat} (hoff : u.onAir id = false) :
    (u.deleteSpot id).Exclusive := by
  refine h.mono (fun _ _ hz => hz) fun z i hz hdefined => ?_
  have hi : i ≠ id := by
    rintro rfl
    have hnot := onAir_eq_false.mp hoff z
    rw [deleteSpot_zones, hnot] at hz
    cases hz
  rwa [deleteSpot_spot, if_neg hi]

/-- A zone may show a defined spot that no other zone shows. -/
theorem RotationUnit.Exclusive.showIn {u : RotationUnit} (h : u.Exclusive) {z : ZoneIx} {g : Showing}
    (hdefined : (u.spot g.spotId).isSome = true) (hother : ∀ y : ZoneIx, (u.zones[y]).shows g.spotId = true → y = z) :
    (u.mapZone z fun x => { x with showing := some g }).Exclusive := by
  have hshows : ∀ (y : ZoneIx) (i : Nat), ((u.mapZone z fun x => { x with showing := some g }).zones[y]).shows i = true →
      (y = z ∧ i = g.spotId) ∨ (y ≠ z ∧ (u.zones[y]).shows i = true) := by
    intro y i hy
    by_cases hyz : y = z
    · subst hyz
      rw [mapZone_zones_same] at hy
      obtain ⟨_, hg, rfl⟩ := SponsorZone.shows_iff.mp hy
      obtain rfl := Option.some.inj hg
      exact .inl ⟨rfl, rfl⟩
    · rw [mapZone_zones_other hyz] at hy
      exact .inr ⟨hyz, hy⟩
  refine ⟨fun y y' i hy hy' => ?_, fun y i hy => ?_⟩
  · obtain ⟨rfl, rfl⟩ | ⟨hne, hold⟩ := hshows y i hy <;> obtain ⟨rfl, hi⟩ | ⟨hne', hold'⟩ := hshows y' _ hy'
    · rfl
    · exact absurd (hother y' hold') hne'
    · exact absurd (hother y (hi ▸ hold)) hne
    · exact h.1 y y' i hold hold'
  · obtain ⟨rfl, rfl⟩ | ⟨-, hy⟩ := hshows y i hy
    · exact hdefined
    · exact h.2 y i hy

theorem SponsorZone.shows_none {x : SponsorZone} (h : x.showing = none) (i : Nat) : x.shows i = false := by
  simp [SponsorZone.shows, h]

/-! ### The ending stage (R122-R124) -/

theorem offerRecord_rotation (z : ZoneIx) (reason : ShowingEnd) (saturated : Bool) (h : Showing) (s : State) :
    (offerRecord z reason saturated h s).rotation = s.rotation := by
  unfold offerRecord
  split
  · rfl
  · rfl

/-- The rotation unit after a zone's showing has ended (R124). -/
def RotationUnit.ended (z : ZoneIx) (h : Showing) (u : RotationUnit) : RotationUnit :=
  let v := u.mapZone z fun x => { x with showing := none }
  if (u.spot h.spotId).elim false Spot.withdrawing then v.deleteSpot h.spotId else v

theorem endShowing_rotation (z : ZoneIx) (reason : ShowingEnd) (s : State) :
    (endShowing z reason s).rotation = ((s.rotation.zones[z]).showing).elim s.rotation fun h => s.rotation.ended z h := by
  unfold endShowing
  cases (s.rotation.zones[z]).showing with
  | none => rfl
  | some h =>
    dsimp only [Option.elim_some]
    rw [offerRecord_rotation]
    rfl

theorem RotationUnit.Exclusive.ended {u : RotationUnit} (h : u.Exclusive) {z : ZoneIx} {g : Showing}
    (hg : (u.zones[z]).showing = some g) : (u.ended z g).Exclusive := by
  have hcleared : (u.mapZone z fun x => { x with showing := none }).Exclusive :=
    h.mapZone fun i hi => by
      rw [SponsorZone.shows_none rfl] at hi
      cases hi
  unfold RotationUnit.ended
  dsimp only
  split
  · refine hcleared.deleteSpot (onAir_eq_false.mpr fun y => ?_)
    by_cases hy : y = z
    · subst hy
      rw [mapZone_zones_same]
      exact SponsorZone.shows_none rfl _
    · rw [mapZone_zones_other hy, Bool.eq_false_iff]
      exact fun hshows => hy (h.1 y z _ hshows (SponsorZone.shows_iff.mpr ⟨g, hg, rfl⟩))
  · exact hcleared

theorem endShowing_exclusive (z : ZoneIx) (reason : ShowingEnd) {s : State} (h : s.rotation.Exclusive) :
    (endShowing z reason s).rotation.Exclusive := by
  rw [endShowing_rotation]
  cases hg : (s.rotation.zones[z]).showing with
  | none => exact h
  | some g => exact h.ended hg

theorem raiseIf_rotation (c : Bool) (f : Flag) (s : State) : (s.raiseIf c f).rotation = s.rotation := by
  obtain ⟨_, e⟩ := State.raiseIf_frame c f s
  rw [e]

theorem Spot.credited_id (c : Nat) (p : Spot) : (p.credited c).id = p.id := by
  unfold Spot.credited
  split
  · rfl
  · rfl

theorem Spot.tested_id (p : Spot) : p.tested.id = p.id := by
  unfold Spot.tested
  split
  · rfl
  · rfl

theorem Showing.credited_spotId (c : Nat) (h : Showing) : (h.credited c).spotId = h.spotId := rfl

/-- A showing and its spot put back, neither under another id. -/
theorem storeAccount_exclusive {z : ZoneIx} {g : Showing} {p : Spot} {s : State} (h : s.rotation.Exclusive)
    (hg : (s.rotation.zones[z]).shows g.spotId = true) : (storeAccount z g p s).rotation.Exclusive :=
  RotationUnit.Exclusive.mapSpot (h.showIn (h.2 z _ hg) fun y hy => h.1 y z _ hy hg) fun _ _ => rfl

theorem accountFrame_exclusive {z : ZoneIx} {g : Showing} (p : Spot) {s : State} (h : s.rotation.Exclusive)
    (hg : (s.rotation.zones[z]).showing = some g) : (accountFrame z g p s).rotation.Exclusive := by
  have hshows : (s.rotation.zones[z]).shows g.spotId = true := SponsorZone.shows_iff.mpr ⟨g, hg, rfl⟩
  unfold accountFrame
  dsimp only
  split
  · rw [raiseIf_rotation, raiseIf_rotation]
    exact storeAccount_exclusive h hshows
  · exact storeAccount_exclusive h hshows

theorem endIf_exclusive (z : ZoneIx) (reason : Option ShowingEnd) {s : State} (h : s.rotation.Exclusive) :
    (endIf z reason s).rotation.Exclusive := by
  cases reason with
  | none => exact h
  | some r => exact endShowing_exclusive z r h

theorem accountZone_exclusive (z : ZoneIx) {s : State} (h : s.rotation.Exclusive) : (accountZone z s).1.rotation.Exclusive := by
  unfold accountZone
  split
  · exact h
  · next g hg =>
    split
    · exact h
    · exact endIf_exclusive _ _ (accountFrame_exclusive _ h hg)

theorem planStage_exclusive (z : ZoneIx) {s : State} (h : s.rotation.Exclusive) : (planStage z s).rotation.Exclusive := by
  have hend : (if planEnds s.composer.record.zones[z] then endShowing z .planChange s else s).rotation.Exclusive := by
    split
    · exact endShowing_exclusive z _ h
    · exact h
  unfold planStage
  dsimp only
  split
  · exact hend.mapZone fun _ hi => hi
  · exact hend

theorem endingStage_exclusive (z : ZoneIx) {s : State} (h : s.rotation.Exclusive) : (endingStage z s).1.rotation.Exclusive := by
  have hplan := planStage_exclusive z h
  rw [endingStage_eq]
  split
  · exact (endShowing_exclusive z .outputMode hplan).mapZone fun _ hi => hi
  · split
    · exact hplan
    · exact accountZone_exclusive z hplan

theorem endingStages_exclusive : ∀ (l : List ZoneIx) {s : State}, s.rotation.Exclusive → (endingStages l s).1.rotation.Exclusive
  | [], _, h => h
  | z :: rest, _, h => endingStages_exclusive rest (endingStage_exclusive z h)

/-! ### The selection stage (R125-R127) -/

theorem beginShowing_exclusive {z : ZoneIx} {id : Nat} (sting overrun : Bool) {s : State} (h : s.rotation.Exclusive)
    (hoff : s.rotation.onAir id = false) (hdefined : (s.rotation.spot id).isSome = true) :
    (beginShowing z id sting overrun s).rotation.Exclusive := by
  refine RotationUnit.Exclusive.mapSpot (h.showIn hdefined fun y hy => ?_) fun _ hp => hp
  rw [RotationUnit.onAir_eq_false.mp hoff y] at hy
  cases hy

theorem eligible_spec {s : State} {id : Nat} (h : eligible s id = true) :
    s.rotation.onAir id = false ∧ (s.rotation.spot id).isSome = true := by
  unfold eligible at h
  split at h
  · next p hp =>
    rw [Bool.and_eq_true, Bool.not_eq_true'] at h
    exact ⟨h.2, by rw [hp]; rfl⟩
  · cases h

/-- A position that a search finds holds an entry that satisfies its test. -/
theorem firstVisited_spec {rotation : List Nat} {cursor : Int} {test : Nat → Bool} {pos : Nat}
    (h : firstVisited rotation cursor test = some pos) : test (rotation.getD pos 0) = true := by
  have htest := List.find?_some h
  cases hpos : rotation[pos]? with
  | none =>
    rw [hpos] at htest
    cases htest
  | some x =>
    rw [hpos] at htest
    rwa [List.getD_eq_getElem?_getD, hpos]

theorem takeEntry_exclusive {z : ZoneIx} {pos : Nat} (overrun : Bool) {s : State} (h : s.rotation.Exclusive)
    (heligible : eligible s ((s.rotation.zones[z]).rotation.getD pos 0) = true) : (takeEntry z pos overrun s).rotation.Exclusive := by
  obtain ⟨hoff, hdefined⟩ := eligible_spec heligible
  exact (beginShowing_exclusive false overrun h hoff hdefined).mapZone fun _ hi => hi

theorem passes_exclusive (z : ZoneIx) {s : State} (h : s.rotation.Exclusive) : (passes z s).rotation.Exclusive := by
  unfold passes
  dsimp only
  split
  · next pos hpos =>
    have htest := firstVisited_spec hpos
    rw [Bool.and_eq_true] at htest
    exact takeEntry_exclusive false h htest.1
  · split
    · next pos hpos => exact takeEntry_exclusive true h (firstVisited_spec hpos)
    · exact h

theorem SponsorZone.unpended_shows (x : SponsorZone) (i : Nat) : x.unpended.shows i = x.shows i := rfl

theorem RotationUnit.onAir_mapZone {f : SponsorZone → SponsorZone} (z : ZoneIx) (u : RotationUnit) (i : Nat)
    (hf : ∀ x, (f x).shows i = x.shows i) : (u.mapZone z f).onAir i = u.onAir i := by
  refine onAir_congr fun y => ?_
  by_cases hy : y = z
  · subst hy
    rw [mapZone_zones_same, hf]
  · rw [mapZone_zones_other hy]

theorem answerSting_exclusive (z : ZoneIx) {s : State} (h : s.rotation.Exclusive) : (answerSting z s).rotation.Exclusive := by
  have hunpended : (s.rotation.mapZone z SponsorZone.unpended).Exclusive := h.mapZone fun _ hi => hi
  unfold answerSting
  dsimp only
  split
  · next id _ =>
    split
    · exact passes_exclusive z hunpended
    · next hno =>
      obtain ⟨hoff, hsome⟩ := not_or.mp (mt (Bool.or_eq_true _ _).mpr hno)
      refine beginShowing_exclusive true false hunpended ?_ ?_
      · rw [← Bool.not_eq_true, RotationUnit.onAir_mapZone z _ _ fun x => SponsorZone.unpended_shows x id]
        exact hoff
      · rw [RotationUnit.mapZone_spot, Option.isSome_iff_ne_none]
        simpa using hsome
  · exact passes_exclusive z hunpended

theorem selectionStage_exclusive (z : ZoneIx) {s : State} (h : s.rotation.Exclusive) : (selectionStage z s).rotation.Exclusive := by
  unfold selectionStage
  split
  · split
    · exact answerSting_exclusive z h
    · exact passes_exclusive z h
  · exact h

theorem selectionStages_exclusive : ∀ (l : List ZoneIx) {s : State}, s.rotation.Exclusive → (selectionStages l s).rotation.Exclusive
  | [], _, h => h
  | z :: rest, _, h => selectionStages_exclusive rest (selectionStage_exclusive z h)

theorem rotationFrameWork_exclusive {s : State} (h : s.rotation.Exclusive) : (rotationFrameWork s).1.rotation.Exclusive := by
  have hending := endingStages_exclusive allZones h
  rw [rotationFrameWork_fst]
  exact selectionStages_exclusive allZones hending

/-! ### The commands and RESTART -/

theorem endAllShowings_exclusive : ∀ (l : List ZoneIx) {s : State}, s.rotation.Exclusive → (endAllShowings l s).rotation.Exclusive
  | [], _, h => h
  | z :: rest, _, h => endAllShowings_exclusive rest (endShowing_exclusive z .restart h)

theorem restartRotation_exclusive {s : State} (h : s.rotation.Exclusive) : (restartRotation s).rotation.Exclusive :=
  (endAllShowings_exclusive allZones h).mapZones fun _ _ hi => hi

theorem ruleRestart_exclusive {s : State} (h : s.rotation.Exclusive) : (ruleRestart s).1.rotation.Exclusive := by
  have hrotation := restartRotation_exclusive h
  rw [ruleRestart_fst]
  exact hrotation

theorem SponsorZone.onRise_shows (x : SponsorZone) (i : Nat) : x.onRise.shows i = x.shows i := by
  unfold SponsorZone.onRise
  split
  · rfl
  · rfl

theorem scoreRise_exclusive {s : State} (h : s.rotation.Exclusive) : (scoreRise s).rotation.Exclusive :=
  RotationUnit.Exclusive.mapZones (f := SponsorZone.onRise) h fun x i hi => by rwa [SponsorZone.onRise_shows] at hi

theorem fireCapture_rotation (e : CaptureEvent) (s : State) : (fireCapture e s).rotation = s.rotation := by
  obtain ⟨_, _, e'⟩ := fireCapture_captureFrame e s
  rw [e']

theorem storeScore_exclusive (f : Fin 10) (v : Nat) {s : State} (h : s.rotation.Exclusive) :
    (storeScore f v s).rotation.Exclusive := by
  obtain hplain | ⟨-, hfall⟩ | ⟨-, hrise⟩ := storeScore_cases f v s
  · rw [hplain]
    exact h
  · rw [hfall, fireCapture_rotation]
    exact h
  · rw [hrise]
    refine scoreRise_exclusive ?_
    rw [fireCapture_rotation]
    exact h

theorem ruleSetScore_exclusive (field : Byte) (value : Word) {s : State} (h : s.rotation.Exclusive) :
    (ruleSetScore field value s).1.rotation.Exclusive := by
  unfold ruleSetScore
  split
  · exact storeScore_exclusive _ _ h
  · exact h

theorem ruleAddScore_exclusive (field : Byte) (delta : Word) {s : State} (h : s.rotation.Exclusive) :
    (ruleAddScore field delta s).1.rotation.Exclusive := by
  unfold ruleAddScore
  split
  · split
    · exact h
    · split
      · exact h
      · exact storeScore_exclusive _ _ h
  · exact h

theorem scoreRules_exclusive (i : Instr) (s : State) (ho : commandOwner i = .scoreUnit) (h : s.rotation.Exclusive) :
    (commandRule i).elim True fun r => (r s).1.rotation.Exclusive := by
  cases i
  case setScore => exact ruleSetScore_exclusive _ _ h
  case addScore => exact ruleAddScore_exclusive _ _ h
  case setFlash => exact checked_fst (I := fun u => u.rotation.Exclusive) h fun _ => h
  all_goals cases ho

theorem ruleDefineSpot_exclusive (p : SpotPayload) {s : State} (h : s.rotation.Exclusive) :
    (ruleDefineSpot p s).1.rotation.Exclusive := by
  unfold ruleDefineSpot
  split
  · exact h
  · next c _ =>
    refine checked_fst (I := fun u => u.rotation.Exclusive) h fun _ => ?_
    split
    · exact h.mapSpot fun _ _ => rfl
    · next hnone =>
      rw [Bool.not_eq_true, Option.isSome_eq_false_iff, Option.isNone_iff_eq_none] at hnone
      refine h.mono (fun _ _ hz => hz) fun z i _ hdefined => ?_
      have hspot := find_id_insertSpot (newSpot p c) i (RotationUnit.forall_id_ne_of_spot_none hnone)
      unfold RotationUnit.spot
      rw [hspot]
      split
      · rfl
      · exact hdefined

theorem SponsorZone.without_shows (id : Nat) (x : SponsorZone) (i : Nat) : (x.without id).shows i = x.shows i := rfl

theorem RotationUnit.onAir_mapZones {f : SponsorZone → SponsorZone} (u : RotationUnit) (i : Nat) (hf : ∀ x, (f x).shows i = x.shows i) :
    (u.mapZones f).onAir i = u.onAir i :=
  onAir_congr fun z => by rw [mapZones_zones, hf]

theorem ruleWithdrawSpot_exclusive (id : Byte) {s : State} (h : s.rotation.Exclusive) :
    (ruleWithdrawSpot id s).1.rotation.Exclusive := by
  have hwithout : (s.rotation.mapZones (SponsorZone.without id.toNat)).Exclusive := h.mapZones fun _ _ hi => hi
  unfold ruleWithdrawSpot
  split
  · exact h
  · split
    · exact h
    · dsimp only
      split
      · exact hwithout.mapSpot fun _ hp => hp
      · next hoff =>
        refine hwithout.deleteSpot ?_
        rw [RotationUnit.onAir_mapZones _ _ fun x => SponsorZone.without_shows id.toNat x _]
        exact Bool.eq_false_iff.mpr hoff

theorem SponsorZone.clearedCredit_shows (reach : Nat → Bool) (x : SponsorZone) (i : Nat) :
    (x.clearedCredit reach).shows i = x.shows i := by
  unfold SponsorZone.shows SponsorZone.clearedCredit
  cases x.showing with
  | none => rfl
  | some g =>
    dsimp only [Option.map_some]
    split
    · rfl
    · rfl

theorem ruleResetTotals_exclusive (id : Byte) {s : State} (h : s.rotation.Exclusive) :
    (ruleResetTotals id s).1.rotation.Exclusive := by
  refine checked_fst (I := fun u => u.rotation.Exclusive) h fun _ => ?_
  have hzones := h.mapZones fun x i (hi : (x.clearedCredit fun x => id.toNat == 0 || x == id.toNat).shows i = true) => by
    rwa [SponsorZone.clearedCredit_shows] at hi
  refine hzones.mono (fun _ _ hz => hz) fun z i _ hdefined => ?_
  have hid : ∀ p : Spot, (if (id.toNat == 0 || p.id == id.toNat) = true then p.cleared else p).id = p.id := by
    intro p
    split
    · rfl
    · rfl
  have hspot := find_id_map hid i s.rotation.spots
  unfold RotationUnit.spot
  rw [hspot, Option.isSome_map]
  exact hdefined

theorem ruleSetRotation_exclusive (zone count : Byte) (ids : List Byte) {s : State} (h : s.rotation.Exclusive) :
    (ruleSetRotation zone count ids s).1.rotation.Exclusive := by
  unfold ruleSetRotation
  split
  · exact h
  · exact checked_fst (I := fun u => u.rotation.Exclusive) h fun _ => h.mapZone fun _ hi => hi

theorem ruleSetSting_exclusive (zone id : Byte) {s : State} (h : s.rotation.Exclusive) :
    (ruleSetSting zone id s).1.rotation.Exclusive := by
  unfold ruleSetSting
  split
  · exact h
  · refine checked_fst (I := fun u => u.rotation.Exclusive) h fun _ => h.mapZone fun i hi => ?_
    split at hi
    · exact hi
    · exact hi

theorem rotationRules_exclusive (i : Instr) (s : State) (ho : commandOwner i = .rotationUnit) (h : s.rotation.Exclusive) :
    (commandRule i).elim True fun r => (r s).1.rotation.Exclusive := by
  cases i
  case defineSpot => exact ruleDefineSpot_exclusive _ h
  case withdrawSpot => exact ruleWithdrawSpot_exclusive _ h
  case setContract =>
    exact checked_fst (I := fun u => u.rotation.Exclusive) h fun _ => h.mapSpot fun _ hp => hp
  case resetTotals => exact ruleResetTotals_exclusive _ h
  case setRotation => exact ruleSetRotation_exclusive _ _ _ h
  case setSting => exact ruleSetSting_exclusive _ _ h
  all_goals cases ho

theorem rotationUnit_reset_exclusive : RotationUnit.reset.Exclusive := by
  have hshows : ∀ (z : ZoneIx) (i : Nat), (RotationUnit.reset.zones[z]).shows i = false := by
    intro z i
    simp [RotationUnit.reset, SponsorZone.shows, SponsorZone.reset]
  refine ⟨fun z z' i hz _ => ?_, fun z i hz => ?_⟩
  · rw [hshows] at hz
    cases hz
  · rw [hshows] at hz
    cases hz

theorem frameEnd_exclusive (r : Bool) {s : State} (h : s.rotation.Exclusive) : (frameEnd r s).1.rotation.Exclusive := by
  have hrotation : (rotationFrameWork (replayFrameWork r s)).1.rotation.Exclusive := by
    obtain ⟨_, _, _, e⟩ := replayFrameWork_replayFrame r s
    refine rotationFrameWork_exclusive ?_
    rw [e]
    exact h
  have hticker := tickerFrameWork_tickerFrame (rotationFrameWork (replayFrameWork r s)).1
  rw [frameEnd_fst, sourcesWork]
  generalize (rotationFrameWork (replayFrameWork r s)).1 = u at hrotation hticker ⊢
  obtain ⟨_, _, e⟩ := hticker
  rw [e]
  exact hrotation

theorem kept_exclusive : Kept fun s => s.rotation.Exclusive where
  powerOn _ _ := rotationUnit_reset_exclusive
  resetLine s _ _ := by
    rw [resetLineLow_frame]
    exact rotationUnit_reset_exclusive
  frameEnd r _ _ h := frameEnd_exclusive r h
  scoreRules := scoreRules_exclusive
  rotationRules := rotationRules_exclusive
  restart i s ho h := by
    cases i
    case restart => exact ruleRestart_exclusive h
    all_goals cases ho

/-- Settles O58, from what the stages of a FRAME_END, the commands and RESTART keep of the rotation unit. -/
theorem stepKeepsOnAirExclusive : Obligations.StepKeepsOnAirExclusive := by
  unfold Obligations.StepKeepsOnAirExclusive
  intro s t h ht
  rw [onAirExclusive_iff] at h ⊢
  exact kept_exclusive.step (fun _ _ h => h) h ht

end Sys2Proof.Machine
end

section
/-! PROOFS. Every step keeps both plans such that they could be put on the screen (R3, R7). -/

namespace Sys2Proof.Machine

/-! ### Plans with one descriptor changed -/

theorem Plan.with_same (p : Plan) (z : ZoneIx) (d : ZoneDesc) : (p.with z d)[z] = d := by
  simp [Plan.with]

theorem Plan.with_other {z y : ZoneIx} (h : y ≠ z) (p : Plan) (d : ZoneDesc) : (p.with z d)[y] = p[y] := by
  have hne : z.val ≠ y.val := fun e => h (Fin.ext e.symm)
  simp [Plan.with, hne]

/-- What holds of the new descriptor and of every old one holds of every descriptor of the changed plan. -/
theorem Plan.forall_with {P : ZoneDesc → Prop} {p : Plan} {z : ZoneIx} {d : ZoneDesc} (hd : P d) (hrest : ∀ y : ZoneIx, P p[y]) :
    ∀ y : ZoneIx, P (p.with z d)[y] := by
  intro y
  by_cases hyz : y = z
  · subst hyz
    rwa [Plan.with_same]
  · rw [Plan.with_other hyz]
    exact hrest y

/-- A descriptor that is not of a kind adds no zone of the kind. -/
theorem Plan.countOn_with_le {d : ZoneDesc} {kind : ZoneSource} (h : d.isOn kind = false) (p : Plan) (z : ZoneIx) :
    (p.with z d).countOn kind ≤ p.countOn kind := by
  refine List.Sublist.length_le (List.monotone_filter_right _ fun y hy => ?_)
  by_cases hyz : y = z
  · subst hyz
    rw [Plan.with_same, h] at hy
    cases hy
  · rwa [Plan.with_other hyz] at hy

theorem ZoneDesc.isOn_of_disabled {d : ZoneDesc} (h : d.enable = false) (kind : ZoneSource) : d.isOn kind = false := by
  rw [ZoneDesc.isOn, h, Bool.false_and]

theorem ZoneDesc.sharesCell_comm (a b : ZoneDesc) : a.sharesCell b = b.sharesCell a := by
  simp only [ZoneDesc.sharesCell]
  generalize decide (a.x.toNat < b.x.toNat + b.w.toNat) = p
  generalize decide (b.x.toNat < a.x.toNat + a.w.toNat) = q
  generalize decide (a.y.toNat < b.y.toNat + b.h.toNat) = r
  generalize decide (b.y.toNat < a.y.toNat + a.h.toNat) = t
  revert p q r t
  decide

theorem scorebugOverlap_eq_false {p : Plan} {z : ZoneIx} {d : ZoneDesc} (h : scorebugOverlap p z d = false) (hon : d.isOn .scorebug = true)
    {y : ZoneIx} (hy : y ≠ z) (hyon : (p[y]).isOn .scorebug = true) : d.sharesCell p[y] = false := by
  rw [scorebugOverlap, hon, Bool.true_and, List.any_eq_false] at h
  have hzone := h y (mem_allZones y)
  rw [hyon, bne_iff_ne.mpr hy, Bool.true_and, Bool.true_and] at hzone
  exact Bool.eq_false_iff.mpr hzone

/-- A plan that could be placed still could with a descriptor changed that is on the screen, of the size its kind asks for and apart from the
other SCOREBUG zones, if the counts of kinds allow it. -/
theorem Plan.Placeable.with {p : Plan} {w h : Nat} (hp : p.Placeable w h) {z : ZoneIx} {d : ZoneDesc}
    (hscreen : d.enable = true → d.onScreen w h = true)
    (hcounts : (p.with z d).countOn .replay ≤ 1 ∧ (p.with z d).countOn .ticker ≤ 1 ∧ (p.with z d).countOn .scorebug ≤ 2 ∧
      (p.with z d).countOn .sponsor ≤ 4)
    (hscorebug : d.isOn .scorebug = true → d.hasSize 16 3 = true)
    (hticker : d.isOn .ticker = true → d.h.toNat = 1 ∧ 4 ≤ d.w.toNat)
    (hapart : d.isOn .scorebug = true → ∀ y : ZoneIx, y ≠ z → (p[y]).isOn .scorebug = true → d.sharesCell p[y] = false) :
    (p.with z d).Placeable w h := by
  obtain ⟨hscreen', -, -, -, -, hscorebug', hticker', hapart'⟩ := hp
  refine ⟨Plan.forall_with (P := fun d => d.enable = true → d.onScreen w h = true) hscreen hscreen',
    hcounts.1, hcounts.2.1, hcounts.2.2.1, hcounts.2.2.2,
    Plan.forall_with (P := fun d => d.isOn .scorebug = true → d.hasSize 16 3 = true) hscorebug hscorebug',
    Plan.forall_with (P := fun d => d.isOn .ticker = true → d.h.toNat = 1 ∧ 4 ≤ d.w.toNat) hticker hticker',
    fun y y' hne hy hy' => ?_⟩
  by_cases hyz : y = z <;> by_cases hyz' : y' = z
  · exact absurd (hyz.trans hyz'.symm) hne
  · subst hyz
    rw [Plan.with_same] at hy ⊢
    rw [Plan.with_other hyz'] at hy' ⊢
    exact hapart hy y' hyz' hy'
  · subst hyz'
    rw [Plan.with_same] at hy' ⊢
    rw [Plan.with_other hyz] at hy ⊢
    rw [ZoneDesc.sharesCell_comm]
    exact hapart hy' y hyz hy
  · rw [Plan.with_other hyz] at hy ⊢
    rw [Plan.with_other hyz'] at hy' ⊢
    exact hapart' y y' hne hy hy'

/-- A disabled descriptor may always be staged. -/
theorem Plan.Placeable.with_disabled {p : Plan} {w h : Nat} (hp : p.Placeable w h) (z : ZoneIx) {d : ZoneDesc} (hd : d.enable = false) :
    (p.with z d).Placeable w h := by
  have hoff := ZoneDesc.isOn_of_disabled hd
  have hle : ∀ kind, (p.with z d).countOn kind ≤ p.countOn kind := fun kind => Plan.countOn_with_le (hoff kind) p z
  obtain ⟨-, hreplay, hticker, hscorebug, hsponsor, -⟩ := id hp
  refine hp.with (by simp [hd]) ⟨?_, ?_, ?_, ?_⟩ (by simp [hoff]) (by simp [hoff]) (by simp [hoff])
  · exact (hle _).trans hreplay
  · exact (hle _).trans hticker
  · exact (hle _).trans hscorebug
  · exact (hle _).trans hsponsor

/-- An enabled descriptor that passes the checks of Table 1.2 may be staged. -/
theorem Plan.Placeable.with_checked {s : State} {z : ZoneIx} {d : ZoneDesc}
    (hp : s.composer.staged.Placeable s.composer.screenW s.composer.screenH) (hchecks : ∀ c ∈ stageChecks s z d, c.1 = false) :
    (s.composer.staged.with z d).Placeable s.composer.screenW s.composer.screenH := by
  simp only [stageChecks, List.forall_mem_cons] at hchecks
  obtain ⟨-, hscreen, -, -, hlimit, hscorebug, hticker, -, hoverlap, -, -⟩ := hchecks
  rw [Bool.not_eq_false'] at hscreen
  simp only [Bool.or_eq_false_iff, decide_eq_false_iff_not, Nat.not_lt] at hlimit
  refine hp.with (fun _ => hscreen) ⟨hlimit.1.1.1, hlimit.1.1.2, hlimit.1.2, hlimit.2⟩ (fun hon => ?_) (fun hon => ?_) fun hon y hy hyon => ?_
  · simpa [hon] using hscorebug
  · simpa [hon] using hticker
  · rw [← Plan.with_other hy s.composer.staged d] at hyon ⊢
    exact scorebugOverlap_eq_false hoverlap hon hy hyon

theorem Plan.Placeable.of_onScreen {p : Plan} {w h w' h' : Nat} (hp : p.Placeable w h)
    (hscreen : ∀ z : ZoneIx, (p[z]).enable = true → (p[z]).onScreen w' h' = true) : p.Placeable w' h' :=
  ⟨hscreen, hp.2⟩

theorem Plan.offScreen_eq_false {p : Plan} {w h : Nat} :
    p.offScreen w h = false ↔ ∀ z : ZoneIx, (p[z]).enable = true → (p[z]).onScreen w h = true := by
  simp [Plan.offScreen, mem_allZones]

theorem Plan.empty_zone (z : ZoneIx) : Plan.empty[z] = ZoneDesc.zero := by
  simp [Plan.empty]

theorem Plan.empty_placeable (w h : Nat) : Plan.empty.Placeable w h := by
  have hoff : ∀ kind, ZoneDesc.zero.isOn kind = false := ZoneDesc.isOn_of_disabled rfl
  have hcount : ∀ kind, Plan.empty.countOn kind = 0 := by
    intro kind
    simp only [Plan.countOn, Plan.empty_zone, hoff, List.filter_false, List.length_nil]
  refine ⟨fun z hz => ?_, ?_, ?_, ?_, ?_, fun z hz => ?_, fun z hz => ?_, fun z z' _ hz _ => ?_⟩
  · rw [Plan.empty_zone] at hz
    cases hz
  · rw [hcount]
    exact Nat.zero_le _
  · rw [hcount]
    exact Nat.zero_le _
  · rw [hcount]
    exact Nat.zero_le _
  · rw [hcount]
    exact Nat.zero_le _
  all_goals
    rw [Plan.empty_zone, hoff] at hz
    cases hz

/-! ### The composer's rules -/

theorem ruleSetScreen_plansPlaceable (w h : Byte) {s : State} (hs : PlansPlaceable s) : PlansPlaceable (ruleSetScreen w h s).1 := by
  refine checked_fst hs fun hchecks => ?_
  simp only [List.forall_mem_cons, Bool.or_eq_false_iff, decide_eq_false_iff_not, Nat.not_lt] at hchecks
  obtain ⟨-, ⟨⟨⟨hw, hw'⟩, hh⟩, hh'⟩, ⟨hlive, hstaged⟩, -, -⟩ := hchecks
  obtain ⟨-, -, -, -, hliveOld, hstagedOld⟩ := hs
  exact ⟨hw, hw', hh, hh', hliveOld.of_onScreen (Plan.offScreen_eq_false.mp hlive),
    hstagedOld.of_onScreen (Plan.offScreen_eq_false.mp hstaged)⟩

theorem stageDescriptor_plansPlaceable {z : ZoneIx} {d : ZoneDesc} {s : State} (hs : PlansPlaceable s)
    (hd : (s.composer.staged.with z d).Placeable s.composer.screenW s.composer.screenH) : PlansPlaceable (stageDescriptor z d s) := by
  obtain ⟨hw, hw', hh, hh', hlive, -⟩ := hs
  exact ⟨hw, hw', hh, hh', hlive, hd⟩

theorem ruleStageZone_plansPlaceable (index : Byte) (p : ZonePayload) {s : State} (hs : PlansPlaceable s) :
    PlansPlaceable (ruleStageZone index p s).1 := by
  obtain ⟨-, -, -, -, -, hstaged⟩ := id hs
  unfold ruleStageZone
  split
  · exact stageDescriptor_plansPlaceable hs (hstaged.with_disabled _ rfl)
  · exact checked_fst hs fun hchecks => stageDescriptor_plansPlaceable hs (Plan.Placeable.with_checked hstaged hchecks)
  · exact hs

theorem ruleCancelStage_plansPlaceable {s : State} (hs : PlansPlaceable s) : PlansPlaceable (ruleCancelStage s).1 := by
  obtain ⟨hw, hw', hh, hh', hlive, -⟩ := hs
  exact ⟨hw, hw', hh, hh', hlive, hlive⟩

theorem ruleSetOutputMode_plansPlaceable (mode : Byte) {s : State} (hs : PlansPlaceable s) :
    PlansPlaceable (ruleSetOutputMode mode s).1 := by
  unfold ruleSetOutputMode
  split
  · exact hs
  · exact hs

theorem ruleSetHouseSlate_plansPlaceable (present : Byte) (base : Word) {s : State} (hs : PlansPlaceable s) :
    PlansPlaceable (ruleSetHouseSlate present base s).1 := by
  unfold ruleSetHouseSlate
  split
  · exact checked_fst hs fun _ => hs
  · exact hs
  · exact hs

theorem ruleSetFont_plansPlaceable (present : Byte) (base : Word) {s : State} (hs : PlansPlaceable s) :
    PlansPlaceable (ruleSetFont present base s).1 := by
  unfold ruleSetFont
  split
  · exact checked_fst hs fun _ => hs
  · exact hs
  · exact hs

theorem composerRules_plansPlaceable (i : Instr) (s : State) (ho : commandOwner i = .composer) (hs : PlansPlaceable s) :
    (commandRule i).elim True fun r => PlansPlaceable (r s).1 := by
  cases i
  case setScreen => exact ruleSetScreen_plansPlaceable _ _ hs
  case stageZone => exact ruleStageZone_plansPlaceable _ _ hs
  case applyPlan => exact hs
  case cancelStage => exact ruleCancelStage_plansPlaceable hs
  case setOutputMode => exact ruleSetOutputMode_plansPlaceable _ hs
  case setHouseSlate => exact ruleSetHouseSlate_plansPlaceable _ _ hs
  case setFont => exact ruleSetFont_plansPlaceable _ _ hs
  all_goals cases ho

theorem ruleRestart_plansPlaceable {s : State} (hs : PlansPlaceable s) : PlansPlaceable (ruleRestart s).1 := by
  obtain ⟨hw, hw', hh, hh', -, -⟩ := hs
  obtain ⟨_, _, _, _, _, hframe⟩ := restartRotation_showingFrame s
  rw [ruleRestart_fst, hframe]
  exact ⟨hw, hw', hh, hh', Plan.empty_placeable _ _, Plan.empty_placeable _ _⟩

theorem planNext_placeable {s : State} (hs : PlansPlaceable s) :
    s.composer.planNext.Placeable s.composer.screenW s.composer.screenH := by
  obtain ⟨-, -, -, -, hlive, hstaged⟩ := hs
  unfold Composer.planNext
  split
  · exact hstaged
  · exact hlive

theorem frameStart_plansPlaceable {s : State} (hs : PlansPlaceable s) : PlansPlaceable (frameStart s) := by
  have hnext := planNext_placeable hs
  obtain ⟨hw, hw', hh, hh', -, hstaged⟩ := hs
  obtain ⟨_, _, _, _, _, e⟩ := frameStart_frame s
  rw [e]
  exact ⟨hw, hw', hh, hh', hnext, hstaged⟩

theorem composer_reset_plansPlaceable :
    8 ≤ Composer.reset.screenW ∧ Composer.reset.screenW ≤ 128 ∧ 4 ≤ Composer.reset.screenH ∧ Composer.reset.screenH ≤ 48 ∧
    Composer.reset.live.Placeable Composer.reset.screenW Composer.reset.screenH ∧
    Composer.reset.staged.Placeable Composer.reset.screenW Composer.reset.screenH :=
  ⟨by decide, by decide, by decide, by decide, Plan.empty_placeable _ _, Plan.empty_placeable _ _⟩

theorem kept_plansPlaceable : Kept PlansPlaceable where
  powerOn _ _ := composer_reset_plansPlaceable
  resetLine s _ _ := by
    rw [resetLineLow_frame]
    exact composer_reset_plansPlaceable
  frameStart _ _ h := frameStart_plansPlaceable h
  composerRules := composerRules_plansPlaceable
  restart i s ho h := by
    cases i
    case restart => exact ruleRestart_plansPlaceable h
    all_goals cases ho

/-- Settles O60, from what the composer's rules, a FRAME_START and RESTART keep of the plans. -/
theorem stepKeepsPlansPlaceable : Obligations.StepKeepsPlansPlaceable := by
  unfold Obligations.StepKeepsPlansPlaceable
  intro s t h ht
  exact kept_plansPlaceable.step (fun _ _ h => h) h ht

end Sys2Proof.Machine
end

section
/-! PROOFS. The slot table (R29, R35): slots by their index, the frames present, the held count, and which slot the intake takes. -/

namespace Sys2Proof.Machine

/-! ### Slots with their indices -/

theorem indexedFrom_eq (i : Nat) (l : List SlotRecord) : indexedFrom i l = (l.zipIdx i).map Prod.swap := by
  induction l generalizing i with
  | nil => rfl
  | cons r rest ih => rw [indexedFrom, ih, List.zipIdx_cons, List.map_cons, Prod.swap_prod_mk]

theorem mem_indexed {n : Intake} {k : Nat} {r : SlotRecord} : (k, r) ∈ n.indexed ↔ n.slots[k]? = some r := by
  rw [Intake.indexed, indexedFrom_eq, List.mem_map]
  constructor
  · rintro ⟨⟨x, i⟩, hx, hswap⟩
    cases hswap
    exact List.mem_zipIdx_iff_getElem?.mp hx
  · exact fun h => ⟨(r, k), List.mem_zipIdx_iff_getElem?.mpr h, rfl⟩

theorem indexed_map_fst (n : Intake) : n.indexed.map Prod.fst = List.range' 0 n.slots.length := by
  rw [Intake.indexed, indexedFrom_eq, List.map_map, ← List.zipIdx_map_snd]
  rfl

theorem indexed_pairwise (n : Intake) : n.indexed.Pairwise fun p q => p.1 < q.1 := by
  have hrange : (n.indexed.map Prod.fst).Pairwise (· < ·) := by
    rw [indexed_map_fst]
    exact List.pairwise_lt_range'
  exact List.pairwise_map.mp hrange

/-- The first slot by index that satisfies a test. -/
theorem find_indexed {n : Intake} {test : Nat × SlotRecord → Bool} {k : Nat} {r : SlotRecord} :
    n.indexed.find? test = some (k, r) ↔
      n.slots[k]? = some r ∧ test (k, r) = true ∧ ∀ i < k, ∀ y, n.slots[i]? = some y → test (i, y) = false := by
  rw [List.find?_eq_some_iff_append]
  have hpairwise := indexed_pairwise n
  constructor
  · rintro ⟨htest, before, after, hsplit, hbefore⟩
    rw [hsplit, List.pairwise_append, List.pairwise_cons] at hpairwise
    obtain ⟨-, ⟨hafter, -⟩, -⟩ := hpairwise
    refine ⟨mem_indexed.mp (by simp [hsplit]), htest, fun i hi y hy => ?_⟩
    have hmem := mem_indexed.mpr hy
    rw [hsplit, List.mem_append, List.mem_cons] at hmem
    obtain hmem | hmem | hmem := hmem
    · simpa using hbefore _ hmem
    · cases hmem
      exact absurd hi (Nat.lt_irrefl _)
    · exact absurd (hafter _ hmem) (Nat.not_lt.mpr (Nat.le_of_lt hi))
  · rintro ⟨hk, htest, hfirst⟩
    obtain ⟨before, after, hsplit⟩ := List.append_of_mem (mem_indexed.mpr hk)
    refine ⟨htest, before, after, hsplit, fun p hp => ?_⟩
    rw [hsplit, List.pairwise_append] at hpairwise
    have hlt := hpairwise.2.2 p hp (k, r) List.mem_cons_self
    have hslot : n.slots[p.1]? = some p.2 := mem_indexed.mp (by rw [hsplit]; exact List.mem_append_left _ hp)
    rw [hfirst p.1 hlt p.2 hslot, Bool.not_false]

theorem find_indexed_none {n : Intake} {test : Nat × SlotRecord → Bool} :
    n.indexed.find? test = none ↔ ∀ i y, n.slots[i]? = some y → test (i, y) = false := by
  rw [List.find?_eq_none]
  constructor
  · intro h i y hy
    simpa using h (i, y) (mem_indexed.mpr hy)
  · intro h p hp
    simpa using h p.1 p.2 (mem_indexed.mp hp)

/-! ### Filling slots -/

theorem mem_fillingSlots {n : Intake} {k : Nat} : k ∈ n.fillingSlots ↔ ∃ r, n.slots[k]? = some r ∧ r.state = .filling := by
  simp only [Intake.fillingSlots, List.mem_map, List.mem_filter, beq_iff_eq]
  constructor
  · rintro ⟨⟨_, r⟩, ⟨hr, hstate⟩, rfl⟩
    exact ⟨r, mem_indexed.mp hr, hstate⟩
  · rintro ⟨r, hr, hstate⟩
    exact ⟨(k, r), ⟨mem_indexed.mpr hr, hstate⟩, rfl⟩

theorem fillingSlots_nodup (n : Intake) : n.fillingSlots.Nodup := by
  have hall : (n.indexed.map Prod.fst).Nodup := by
    rw [indexed_map_fst]
    exact List.nodup_range'
  exact hall.sublist (List.filter_sublist.map _)

theorem fillingSlots_eq_iff {n : Intake} {o : Option Nat} :
    n.fillingSlots = o.toList ↔ ∀ k, (∃ r, n.slots[k]? = some r ∧ r.state = .filling) ↔ o = some k := by
  have hmem : (∀ k, (∃ r, n.slots[k]? = some r ∧ r.state = .filling) ↔ o = some k) ↔ ∀ k, k ∈ n.fillingSlots ↔ k ∈ o.toList := by
    simp only [mem_fillingSlots, Option.mem_toList]
  rw [hmem]
  constructor
  · intro h k
    rw [h]
  · intro h
    have hperm : n.fillingSlots.Perm o.toList :=
      (List.perm_ext_iff_of_nodup (fillingSlots_nodup n) (by cases o <;> simp)).mpr h
    cases o with
    | none => exact List.perm_nil.mp hperm
    | some k => exact List.perm_singleton.mp hperm

/-! ### Frames present -/

/-- The frame number of the slot at an index, if that slot is READY or HELD. -/
def Intake.frameAt (n : Intake) (k : Nat) : Option Word := n.slots[k]?.bind fun r => r.state.frame

theorem frameAt_of_slot {n : Intake} {k : Nat} {r : SlotRecord} (h : n.slots[k]? = some r) : n.frameAt k = r.state.frame := by
  rw [Intake.frameAt, h]
  rfl

theorem frameAt_eq_some {n : Intake} {k : Nat} {f : Word} :
    n.frameAt k = some f ↔ ∃ r, n.slots[k]? = some r ∧ r.state.frame = some f := by
  rw [Intake.frameAt, Option.bind_eq_some_iff]

theorem mem_frames {n : Intake} {f : Word} : f ∈ n.frames ↔ ∃ k, n.frameAt k = some f := by
  rw [Intake.frames, List.mem_filterMap]
  simp only [frameAt_eq_some, List.mem_iff_getElem?]
  constructor
  · rintro ⟨r, ⟨k, hk⟩, hf⟩
    exact ⟨k, r, hk, hf⟩
  · rintro ⟨k, r, hk, hf⟩
    exact ⟨r, ⟨k, hk⟩, hf⟩

theorem present_iff_mem {n : Intake} {f : Word} : n.present f = true ↔ f ∈ n.frames := by
  simp only [Intake.present, List.any_eq_true, beq_iff_eq, Intake.frames, List.mem_filterMap]

theorem present_iff {n : Intake} {f : Word} : n.present f = true ↔ ∃ k, n.frameAt k = some f := present_iff_mem.trans mem_frames

/-- The frame numbers are distinct exactly if no two slots carry the same. -/
theorem frames_nodup_iff {n : Intake} :
    n.frames.Nodup ↔ ∀ i j f, n.frameAt i = some f → n.frameAt j = some f → i = j := by
  rw [Intake.frames, List.Nodup, List.pairwise_filterMap, List.pairwise_iff_getElem]
  constructor
  · intro h i j f hi hj
    obtain ⟨r, hr, hrf⟩ := frameAt_eq_some.mp hi
    obtain ⟨q, hq, hqf⟩ := frameAt_eq_some.mp hj
    obtain ⟨hil, rfl⟩ := List.getElem?_eq_some_iff.mp hr
    obtain ⟨hjl, rfl⟩ := List.getElem?_eq_some_iff.mp hq
    obtain hlt | heq | hgt := Nat.lt_trichotomy i j
    · exact absurd rfl (h i j hil hjl hlt f hrf f hqf)
    · exact heq
    · exact absurd rfl (h j i hjl hil hgt f hqf f hrf)
  · intro h i j hil hjl hlt f hf g hg hfg
    subst hfg
    have hi : n.frameAt i = some f := frameAt_eq_some.mpr ⟨_, List.getElem?_eq_getElem hil, hf⟩
    have hj : n.frameAt j = some f := frameAt_eq_some.mpr ⟨_, List.getElem?_eq_getElem hjl, hg⟩
    exact absurd (h i j f hi hj) (Nat.ne_of_lt hlt)

/-- The slot of a frame, when no two slots carry the same. -/
theorem slotOf_eq_some {n : Intake} {f : Word} {k : Nat} (h : n.slotOf f = some k) : n.frameAt k = some f := by
  obtain ⟨⟨i, r⟩, hfind, rfl⟩ := Option.map_eq_some_iff.mp h
  obtain ⟨hslot, htest, -⟩ := find_indexed.mp hfind
  exact frameAt_eq_some.mpr ⟨r, hslot, by simpa using htest⟩

/-! ### Slots after a change -/

theorem setState_slots (n : Intake) (k : Nat) (st : SlotState) (i : Nat) :
    (n.setState k st).slots[i]? = if i = k then n.slots[i]?.map fun r => { r with state := st } else n.slots[i]? := by
  rw [Intake.setState, List.getElem?_modify]
  by_cases h : i = k
  · subst h
    simp
  · have h' : k ≠ i := fun e => h e.symm
    simp [h, h']

theorem startFilling_slots (n : Intake) (k i : Nat) :
    (n.startFilling k).slots[i]? = if i = k then n.slots[i]?.map fun r => { r with state := .filling } else n.slots[i]? :=
  setState_slots n k .filling i

theorem setState_frameAt (n : Intake) (k : Nat) (st : SlotState) (i : Nat) :
    (n.setState k st).frameAt i = if i = k then n.slots[i]?.bind fun _ => st.frame else n.frameAt i := by
  rw [Intake.frameAt, setState_slots]
  split
  · cases n.slots[i]? <;> rfl
  · rfl

theorem length_setState (n : Intake) (k : Nat) (st : SlotState) : (n.setState k st).slots.length = n.slots.length :=
  List.length_modify ..

/-! ### The held count -/

theorem heldCount_eq (n : Intake) : n.heldCount = n.slots.countP fun r => r.state.isHeld := List.countP_eq_length_filter.symm

/-- The held count when one slot takes another state. -/
theorem heldCount_setState {n : Intake} {k : Nat} {r : SlotRecord} (h : n.slots[k]? = some r) (st : SlotState) :
    (n.setState k st).heldCount + (if r.state.isHeld = true then 1 else 0) = n.heldCount + if st.isHeld = true then 1 else 0 := by
  obtain ⟨hk, rfl⟩ := List.getElem?_eq_some_iff.mp h
  have hset : (n.setState k st).slots = n.slots.set k { n.slots[k] with state := st } := by
    rw [Intake.setState, List.modify_eq_set_getElem?, h]
    rfl
  rw [heldCount_eq, hset, List.countP_set hk, heldCount_eq]
  have hle : (if n.slots[k].state.isHeld = true then 1 else 0) ≤ n.slots.countP fun r => r.state.isHeld := by
    split
    · next hheld => exact List.countP_pos_iff.mpr ⟨_, List.getElem_mem hk, hheld⟩
    · exact Nat.zero_le _
  dsimp only
  omega

theorem heldCount_setState_none {n : Intake} {k : Nat} (h : n.slots[k]? = none) (st : SlotState) : n.setState k st = n := by
  rw [Intake.setState, List.modify_eq_set_getElem?, h]
  rfl

/-! ### Which slot the intake takes (R35) -/

theorem freeSlot_eq_some {n : Intake} {k : Nat} :
    n.freeSlot = some k ↔
      (∃ r, n.slots[k]? = some r ∧ r.state = .free) ∧ ∀ i < k, ∀ y, n.slots[i]? = some y → y.state ≠ .free := by
  rw [Intake.freeSlot, Option.map_eq_some_iff]
  constructor
  · rintro ⟨⟨i, r⟩, hfind, rfl⟩
    obtain ⟨hslot, htest, hfirst⟩ := find_indexed.mp hfind
    exact ⟨⟨r, hslot, by simpa using htest⟩, fun j hj y hy => by simpa using hfirst j hj y hy⟩
  · rintro ⟨⟨r, hslot, hfree⟩, hfirst⟩
    exact ⟨(k, r), find_indexed.mpr ⟨hslot, by simp [hfree], fun i hi y hy => by simpa using hfirst i hi y hy⟩, rfl⟩

theorem freeSlot_eq_none {n : Intake} : n.freeSlot = none ↔ ∀ (i : Nat) (y : SlotRecord), n.slots[i]? = some y → y.state ≠ .free := by
  rw [Intake.freeSlot, Option.map_eq_none_iff, find_indexed_none]
  simp

/-- The completion sequence of a slot that may be reclaimed. -/
def reclaimSeq (r : Roller) (excluded : Option Nat) (p : Nat × SlotRecord) : Option Word :=
  if reclaimable r excluded p then p.2.state.readySeq else none

/-- The slots that may be reclaimed, with their completion sequences, in ascending order of index. -/
def Intake.reclaims (n : Intake) (r : Roller) (excluded : Option Nat) : List (Nat × Word) :=
  n.indexed.filterMap fun p => (reclaimSeq r excluded p).map fun q => (p.1, q)

theorem oldestReclaimable_eq (n : Intake) (r : Roller) (excluded : Option Nat) :
    n.oldestReclaimable r excluded = ((n.reclaims r excluded).foldl (fun best p => older n best p.1 p.2) none).map Prod.fst := by
  rw [Intake.oldestReclaimable, Intake.reclaims, List.foldl_filterMap]
  congr 2
  funext best p
  unfold reclaimSeq
  cases hseq : p.2.state.readySeq with
  | none => simp
  | some q =>
    dsimp only
    split
    · rfl
    · rfl

/-- One entry comes before another in the order of reclaim: it is older, or of the same age with the lower index (R35). -/
def reclaimedBefore (n : Intake) (p q : Nat × Word) : Prop := n.age q.2 < n.age p.2 ∨ (n.age q.2 = n.age p.2 ∧ p.1 < q.1)

theorem older_foldl_none (n : Intake) (l : List (Nat × Word)) :
    l.foldl (fun best p => older n best p.1 p.2) none = none ↔ l = [] := by
  induction l using List.reverseRecOn with
  | nil => simp
  | append_singleton l p _ =>
    rw [List.foldl_append, List.foldl_cons, List.foldl_nil]
    cases l.foldl (fun best p => older n best p.1 p.2) none with
    | none => simp [older]
    | some b =>
      simp only [older]
      split <;> simp

/-- What a search over entries in ascending order of index finds: the oldest, and of the oldest the one of lowest index. -/
theorem older_foldl_some {n : Intake} {l : List (Nat × Word)} (hl : l.Pairwise fun p q => p.1 < q.1) {b : Nat × Word}
    (h : l.foldl (fun best p => older n best p.1 p.2) none = some b) : b ∈ l ∧ ∀ p ∈ l, p ≠ b → reclaimedBefore n b p := by
  induction l using List.reverseRecOn generalizing b with
  | nil => cases h
  | append_singleton l p ih =>
    obtain ⟨hl, -, hlast⟩ := List.pairwise_append.mp hl
    rw [List.foldl_append, List.foldl_cons, List.foldl_nil] at h
    cases hbest : l.foldl (fun best p => older n best p.1 p.2) none with
    | none =>
      rw [hbest] at h
      obtain rfl := Option.some.inj h
      obtain rfl := (older_foldl_none n l).mp hbest
      refine ⟨by simp, fun q hq hne => ?_⟩
      simp only [List.nil_append, List.mem_singleton] at hq
      exact absurd hq hne
    | some c =>
      obtain ⟨hc, hfirst⟩ := ih hl hbest
      rw [hbest] at h
      simp only [older] at h
      split at h
      · next hage =>
        obtain rfl := Option.some.inj h
        refine ⟨by simp, fun q hq hne => .inl ?_⟩
        obtain hq | hq := List.mem_append.mp hq
        · by_cases hqc : q = c
          · subst hqc
            exact hage
          · obtain hlt | ⟨heq, -⟩ := hfirst q hq hqc
            · exact hlt.trans hage
            · exact heq.trans_lt hage
        · exact absurd (List.mem_singleton.mp hq) hne
      · next hage =>
        obtain rfl := Option.some.inj h
        refine ⟨List.mem_append_left _ hc, fun q hq hne => ?_⟩
        obtain hq | hq := List.mem_append.mp hq
        · exact hfirst q hq hne
        · obtain rfl := List.mem_singleton.mp hq
          have hindex := hlast c hc q List.mem_cons_self
          obtain hlt | heq := Nat.lt_or_eq_of_le (Nat.not_lt.mp hage)
          · exact .inl hlt
          · exact .inr ⟨heq, hindex⟩

/-- A slot that may be reclaimed: READY, not pinned, not named by the show plan, and not the one excluded (R35). -/
theorem mem_reclaims {n : Intake} {r : Roller} {excluded : Option Nat} {k : Nat} {q : Word} :
    (k, q) ∈ n.reclaims r excluded ↔
      ∃ y, n.slots[k]? = some y ∧ y.state.readySeq = some q ∧ y.pins = 0 ∧ r.namesSlot y.state = false ∧ excluded ≠ some k := by
  simp only [Intake.reclaims, List.mem_filterMap, reclaimSeq, Option.map_eq_some_iff]
  constructor
  · rintro ⟨⟨i, y⟩, hy, _, hseq, hpair⟩
    cases hpair
    split at hseq
    · next hmay =>
      simp only [reclaimable, Bool.and_eq_true, beq_iff_eq, Bool.not_eq_true', bne_iff_ne] at hmay
      obtain ⟨⟨⟨-, hpins⟩, hnames⟩, hexcluded⟩ := hmay
      exact ⟨y, mem_indexed.mp hy, hseq, hpins, hnames, hexcluded⟩
    · cases hseq
  · rintro ⟨y, hy, hseq, hpins, hnames, hexcluded⟩
    have hmay : reclaimable r excluded (k, y) = true := by simp [reclaimable, hseq, hpins, hnames, hexcluded]
    exact ⟨(k, y), mem_indexed.mpr hy, q, by rw [if_pos hmay, hseq], rfl⟩

theorem reclaims_pairwise (n : Intake) (r : Roller) (excluded : Option Nat) :
    (n.reclaims r excluded).Pairwise fun p q => p.1 < q.1 := by
  rw [Intake.reclaims, List.pairwise_filterMap]
  refine (indexed_pairwise n).imp fun {p q} hlt b hb c hc => ?_
  obtain ⟨_, -, rfl⟩ := Option.map_eq_some_iff.mp hb
  obtain ⟨_, -, rfl⟩ := Option.map_eq_some_iff.mp hc
  exact hlt

theorem oldestReclaimable_eq_none {n : Intake} {r : Roller} {excluded : Option Nat} :
    n.oldestReclaimable r excluded = none ↔ ∀ k q, (k, q) ∉ n.reclaims r excluded := by
  rw [oldestReclaimable_eq, Option.map_eq_none_iff, older_foldl_none, List.eq_nil_iff_forall_not_mem]
  exact ⟨fun h k q => h (k, q), fun h p => h p.1 p.2⟩

/-- The slot reclaimed is the oldest that may be, and of those the one of lowest index (R35). -/
theorem oldestReclaimable_eq_some {n : Intake} {r : Roller} {excluded : Option Nat} {k : Nat}
    (h : n.oldestReclaimable r excluded = some k) :
    ∃ q, (k, q) ∈ n.reclaims r excluded ∧ ∀ p ∈ n.reclaims r excluded, p ≠ (k, q) → reclaimedBefore n (k, q) p := by
  rw [oldestReclaimable_eq] at h
  obtain ⟨⟨_, q⟩, hfold, rfl⟩ := Option.map_eq_some_iff.mp h
  exact ⟨q, older_foldl_some (reclaims_pairwise n r excluded) hfold⟩

/-- A slot the intake may take: FREE, or one that may be reclaimed. -/
def Intake.takeable (n : Intake) (r : Roller) (excluded : Option Nat) (k : Nat) : Prop :=
  ∃ y, n.slots[k]? = some y ∧
    (y.state = .free ∨ (y.state.readySeq.isSome = true ∧ y.pins = 0 ∧ r.namesSlot y.state = false ∧ excluded ≠ some k))

/-- The intake takes a slot it may take, or has none. -/
theorem takeSlot_cases (r : Roller) (excluded : Option Nat) (n : Intake) :
    (∃ k, n.takeable r excluded k ∧ n.takeSlot r excluded = n.startFilling k) ∨
    n.takeSlot r excluded = { n with intakeSlot := none } := by
  unfold Intake.takeSlot
  split
  · next k hk =>
    obtain ⟨⟨y, hy, hfree⟩, -⟩ := freeSlot_eq_some.mp hk
    exact .inl ⟨k, ⟨y, hy, .inl hfree⟩, rfl⟩
  · split
    · next k hk =>
      obtain ⟨q, hq, -⟩ := oldestReclaimable_eq_some hk
      obtain ⟨y, hy, hseq, hpins, hnames, hexcluded⟩ := mem_reclaims.mp hq
      exact .inl ⟨k, ⟨y, hy, .inr ⟨by rw [hseq]; rfl, hpins, hnames, hexcluded⟩⟩, rfl⟩
    · exact .inr rfl

end Sys2Proof.Machine
end

section
/-! PROOFS. What the clock unit's tick and commands keep, if the clock unit, the console, every raised flag and every cut of a roll keep
it (R60, R66, R71). -/

namespace Sys2Proof.Machine

/-- A property of states that a change of the clock unit between ticks or of the console, a raised flag and the cut of a roll on a clock
start keep. -/
structure KeptByRequests (I : State → Prop) : Prop where
  clock : ∀ s c, c.venue = s.clock.venue → I s → I { s with clock := c }
  console : ∀ s k, k.seeded = s.console.seeded → I s → I { s with console := k }
  raise : ∀ f s, I s → I (s.raise f)
  cut : ∀ s, s.roller.state ≠ .idle → I s → I { s with roller := s.roller.endIdle .clock }

/-- A property that the clock unit's work of a tick keeps too. -/
structure KeptByClock (I : State → Prop) : Prop extends KeptByRequests I where
  tick : ∀ s, I s → I { s with clock := s.clock.tick.1 }
  seed : ∀ lines s, I s → I (seedLines lines s)

theorem ClockUnit.hornEventIf_venue (b : Bool) (d : Nat) (c : ClockUnit) : (c.hornEventIf b d).venue = c.venue := by
  cases b <;> rfl

theorem ClockUnit.periodEnded_venue (c : ClockUnit) : c.periodEnded.venue = c.venue := ClockUnit.hornEventIf_venue _ _ _

section
variable {I : State → Prop} (K : KeptByRequests I)
include K

theorem KeptByRequests.raiseIf (c : Bool) (f : Flag) {s : State} (h : I s) : I (s.raiseIf c f) := by
  unfold State.raiseIf
  split
  · exact K.raise f s h
  · exact h

theorem KeptByRequests.captureOn (e : CaptureEvent) (n : Fin 4) {s : State} (h : I s) : I (captureOn e n s) := by
  unfold Machine.captureOn
  dsimp only
  split
  · exact K.raise _ _ (K.console _ _ rfl h)
  · exact h

theorem KeptByRequests.fireCapture (e : CaptureEvent) {s : State} (h : I s) : I (fireCapture e s) :=
  K.captureOn e 3 (K.captureOn e 2 (K.captureOn e 1 (K.captureOn e 0 h)))

theorem KeptByRequests.fireCaptureIf (c : Bool) (e : CaptureEvent) {s : State} (h : I s) : I (fireCaptureIf c e s) := by
  unfold Machine.fireCaptureIf
  split
  · exact K.fireCapture e h
  · exact h

theorem KeptByRequests.handOn (e : ClockEvents) {s : State} (h : I s) : I (handOn e s) := by
  unfold Machine.handOn
  exact K.fireCaptureIf _ _ (K.fireCaptureIf _ _ (K.fireCaptureIf _ _ (K.fireCaptureIf _ _
    (K.raiseIf _ _ (K.raiseIf _ _ (K.raiseIf _ _ (K.raiseIf _ _ h)))))))

theorem KeptByRequests.cutOnClock {s : State} (h : I s) : I (cutOnClock s) := by
  unfold Machine.cutOnClock
  split
  · next hcut =>
    rw [Bool.and_eq_true, bne_iff_ne] at hcut
    exact K.raise _ _ (K.cut s hcut.1 h)
  · exact h

theorem KeptByRequests.gamePeriodEnd {s : State} (h : I s) : I (gamePeriodEnd s) := K.fireCapture _ (K.raise _ _ (K.clock s _ (ClockUnit.periodEnded_venue _) h))

theorem KeptByRequests.startClock {s : State} (h : I s) : I (startClock s).1 := by
  unfold Machine.startClock
  split
  · exact K.fireCapture _ (K.cutOnClock (K.clock s _ rfl h))
  · exact h
  · exact h

theorem KeptByRequests.stopClock {s : State} (h : I s) : I (stopClock s).1 := by
  unfold Machine.stopClock
  split
  · exact K.fireCapture _ (K.clock s _ rfl h)
  · exact h
  · exact h

theorem KeptByRequests.shotStart {s : State} (h : I s) : I (shotStart s).1 := by
  unfold Machine.shotStart
  split
  · exact h
  · exact K.clock s _ rfl h
  · exact h
  · exact h

theorem KeptByRequests.shotStop {s : State} (h : I s) : I (shotStop s).1 := by
  unfold Machine.shotStop
  split
  · exact K.clock s _ rfl h
  · exact h
  · exact h
  · exact h

theorem KeptByRequests.decideRequest (q : LineRequest) {s : State} (h : I s) : I (decideRequest q s).1 := by
  cases q with
  | start => exact K.startClock h
  | stop => exact K.stopClock h
  | shotReset => exact K.clock s _ rfl h
  | shotToggle =>
    unfold Machine.decideRequest shotToggle
    dsimp only
    split
    · exact K.shotStop h
    · exact K.shotStart h

theorem KeptByRequests.makeRequest (q : LineRequest) {s : State} (h : I s) : I (makeRequest q s) := by
  have hdecide := K.decideRequest q h
  unfold Machine.makeRequest
  dsimp only
  split
  · exact hdecide
  · exact K.raise _ _ hdecide

theorem KeptByRequests.edgeActs (n : Fin 8) (raw : Bool) {s : State} (h : I s) : I (edgeActs n raw s) := by
  have hcapture := K.fireCapture (.line n raw) h
  unfold Machine.edgeActs
  dsimp only
  split
  · exact K.makeRequest _ hcapture
  · exact hcapture

theorem KeptByRequests.sampleLine (lines : Byte) (n : Fin 8) {s : State} (h : I s) : I (sampleLine lines n s) := by
  unfold Machine.sampleLine
  dsimp only
  split
  · exact K.edgeActs _ _ (K.console s _ rfl h)
  · exact K.console s _ rfl h

theorem KeptByRequests.ruleAdjustClock (delta : Word) {s : State} (h : I s) : I (ruleAdjustClock delta s).1 := by
  unfold Machine.ruleAdjustClock adjustClock
  split
  · exact h
  · split
    · exact h
    · dsimp only
      split
      · split
        · exact K.gamePeriodEnd (K.clock s _ rfl h)
        · exact K.clock s _ rfl h
      · exact K.clock s _ rfl h

theorem KeptByRequests.clockRules (i : Instr) (s : State) (ho : commandOwner i = .clockUnit) (h : I s) :
    (commandRule i).elim True fun r => I (r s).1 := by
  cases i
  case startClock => exact K.startClock h
  case adjustClock => exact K.ruleAdjustClock _ h
  case stopClock => exact K.stopClock h
  case shotStart => exact K.shotStart h
  case shotStop => exact K.shotStop h
  case shotReset => exact K.clock s _ rfl h
  case shotBlank => exact K.clock s _ rfl h
  case soundHorn => exact checked_fst h fun _ => K.clock s _ rfl h
  case setHorn =>
    dsimp only [commandRule, Option.elim_some, ruleSetHorn]
    split
    · exact h
    · exact checked_fst h fun _ => K.clock s _ rfl h
  case setShotClock =>
    dsimp only [commandRule, Option.elim_some, ruleSetShotClock]
    split
    · exact checked_fst h fun _ => K.clock s _ rfl h
    · exact h
  case setMark =>
    dsimp only [commandRule, Option.elim_some, ruleSetMark]
    split
    · exact h
    · refine checked_fst h fun _ => ?_
      dsimp only
      split
      · exact K.clock s _ rfl h
      · exact K.clock s _ rfl h
  case setGameClock =>
    dsimp only [commandRule, Option.elim_some, ruleSetGameClock]
    split
    · exact checked_fst h fun _ => K.clock s _ rfl h
    · exact h
  all_goals cases ho

end

section
variable {I : State → Prop} (K : KeptByClock I)
include K

theorem KeptByClock.tickPart (lines : Byte) (p : TickPart) {r : State × TickEvents} (h : I r.1) : I (tickPart lines p r).1 := by
  cases p with
  | clockWork => exact K.handOn _ (K.tick r.1 h)
  | line n =>
    unfold Machine.tickPart
    dsimp only
    split
    · exact K.sampleLine lines n h
    · exact h

theorem KeptByClock.tickRun (lines : Byte) : ∀ (l : List TickPart) {r : State × TickEvents}, I r.1 → I (tickRun lines l r).1
  | [], _, h => h
  | p :: rest, _, h => KeptByClock.tickRun lines rest (K.tickPart lines p h)

theorem KeptByClock.millisecondTick (t : TickInput) {s : State} (h : I s) : I (millisecondTick t s).1 := by
  have hrun := K.tickRun t.lines (completeOrder t.order) (r := (s, { clock := ClockEvents.none, edges := [] })) h
  unfold Machine.millisecondTick
  dsimp only at hrun ⊢
  split
  · exact hrun
  · exact K.seed _ _ hrun

end

end Sys2Proof.Machine
end

section
/-! PROOFS. Every step keeps the slot table, the show plan and the pins in agreement (R21, R29, R33, R37, R46). -/

namespace Sys2Proof.Machine

/-! ### The three parts by the index of a slot and the number of a frame -/

/-- The FILLING slot is the intake slot. -/
def Intake.FillsIntakeSlot (n : Intake) : Prop :=
  ∀ k, (∃ r, n.slots[k]? = some r ∧ r.state = .filling) ↔ n.intakeSlot = some k

/-- The slot table has the declared number of slots, and with no ring there is neither a slot nor an intake slot. -/
def Intake.FitsRing (n : Intake) : Prop :=
  match n.ring with
  | some r => n.slots.length = r.count ∧ 4 ≤ r.count ∧ r.count ≤ 64
  | none => n.slots = [] ∧ n.intakeSlot = none

theorem slotTableSound_iff (n : Intake) :
    SlotTableSound n ↔ n.FillsIntakeSlot ∧ n.frames.Nodup ∧ n.heldCount ≤ n.holdLimit ∧ n.FitsRing := by
  rw [SlotTableSound, fillingSlots_eq_iff]
  rfl

theorem Roller.names_iff {r : Roller} {f : Word} : r.names f = true ↔ ∃ p, r.showPlan = some p ∧ (p.a = f ∨ p.b = some f) := by
  unfold Roller.names
  cases r.showPlan <;> simp

/-- Every frame the show plan names is present, said frame by frame. -/
theorem planPresent_iff (r : Roller) (n : Intake) :
    PlanPresent r n ↔ (r.state = .idle → r.showPlan = none) ∧ ∀ f, r.names f = true → n.present f = true := by
  refine and_congr_right fun _ => ⟨fun h f hf => ?_, fun h p hp => ⟨?_, fun b hb => ?_⟩⟩
  · obtain ⟨p, hp, rfl | hb⟩ := Roller.names_iff.mp hf
    · exact (h p hp).1
    · exact (h p hp).2 f hb
  · exact h p.a (Roller.names_iff.mpr ⟨p, hp, .inl rfl⟩)
  · exact h b (Roller.names_iff.mpr ⟨p, hp, .inr hb⟩)

/-- The pins a list of held slots makes, and what they allow, said slot by slot. -/
def Intake.Pinned (pins : List Nat) (n : Intake) : Prop :=
  (∀ (k : Nat) (r : SlotRecord), n.slots[k]? = some r → r.pins = pins.count k ∧ (0 < r.pins → r.state.frame.isSome = true)) ∧
  ∀ k ∈ pins, k < n.slots.length

theorem pinsSound_iff (c : Composer) (n : Intake) : PinsSound c n ↔ n.Pinned c.pins := by
  refine and_congr_left fun _ => ⟨fun h k r hr => h (k, r) (mem_indexed.mpr hr), fun h p hp => h p.1 p.2 (mem_indexed.mp hp)⟩

theorem replaySound_iff (s : State) :
    ReplaySound s ↔ SlotTableSound s.intake ∧ PlanPresent s.roller s.intake ∧ s.intake.Pinned s.composer.pins := by
  rw [ReplaySound, pinsSound_iff]

/-! ### Slot states -/

theorem SlotState.frame_filling : SlotState.filling.frame = none := rfl

theorem SlotState.ne_filling_of_frame {st : SlotState} (h : st.frame.isSome = true) : st ≠ .filling := by
  rintro rfl
  cases h

theorem SlotState.hold_frame (st : SlotState) : st.hold.frame = st.frame := by cases st <;> rfl

theorem SlotState.release_frame (st : SlotState) : st.release.frame = st.frame := by cases st <;> rfl

theorem SlotState.release_isHeld (st : SlotState) : st.release.isHeld = false := by cases st <;> rfl

theorem SlotState.hold_eq_filling (st : SlotState) : st.hold = .filling ↔ st = .filling := by cases st <;> simp [SlotState.hold]

theorem SlotState.release_eq_filling (st : SlotState) : st.release = .filling ↔ st = .filling := by
  cases st <;> simp [SlotState.release]

theorem SlotState.isHeld_of_readySeq {st : SlotState} (h : st.readySeq.isSome = true) : st.isHeld = false := by
  cases st <;> simp_all [SlotState.readySeq, SlotState.isHeld]

theorem SlotState.frame_of_readySeq {st : SlotState} (h : st.readySeq.isSome = true) : st.frame.isSome = true := by
  cases st <;> simp_all [SlotState.readySeq, SlotState.frame]

/-- A pinned slot is not FREE and not FILLING, so one that is has no pins. -/
theorem Intake.Pinned.pins_eq_zero {pins : List Nat} {n : Intake} (h : n.Pinned pins) {k : Nat} {r : SlotRecord}
    (hr : n.slots[k]? = some r) (hframe : r.state.frame = none) : r.pins = 0 := by
  obtain ⟨-, hpinned⟩ := h.1 k r hr
  by_contra hne
  have := hpinned (Nat.pos_of_ne_zero hne)
  rw [hframe] at this
  cases this

/-! ### A change that frees slots at most -/

/-- A change of the slot table after which every slot keeps its pins, FILLING stays FILLING, and each frame stays where it was or its slot,
neither pinned nor named, has been freed. -/
structure Freed (r : Roller) (n m : Intake) : Prop where
  ring : m.ring = n.ring
  intakeSlot : m.intakeSlot = n.intakeSlot
  length : m.slots.length = n.slots.length
  slot : ∀ (k : Nat) (x : SlotRecord), n.slots[k]? = some x → ∃ y : SlotRecord, m.slots[k]? = some y ∧ y.pins = x.pins ∧ (y.state = .filling ↔ x.state = .filling) ∧
    (y.state.frame = x.state.frame ∨ (y.state.frame = none ∧ x.pins = 0 ∧ r.namesSlot x.state = false))

section
variable {r : Roller} {n m : Intake} (h : Freed r n m)
include h

theorem Freed.slot_back {k : Nat} {y : SlotRecord} (hy : m.slots[k]? = some y) : ∃ x, n.slots[k]? = some x := by
  have hk := (List.getElem?_eq_some_iff.mp hy).1
  rw [h.length] at hk
  exact ⟨_, List.getElem?_eq_getElem hk⟩

theorem Freed.fills (hn : n.FillsIntakeSlot) : m.FillsIntakeSlot := by
  intro k
  rw [h.intakeSlot, ← hn k]
  constructor
  · rintro ⟨y, hy, hfilling⟩
    obtain ⟨x, hx⟩ := h.slot_back hy
    obtain ⟨y', hy', -, hiff, -⟩ := h.slot k x hx
    obtain rfl := Option.some.inj (hy.symm.trans hy')
    exact ⟨x, hx, hiff.mp hfilling⟩
  · rintro ⟨x, hx, hfilling⟩
    obtain ⟨y, hy, -, hiff, -⟩ := h.slot k x hx
    exact ⟨y, hy, hiff.mpr hfilling⟩

theorem Freed.frameAt {k : Nat} {f : Word} (hf : m.frameAt k = some f) : n.frameAt k = some f := by
  obtain ⟨y, hy, hyf⟩ := frameAt_eq_some.mp hf
  obtain ⟨x, hx⟩ := h.slot_back hy
  obtain ⟨y', hy', -, -, hframe⟩ := h.slot k x hx
  obtain rfl := Option.some.inj (hy.symm.trans hy')
  obtain heq | ⟨hnone, -⟩ := hframe
  · exact frameAt_eq_some.mpr ⟨x, hx, heq ▸ hyf⟩
  · rw [hnone] at hyf
    cases hyf

theorem Freed.nodup (hn : n.frames.Nodup) : m.frames.Nodup := by
  rw [frames_nodup_iff] at hn ⊢
  exact fun i j f hi hj => hn i j f (h.frameAt hi) (h.frameAt hj)

theorem Freed.fits (hn : n.FitsRing) : m.FitsRing := by
  unfold Intake.FitsRing at hn ⊢
  rw [h.ring]
  cases hring : n.ring with
  | none =>
    rw [hring] at hn
    obtain ⟨hslots, hslot⟩ := hn
    refine ⟨List.length_eq_zero_iff.mp ?_, h.intakeSlot.trans hslot⟩
    rw [h.length, hslots, List.length_nil]
  | some d =>
    rw [hring] at hn
    dsimp only at hn ⊢
    rw [h.length]
    exact hn

theorem Freed.present (hn : PlanPresent r n) : PlanPresent r m := by
  rw [planPresent_iff] at hn ⊢
  refine ⟨hn.1, fun f hf => ?_⟩
  obtain ⟨k, hk⟩ := present_iff.mp (hn.2 f hf)
  obtain ⟨x, hx, hxf⟩ := frameAt_eq_some.mp hk
  obtain ⟨y, hy, -, -, hframe⟩ := h.slot k x hx
  obtain heq | ⟨-, -, hnamed⟩ := hframe
  · exact present_iff.mpr ⟨k, frameAt_eq_some.mpr ⟨y, hy, heq.trans hxf⟩⟩
  · rw [Roller.namesSlot, hxf] at hnamed
    dsimp only at hnamed
    rw [hf] at hnamed
    cases hnamed

theorem Freed.pinned {pins : List Nat} (hn : n.Pinned pins) : m.Pinned pins := by
  refine ⟨fun k y hy => ?_, fun k hk => h.length ▸ hn.2 k hk⟩
  obtain ⟨x, hx⟩ := h.slot_back hy
  obtain ⟨y', hy', hpins, -, hframe⟩ := h.slot k x hx
  obtain rfl := Option.some.inj (hy.symm.trans hy')
  obtain ⟨hcount, hpinned⟩ := hn.1 k x hx
  rw [hpins]
  refine ⟨hcount, fun hpos => ?_⟩
  obtain heq | ⟨-, hzero, -⟩ := hframe
  · rw [heq]
    exact hpinned hpos
  · exact absurd hpos (by rw [hzero]; decide)

/-- What a freeing change keeps, if the held count stays within the hold limit. -/
theorem Freed.sound {pins : List Nat} (hheld : m.heldCount ≤ n.holdLimit)
    (hn : SlotTableSound n ∧ PlanPresent r n ∧ n.Pinned pins) : SlotTableSound m ∧ PlanPresent r m ∧ m.Pinned pins := by
  obtain ⟨htable, hplan, hpins⟩ := hn
  rw [slotTableSound_iff] at htable ⊢
  obtain ⟨hfills, hnodup, -, hfits⟩ := htable
  have hlimit : m.holdLimit = n.holdLimit := by rw [Intake.holdLimit, h.ring, Intake.holdLimit]
  exact ⟨⟨h.fills hfills, h.nodup hnodup, hlimit ▸ hheld, h.fits hfits⟩, h.present hplan, h.pinned hpins⟩

end

/-! ### Taking an intake slot (R35, R36) -/

/-- The slot table when no slot is FILLING, whatever its intake slot says: what the taking of a slot begins from. -/
structure Intake.Unfilled (n : Intake) : Prop where
  filling : ∀ (k : Nat) (x : SlotRecord), n.slots[k]? = some x → x.state ≠ .filling
  nodup : n.frames.Nodup
  held : n.heldCount ≤ n.holdLimit
  ring : ∃ d, n.ring = some d ∧ n.slots.length = d.count ∧ 4 ≤ d.count ∧ d.count ≤ 64

theorem Intake.Unfilled.none_sound {n : Intake} (h : n.Unfilled) : SlotTableSound { n with intakeSlot := none } := by
  rw [slotTableSound_iff]
  refine ⟨fun k => ?_, h.nodup, h.held, ?_⟩
  · constructor
    · rintro ⟨x, hx, hfilling⟩
      exact absurd hfilling (h.filling k x hx)
    · intro hnone
      cases hnone
  · obtain ⟨d, hring, hlength⟩ := h.ring
    rw [Intake.FitsRing]
    dsimp only
    rw [hring]
    exact hlength

/-- The slot that starts filling was free or READY, so it was not HELD. -/
theorem Intake.takeable.notHeld {n : Intake} {r : Roller} {excluded : Option Nat} {k : Nat} (h : n.takeable r excluded k) :
    ∃ y, n.slots[k]? = some y ∧ y.state.isHeld = false ∧ r.namesSlot y.state = false ∧ (y.state.frame = none ∨ y.pins = 0) := by
  obtain ⟨y, hy, hfree | ⟨hseq, hpins, hnames, -⟩⟩ := h
  · exact ⟨y, hy, by rw [hfree]; rfl, by rw [hfree]; rfl, .inl (by rw [hfree]; rfl)⟩
  · exact ⟨y, hy, SlotState.isHeld_of_readySeq hseq, hnames, .inr hpins⟩

theorem startFilling_frameAt (n : Intake) (k i : Nat) : (n.startFilling k).frameAt i = if i = k then none else n.frameAt i := by
  have h := setState_frameAt n k .filling i
  rw [SlotState.frame_filling] at h
  refine Eq.trans h ?_
  split
  · cases n.slots[i]? <;> rfl
  · rfl

theorem startFilling_heldCount {n : Intake} {k : Nat} {y : SlotRecord} (hy : n.slots[k]? = some y) (hheld : y.state.isHeld = false) :
    (n.startFilling k).heldCount = n.heldCount := by
  have h := heldCount_setState hy .filling
  rw [hheld] at h
  exact h

theorem length_startFilling (n : Intake) (k : Nat) : (n.startFilling k).slots.length = n.slots.length := length_setState n k .filling

theorem Intake.Unfilled.startFilling_sound {n : Intake} (h : n.Unfilled) {k : Nat} {y : SlotRecord} (hy : n.slots[k]? = some y)
    (hheld : y.state.isHeld = false) : SlotTableSound (n.startFilling k) := by
  rw [slotTableSound_iff]
  refine ⟨fun i => ?_, ?_, ?_, ?_⟩
  · have hslot : (n.startFilling k).intakeSlot = some k := rfl
    rw [hslot, startFilling_slots]
    constructor
    · rintro ⟨x, hx, hfilling⟩
      split at hx
      · next hik => rw [hik]
      · exact absurd hfilling (h.filling i x hx)
    · intro hik
      obtain rfl := Option.some.inj hik
      exact ⟨{ y with state := .filling }, by simp [hy], rfl⟩
  · rw [frames_nodup_iff]
    intro i j f hi hj
    rw [startFilling_frameAt] at hi hj
    split at hi
    · cases hi
    · split at hj
      · cases hj
      · exact frames_nodup_iff.mp h.nodup i j f hi hj
  · rw [startFilling_heldCount hy hheld]
    exact h.held
  · obtain ⟨d, hring, hlength⟩ := h.ring
    have hring' : (n.startFilling k).ring = some d := hring
    rw [Intake.FitsRing, hring', length_startFilling]
    exact hlength

theorem startFilling_present {n : Intake} {r : Roller} {k : Nat} {y : SlotRecord} (hy : n.slots[k]? = some y)
    (hnames : r.namesSlot y.state = false) (hplan : PlanPresent r n) : PlanPresent r (n.startFilling k) := by
  rw [planPresent_iff] at hplan ⊢
  refine ⟨hplan.1, fun f hf => ?_⟩
  obtain ⟨i, hi⟩ := present_iff.mp (hplan.2 f hf)
  refine present_iff.mpr ⟨i, ?_⟩
  rw [startFilling_frameAt, if_neg ?_]
  · exact hi
  · rintro rfl
    rw [frameAt_of_slot hy] at hi
    rw [Roller.namesSlot, hi] at hnames
    dsimp only at hnames
    rw [hf] at hnames
    cases hnames

theorem startFilling_pinned {pins : List Nat} {n : Intake} {k : Nat} {y : SlotRecord} (hn : n.Pinned pins) (hy : n.slots[k]? = some y)
    (hfree : y.state.frame = none ∨ y.pins = 0) : (n.startFilling k).Pinned pins := by
  have hzero : y.pins = 0 := hfree.elim (hn.pins_eq_zero hy) id
  refine ⟨fun i x hx => ?_, fun i hi => ?_⟩
  · rw [startFilling_slots] at hx
    split at hx
    · next hik =>
      subst hik
      rw [hy] at hx
      obtain rfl := Option.some.inj hx
      refine ⟨(hn.1 i y hy).1, fun hpos => ?_⟩
      dsimp only at hpos
      rw [hzero] at hpos
      cases hpos
    · exact hn.1 i x hx
  · rw [length_startFilling]
    exact hn.2 i hi

/-- The taking of a slot, or of none, from a table without a FILLING slot. -/
theorem takeSlot_sound {r : Roller} {excluded : Option Nat} {n : Intake} {pins : List Nat} (h : n.Unfilled) (hplan : PlanPresent r n)
    (hpins : n.Pinned pins) :
    SlotTableSound (n.takeSlot r excluded) ∧ PlanPresent r (n.takeSlot r excluded) ∧ (n.takeSlot r excluded).Pinned pins := by
  obtain ⟨k, hk, e⟩ | e := takeSlot_cases r excluded n
  · obtain ⟨y, hy, hheld, hnames, hfree⟩ := hk.notHeld
    rw [e]
    exact ⟨h.startFilling_sound hy hheld, startFilling_present hy hnames hplan, startFilling_pinned hpins hy hfree⟩
  · rw [e]
    exact ⟨h.none_sound, hplan, hpins⟩

theorem unfilled_of_blocked {n : Intake} (h : SlotTableSound n) (hblocked : n.blocked = true) : n.Unfilled := by
  rw [slotTableSound_iff] at h
  obtain ⟨hfills, hnodup, hheld, hfits⟩ := h
  rw [Intake.blocked, Bool.and_eq_true, Option.isNone_iff_eq_none] at hblocked
  obtain ⟨hring, hslot⟩ := hblocked
  obtain ⟨d, hd⟩ := Option.isSome_iff_exists.mp hring
  rw [Intake.FitsRing, hd] at hfits
  refine ⟨fun k x hx hfilling => ?_, hnodup, hheld, d, hd, hfits⟩
  have hk := (hfills k).mp ⟨x, hx, hfilling⟩
  rw [hslot] at hk
  cases hk

theorem retryNow_replaySound {s : State} (h : ReplaySound s) : ReplaySound (retryNow s) := by
  rw [replaySound_iff] at h
  unfold retryNow
  split
  · next hblocked =>
    rw [replaySound_iff]
    exact takeSlot_sound (unfilled_of_blocked h.1 hblocked) h.2.1 h.2.2
  · rw [replaySound_iff]
    exact h

theorem retryIntake_replaySound {s : State} (h : ReplaySound s) : ReplaySound (retryIntake s) := by
  unfold retryIntake
  split
  · split
    · exact h
    · exact retryNow_replaySound h
  · exact h

theorem retryHeldOver_replaySound {s : State} (h : ReplaySound s) : ReplaySound (retryHeldOver s) := by
  unfold retryHeldOver
  split
  · exact retryNow_replaySound h
  · exact h

/-! ### Completion (R33) -/

/-- The state a good completion gives the slot. -/
def Intake.completed (n : Intake) : SlotState :=
  if n.keeps && decide (n.heldCount < n.holdLimit) then .held n.trailerFrame (n.completions + 1)
  else .ready n.trailerFrame (n.completions + 1)

theorem completed_frame (n : Intake) : n.completed.frame = some n.trailerFrame := by
  unfold Intake.completed
  split
  · rfl
  · rfl

theorem completed_isHeld {n : Intake} (h : n.completed.isHeld = true) : n.heldCount < n.holdLimit := by
  unfold Intake.completed at h
  split at h
  · next hkeep =>
    rw [Bool.and_eq_true, decide_eq_true_eq] at hkeep
    exact hkeep.2
  · cases h

/-- The slot table right after the slot has been given its frame, before a new intake slot is taken. -/
def Intake.afterCompletion (k : Nat) (n : Intake) : Intake := { n.setState k n.completed with completions := n.completions + 1 }

theorem complete_eq (r : Roller) (k : Nat) (n : Intake) : n.complete r k = (n.afterCompletion k).takeSlot r (some k) := rfl

theorem afterCompletion_frameAt (n : Intake) (k i : Nat) :
    (n.afterCompletion k).frameAt i = if i = k then n.slots[i]?.bind fun _ => some n.trailerFrame else n.frameAt i := by
  rw [← completed_frame]
  exact setState_frameAt n k n.completed i

theorem afterCompletion_slots (n : Intake) (k i : Nat) :
    (n.afterCompletion k).slots[i]? = if i = k then n.slots[i]?.map fun r => { r with state := n.completed } else n.slots[i]? :=
  setState_slots n k n.completed i

theorem afterCompletion_length (n : Intake) (k : Nat) : (n.afterCompletion k).slots.length = n.slots.length :=
  length_setState n k n.completed

section
variable {n : Intake} {k : Nat} {x : SlotRecord} {d : RingDecl} (htable : SlotTableSound n) (hslot : n.intakeSlot = some k)
  (hx : n.slots[k]? = some x) (hfilling : x.state = .filling)
include hx hfilling

theorem afterCompletion_frame_old {i : Nat} {f : Word} (hf : n.frameAt i = some f) : (n.afterCompletion k).frameAt i = some f := by
  rw [afterCompletion_frameAt, if_neg ?_]
  · exact hf
  · rintro rfl
    rw [frameAt_of_slot hx, hfilling] at hf
    cases hf

theorem afterCompletion_present {r : Roller} (hplan : PlanPresent r n) : PlanPresent r (n.afterCompletion k) := by
  rw [planPresent_iff] at hplan ⊢
  refine ⟨hplan.1, fun f hf => ?_⟩
  obtain ⟨i, hi⟩ := present_iff.mp (hplan.2 f hf)
  exact present_iff.mpr ⟨i, afterCompletion_frame_old hx hfilling hi⟩

omit hfilling in
theorem afterCompletion_pinned {pins : List Nat} (hn : n.Pinned pins) : (n.afterCompletion k).Pinned pins := by
  refine ⟨fun i y hy => ?_, fun i hi => ?_⟩
  · rw [afterCompletion_slots] at hy
    split at hy
    · next hik =>
      subst hik
      rw [hx] at hy
      obtain rfl := Option.some.inj hy
      exact ⟨(hn.1 i x hx).1, fun _ => by rw [completed_frame]; rfl⟩
    · exact hn.1 i y hy
  · rw [afterCompletion_length]
    exact hn.2 i hi

include htable hslot

theorem afterCompletion_unfilled (hring : n.ring = some d) (hnew : n.present n.trailerFrame = false) : (n.afterCompletion k).Unfilled := by
  rw [slotTableSound_iff] at htable
  obtain ⟨hfills, hnodup, hheld, hfits⟩ := htable
  refine ⟨fun i y hy hfill => ?_, ?_, ?_, d, hring, ?_⟩
  · rw [afterCompletion_slots] at hy
    split at hy
    · next hik =>
      subst hik
      rw [hx] at hy
      obtain rfl := Option.some.inj hy
      exact SlotState.ne_filling_of_frame (by rw [completed_frame]; rfl) hfill
    · next hik =>
      have hi := (hfills i).mp ⟨y, hy, hfill⟩
      rw [hslot] at hi
      exact hik (Option.some.inj hi).symm
  · have hfresh : ∀ i, n.frameAt i ≠ some n.trailerFrame := by
      intro i hi
      rw [Bool.eq_false_iff] at hnew
      exact hnew (present_iff.mpr ⟨i, hi⟩)
    have hat : (n.afterCompletion k).frameAt k = some n.trailerFrame := by
      rw [afterCompletion_frameAt, if_pos rfl, hx]
      rfl
    have hother : ∀ {i f}, i ≠ k → (n.afterCompletion k).frameAt i = some f → n.frameAt i = some f := by
      intro i f hik hi
      rwa [afterCompletion_frameAt, if_neg hik] at hi
    rw [frames_nodup_iff]
    intro i j f hi hj
    by_cases hik : i = k <;> by_cases hjk : j = k
    · exact hik.trans hjk.symm
    · subst hik
      obtain rfl := Option.some.inj (hat.symm.trans hi)
      exact absurd (hother hjk hj) (hfresh j)
    · subst hjk
      obtain rfl := Option.some.inj (hat.symm.trans hj)
      exact absurd (hother hik hi) (hfresh i)
    · exact frames_nodup_iff.mp hnodup i j f (hother hik hi) (hother hjk hj)
  · have hcount := heldCount_setState hx n.completed
    have hlimit : (n.afterCompletion k).holdLimit = n.holdLimit := rfl
    have hsame : (n.afterCompletion k).heldCount = (n.setState k n.completed).heldCount := rfl
    rw [hlimit, hsame]
    split at hcount
    · next hbad =>
      rw [hfilling] at hbad
      cases hbad
    · split at hcount
      · next hnow =>
        have := completed_isHeld hnow
        omega
      · omega
  · rw [afterCompletion_length]
    rw [Intake.FitsRing, hring] at hfits
    exact hfits

end

theorem examineTrailer_replaySound {s : State} (h : ReplaySound s) : ReplaySound (examineTrailer s) := by
  have hsound := (replaySound_iff s).mp h
  unfold examineTrailer
  split
  · next d k hring hslot =>
    split
    · exact h
    · split
      · exact h
      · next hnew =>
        obtain ⟨htable, hplan, hpins⟩ := hsound
        obtain ⟨x, hx, hfilling⟩ := (((slotTableSound_iff _).mp htable).1 k).mpr hslot
        rw [replaySound_iff]
        dsimp only
        rw [complete_eq]
        exact takeSlot_sound (afterCompletion_unfilled htable hslot hx hfilling hring (Bool.eq_false_iff.mpr hnew))
          (afterCompletion_present hx hfilling hplan) (afterCompletion_pinned hx hpins)
  · exact h

/-! ### SET_RING, HOLD_FRAMES, RELEASE_FRAMES and DISCARD_FRAMES (R27-R28, R38-R41) -/

theorem declare_sound {d : RingDecl} (hlow : 4 ≤ d.count) (hhigh : d.count ≤ 64) : SlotTableSound (Intake.declare d) := by
  have hslots : (Intake.declare d).slots = { state := .filling, pins := 0 } :: List.replicate (d.count - 1) { state := .free, pins := 0 } :=
    rfl
  have hframes : (Intake.declare d).frames = [] := by
    rw [Intake.frames, hslots]
    simp [SlotState.frame]
  rw [slotTableSound_iff]
  refine ⟨fun k => ?_, ?_, ?_, ?_⟩
  · have hintake : (Intake.declare d).intakeSlot = some 0 := rfl
    rw [hslots, hintake]
    cases k with
    | zero => simp
    | succ k => simp [List.getElem?_replicate]
  · rw [hframes]
    exact List.nodup_nil
  · have hheld : (Intake.declare d).heldCount = 0 := by
      rw [heldCount_eq, hslots, List.countP_eq_zero]
      intro r hr
      obtain rfl | hr := List.mem_cons.mp hr
      · decide
      · rw [(List.mem_replicate.mp hr).2]
        decide
    rw [hheld]
    exact Nat.zero_le _
  · have hlength : (Intake.declare d).slots.length = d.count := by
      rw [hslots, List.length_cons, List.length_replicate]
      omega
    exact ⟨hlength, hlow, hhigh⟩

theorem planPresent_of_none {r : Roller} {n : Intake} (h : r.showPlan = none) : PlanPresent r n := by
  refine ⟨fun _ => h, fun p hp => ?_⟩
  rw [h] at hp
  cases hp

theorem declare_pinned (d : RingDecl) : (Intake.declare d).Pinned [] := by
  refine ⟨fun k r hr => ?_, fun k hk => by cases hk⟩
  have hmem : r ∈ (Intake.declare d).slots := List.mem_of_getElem? hr
  obtain rfl | hmem := List.mem_cons.mp hmem
  · exact ⟨rfl, fun hpos => absurd hpos (by decide)⟩
  · rw [(List.mem_replicate.mp hmem).2]
    exact ⟨rfl, fun hpos => absurd hpos (by decide)⟩

theorem Intake.Pinned.nil_of_zero {pins : List Nat} {n : Intake} (h : n.Pinned pins) (hzero : ∀ r ∈ n.slots, r.pins = 0) : pins = [] := by
  refine List.eq_nil_iff_forall_not_mem.mpr fun k hk => ?_
  have hslot := List.getElem?_eq_getElem (h.2 k hk)
  have hcount := (h.1 k _ hslot).1
  rw [hzero _ (List.mem_of_getElem? hslot)] at hcount
  exact absurd hk (List.count_eq_zero.mp hcount.symm)

theorem ruleSetRing_replaySound (ringBase aliasBase : Word) (w h count : Byte) {s : State} (hs : ReplaySound s) :
    ReplaySound (ruleSetRing ringBase aliasBase w h count s).1 := by
  refine checked_fst hs fun hchecks => ?_
  obtain ⟨-, hplan, hpins⟩ := (replaySound_iff s).mp hs
  simp only [ringChecks, List.forall_mem_cons, Bool.or_eq_false_iff, decide_eq_false_iff_not, Nat.not_lt, bne_eq_false_iff_eq,
    List.any_eq_false, decide_eq_true_eq] at hchecks
  obtain ⟨⟨⟨-, hlow⟩, hhigh⟩, -, -, -, -, ⟨hidle, hunpinned⟩, -⟩ := hchecks
  have hnil := hpins.nil_of_zero fun r hr => Nat.le_zero.mp (hunpinned r hr)
  rw [replaySound_iff]
  refine ⟨declare_sound hlow hhigh, planPresent_of_none (hplan.1 hidle), ?_⟩
  dsimp only
  rw [hnil]
  exact declare_pinned _

/-- A slot table with every slot changed by its own rule. -/
theorem freed_map {r : Roller} {n : Intake} (f : SlotRecord → SlotRecord)
    (hf : ∀ x, (f x).pins = x.pins ∧ ((f x).state = .filling ↔ x.state = .filling) ∧
      ((f x).state.frame = x.state.frame ∨ ((f x).state.frame = none ∧ x.pins = 0 ∧ r.namesSlot x.state = false))) :
    Freed r n { n with slots := n.slots.map f } where
  ring := rfl
  intakeSlot := rfl
  length := List.length_map f
  slot k x hx := ⟨f x, by rw [List.getElem?_map, hx]; rfl, hf x⟩

theorem countP_map_le {f : SlotRecord → SlotRecord} (hf : ∀ x, (f x).state.isHeld = true → x.state.isHeld = true) (l : List SlotRecord) :
    (l.map f).countP (fun r => r.state.isHeld) ≤ l.countP fun r => r.state.isHeld := by
  rw [List.countP_map]
  exact List.countP_mono_left fun x _ hx => hf x hx

theorem ruleReleaseFrames_replaySound (first last : Word) {s : State} (hs : ReplaySound s) :
    ReplaySound (ruleReleaseFrames first last s).1 := by
  refine checked_fst hs fun _ => ?_
  obtain ⟨htable, hrest⟩ := (replaySound_iff s).mp hs
  have hheld := ((slotTableSound_iff _).mp htable).2.2.1
  have hfreed := freed_map (r := s.roller) (n := s.intake)
    (fun r => if heldInRange first last r then { r with state := r.state.release } else r) fun x => by
      split
      · exact ⟨rfl, SlotState.release_eq_filling _, .inl (SlotState.release_frame _)⟩
      · exact ⟨rfl, Iff.rfl, .inl rfl⟩
  refine (replaySound_iff _).mpr (hfreed.sound (le_trans ?_ hheld) ⟨htable, hrest⟩)
  rw [heldCount_eq, heldCount_eq]
  refine countP_map_le (fun x hx => ?_) _
  split at hx
  · dsimp only at hx
    rw [SlotState.release_isHeld] at hx
    cases hx
  · exact hx

theorem discardable_spec {r : Roller} {first last : Word} {x : SlotRecord} (h : discardable r first last x = true) :
    ∃ f, x.state.frame = some f ∧ frameInRange first last f = true ∧ x.pins = 0 ∧ r.names f = false := by
  unfold discardable at h
  split at h
  · next f hf =>
    rw [Bool.and_eq_true, Bool.and_eq_true, beq_iff_eq, Bool.not_eq_true'] at h
    exact ⟨f, hf, h.1.1, h.1.2, h.2⟩
  · cases h

theorem ruleDiscardFrames_replaySound (first last : Word) {s : State} (hs : ReplaySound s) :
    ReplaySound (ruleDiscardFrames first last s).1 := by
  refine checked_fst hs fun _ => ?_
  obtain ⟨htable, hrest⟩ := (replaySound_iff s).mp hs
  have hheld := ((slotTableSound_iff _).mp htable).2.2.1
  have hfreed := freed_map (r := s.roller) (n := s.intake)
    (fun r => if discardable s.roller first last r then { r with state := .free } else r) fun x => by
      split
      · next hdiscard =>
        obtain ⟨f, hf, -, hpins, hnames⟩ := discardable_spec hdiscard
        refine ⟨rfl, ⟨nofun, fun hfilling => ?_⟩, .inr ⟨rfl, hpins, ?_⟩⟩
        · rw [hfilling] at hf
          cases hf
        · rw [Roller.namesSlot, hf]
          exact hnames
      · exact ⟨rfl, Iff.rfl, .inl rfl⟩
  refine (replaySound_iff _).mpr (hfreed.sound (le_trans ?_ hheld) ⟨htable, hrest⟩)
  rw [heldCount_eq, heldCount_eq]
  refine countP_map_le (fun x hx => ?_) _
  split at hx
  · cases hx
  · exact hx

end Sys2Proof.Machine
end

section
/-! PROOFS. The holding of frames, the pins of a FRAME_START and the roller's plans, and that every step keeps them sound (R21, R37, R39,
R46-R60). -/

namespace Sys2Proof.Machine

/-! ### HOLD_FRAMES (R39) -/

/-- One slot made HELD if it is READY. -/
def Intake.holdAt (k : Nat) (n : Intake) : Intake := { n with slots := n.slots.modify k fun r => { r with state := r.state.hold } }

theorem holdSlots_cons (p : Word × Nat) (rest : List (Word × Nat)) (n : Intake) :
    n.holdSlots (p :: rest) = (n.holdAt p.2).holdSlots rest := rfl

theorem holdAt_slots (k : Nat) (n : Intake) (i : Nat) :
    (n.holdAt k).slots[i]? = n.slots[i]?.map fun r => if k = i then { r with state := r.state.hold } else r := by
  rw [Intake.holdAt, List.getElem?_modify]
  rfl

theorem holdAt_eq {n : Intake} {k : Nat} {x : SlotRecord} (hx : n.slots[k]? = some x) : n.holdAt k = n.setState k x.state.hold := by
  unfold Intake.holdAt Intake.setState
  rw [List.modify_eq_set_getElem?, List.modify_eq_set_getElem?, hx]
  rfl

theorem freed_holdAt (r : Roller) (k : Nat) (n : Intake) : Freed r n (n.holdAt k) where
  ring := rfl
  intakeSlot := rfl
  length := List.length_modify ..
  slot i x hx := by
    refine ⟨_, by rw [holdAt_slots, hx]; rfl, ?_⟩
    split
    · exact ⟨rfl, SlotState.hold_eq_filling _, .inl (SlotState.hold_frame _)⟩
    · exact ⟨rfl, Iff.rfl, .inl rfl⟩

theorem holdAt_heldCount_le (k : Nat) (n : Intake) : (n.holdAt k).heldCount ≤ n.heldCount + 1 := by
  cases hx : n.slots[k]? with
  | none =>
    have hsame : n.holdAt k = n := by
      unfold Intake.holdAt
      rw [List.modify_eq_set_getElem?, hx]
      rfl
    rw [hsame]
    exact Nat.le_succ _
  | some x =>
    rw [holdAt_eq hx]
    have hcount := heldCount_setState hx x.state.hold
    split at hcount <;> split at hcount <;> omega

theorem holdSlots_sound {r : Roller} {pins : List Nat} : ∀ (l : List (Word × Nat)) {n : Intake},
    n.heldCount + l.length ≤ n.holdLimit → SlotTableSound n ∧ PlanPresent r n ∧ n.Pinned pins →
    SlotTableSound (n.holdSlots l) ∧ PlanPresent r (n.holdSlots l) ∧ (n.holdSlots l).Pinned pins
  | [], _, _, h => h
  | p :: rest, n, hroom, h => by
    have hle := holdAt_heldCount_le p.2 n
    have hlimit : (n.holdAt p.2).holdLimit = n.holdLimit := rfl
    rw [List.length_cons] at hroom
    rw [holdSlots_cons]
    exact holdSlots_sound rest (by rw [hlimit]; omega) ((freed_holdAt r p.2 n).sound (by omega) h)

theorem ruleHoldFrames_replaySound (first last : Word) {s : State} (hs : ReplaySound s) :
    ReplaySound (ruleHoldFrames first last s).1 := by
  refine checked_fst hs fun _ => ?_
  have hsound := (replaySound_iff s).mp hs
  have hheld := ((slotTableSound_iff _).mp hsound.1).2.2.1
  have hlength : ((s.intake.readyInRange first last).take (s.intake.holdLimit - s.intake.heldCount)).length ≤
      s.intake.holdLimit - s.intake.heldCount := List.length_take_le ..
  exact (replaySound_iff _).mpr (holdSlots_sound _ (by omega) hsound)

theorem intakeRules_replaySound (i : Instr) (s : State) (ho : commandOwner i = .intake) (hs : ReplaySound s) :
    (commandRule i).elim True fun r => ReplaySound (r s).1 := by
  cases i
  case setRing => exact ruleSetRing_replaySound _ _ _ _ _ hs
  case holdFrames => exact ruleHoldFrames_replaySound _ _ hs
  case releaseFrames => exact ruleReleaseFrames_replaySound _ _ hs
  case discardFrames => exact ruleDiscardFrames_replaySound _ _ hs
  all_goals cases ho

/-! ### Pins (R21, R37) -/

theorem mapPins_slots (f : Nat → Nat) (k : Nat) (n : Intake) (i : Nat) :
    (n.mapPins f k).slots[i]? = n.slots[i]?.map fun r => if k = i then { r with pins := f r.pins } else r := by
  rw [Intake.mapPins, List.getElem?_modify]
  rfl

theorem pinAll_slots : ∀ (l : List Nat) (n : Intake) (i : Nat),
    (n.pinAll l).slots[i]? = n.slots[i]?.map fun r => { r with pins := r.pins + l.count i }
  | [], n, i => by
    rw [Intake.pinAll]
    simp
  | k :: rest, n, i => by
    rw [Intake.pinAll, pinAll_slots rest, mapPins_slots, Option.map_map]
    congr 1
    funext r
    by_cases hk : k = i
    · simp [hk, Nat.add_right_comm, Nat.add_assoc]
    · simp [hk]

theorem releaseAll_slots : ∀ (l : List Nat) (n : Intake) (i : Nat),
    (n.releaseAll l).slots[i]? = n.slots[i]?.map fun r => { r with pins := r.pins - l.count i }
  | [], n, i => by
    rw [Intake.releaseAll]
    simp
  | k :: rest, n, i => by
    rw [Intake.releaseAll, releaseAll_slots rest, mapPins_slots, Option.map_map]
    congr 1
    funext r
    by_cases hk : k = i
    · simp [hk, Nat.sub_sub, Nat.add_comm]
    · simp [hk]

theorem mapPins_frame (f : Nat → Nat) (k : Nat) (n : Intake) : ∃ l, n.mapPins f k = { n with slots := l } := ⟨_, rfl⟩

theorem pinAll_frame : ∀ (l : List Nat) (n : Intake), ∃ q, n.pinAll l = { n with slots := q }
  | [], n => ⟨n.slots, rfl⟩
  | k :: rest, n => by
    obtain ⟨q, h⟩ := pinAll_frame rest (n.mapPins (fun p => p + 1) k)
    rw [Intake.pinAll, h]
    exact ⟨q, rfl⟩

theorem releaseAll_frame : ∀ (l : List Nat) (n : Intake), ∃ q, n.releaseAll l = { n with slots := q }
  | [], n => ⟨n.slots, rfl⟩
  | k :: rest, n => by
    obtain ⟨q, h⟩ := releaseAll_frame rest (n.mapPins (fun p => p - 1) k)
    rw [Intake.releaseAll, h]
    exact ⟨q, rfl⟩

/-- The slot table after the pins of a frame record are made and the old ones released. -/
def Intake.repinned (new old : List Nat) (n : Intake) : Intake := (n.pinAll new).releaseAll old

theorem repinned_slots (new old : List Nat) (n : Intake) (i : Nat) :
    (n.repinned new old).slots[i]? = n.slots[i]?.map fun r => { r with pins := r.pins + new.count i - old.count i } := by
  rw [Intake.repinned, releaseAll_slots, pinAll_slots, Option.map_map]
  rfl

theorem repinned_frame (new old : List Nat) (n : Intake) : ∃ q, n.repinned new old = { n with slots := q } := by
  obtain ⟨q, h⟩ := pinAll_frame new n
  obtain ⟨q', h'⟩ := releaseAll_frame old (n.pinAll new)
  rw [Intake.repinned, h', h]
  exact ⟨q', rfl⟩

theorem repinned_states (new old : List Nat) (n : Intake) : (n.repinned new old).slots.map SlotRecord.state = n.slots.map SlotRecord.state := by
  refine List.ext_getElem? fun i => ?_
  rw [List.getElem?_map, List.getElem?_map, repinned_slots]
  cases n.slots[i]? <;> rfl

/-- What depends on the states of the slots alone is the same after the pins have changed. -/
theorem slotTableSound_of_states {n m : Intake} (hring : m.ring = n.ring) (hslot : m.intakeSlot = n.intakeSlot)
    (hstates : m.slots.map SlotRecord.state = n.slots.map SlotRecord.state) (h : SlotTableSound n) : SlotTableSound m := by
  have hframes : m.frames = n.frames := by
    have heq := congrArg (List.filterMap SlotState.frame) hstates
    rwa [List.filterMap_map, List.filterMap_map] at heq
  have hheld : m.heldCount = n.heldCount := by
    have heq := congrArg (List.countP SlotState.isHeld) hstates
    rw [List.countP_map, List.countP_map] at heq
    rw [heldCount_eq, heldCount_eq]
    exact heq
  have hlength : m.slots.length = n.slots.length := by simpa using congrArg List.length hstates
  have hlimit : m.holdLimit = n.holdLimit := by rw [Intake.holdLimit, hring, Intake.holdLimit]
  have hfilling : ∀ k : Nat, (∃ r : SlotRecord, m.slots[k]? = some r ∧ r.state = .filling) ↔
      ∃ r : SlotRecord, n.slots[k]? = some r ∧ r.state = .filling := by
    intro k
    have hk := congrArg (fun l => l[k]?) hstates
    simp only [List.getElem?_map] at hk
    have hiff : ∀ o : Option SlotRecord, (∃ r, o = some r ∧ r.state = .filling) ↔ o.map SlotRecord.state = some .filling := by
      intro o
      cases o <;> simp
    rw [hiff, hiff, hk]
  rw [slotTableSound_iff] at h ⊢
  obtain ⟨hfills, hnodup, hle, hfits⟩ := h
  refine ⟨fun k => by rw [hslot, hfilling]; exact hfills k, hframes ▸ hnodup, by rw [hheld, hlimit]; exact hle, ?_⟩
  unfold Intake.FitsRing at hfits ⊢
  rw [hring, hslot, hlength]
  cases hd : n.ring with
  | some d =>
    rw [hd] at hfits
    exact hfits
  | none =>
    rw [hd] at hfits
    refine ⟨List.length_eq_zero_iff.mp ?_, hfits.2⟩
    rw [hlength, hfits.1, List.length_nil]

theorem planPresent_of_frames {r : Roller} {n m : Intake} (h : m.slots.map SlotRecord.state = n.slots.map SlotRecord.state)
    (hplan : PlanPresent r n) : PlanPresent r m := by
  have hframes : m.frames = n.frames := by
    have heq := congrArg (List.filterMap SlotState.frame) h
    rwa [List.filterMap_map, List.filterMap_map] at heq
  rw [planPresent_iff] at hplan ⊢
  refine ⟨hplan.1, fun f hf => ?_⟩
  rw [present_iff_mem, hframes, ← present_iff_mem]
  exact hplan.2 f hf

/-- Pins made on slots that carry frames, with the old pins released, are the pins of the new record. -/
theorem repinned_pinned {new old : List Nat} {n : Intake} (h : n.Pinned old) (hnew : ∀ k ∈ new, (n.frameAt k).isSome = true) :
    (n.repinned new old).Pinned new := by
  refine ⟨fun k y hy => ?_, fun k hk => ?_⟩
  · rw [repinned_slots] at hy
    obtain ⟨x, hx, rfl⟩ := Option.map_eq_some_iff.mp hy
    have hcount : x.pins + new.count k - old.count k = new.count k := by
      rw [(h.1 k x hx).1]
      omega
    dsimp only
    rw [hcount]
    refine ⟨rfl, fun hpos => ?_⟩
    have hframe := hnew k (List.count_pos_iff.mp hpos)
    rwa [frameAt_of_slot hx] at hframe
  · obtain ⟨f, hf⟩ := Option.isSome_iff_exists.mp (hnew k hk)
    obtain ⟨x, hx, -⟩ := frameAt_eq_some.mp hf
    have hlength : (n.repinned new old).slots.length = n.slots.length := by
      simpa using congrArg List.length (repinned_states new old n)
    rw [hlength]
    exact (List.getElem?_eq_some_iff.mp hx).1

/-- The slots a sampled show plan draws carry its frames. -/
theorem sampleReplay_slots {s : State} {d : ReplayDraw} (h : sampleReplay s = some d) :
    ∀ k ∈ d.slots, (s.intake.frameAt k).isSome = true := by
  have hshown : ∀ {f : Word} {x : ShownFrame}, s.intake.shown f = some x → (s.intake.frameAt x.slot).isSome = true := by
    intro f x hx
    obtain ⟨k, hk, rfl⟩ := Option.map_eq_some_iff.mp hx
    rw [slotOf_eq_some hk]
    rfl
  unfold sampleReplay at h
  split at h
  · next p _ =>
    obtain ⟨a, ha, rfl⟩ := Option.map_eq_some_iff.mp h
    intro k hk
    obtain rfl | hk := List.mem_cons.mp hk
    · exact hshown ha
    · dsimp only at hk
      split at hk
      · next b hb =>
        obtain rfl := List.mem_singleton.mp hk
        obtain ⟨f, -, hf⟩ := Option.bind_eq_some_iff.mp hb
        exact hshown hf
      · cases hk
  · cases h

theorem drawState_replay {s : State} {z : ZoneIx} {d : ZoneDesc} {r : Option ReplayDraw} (h : drawState s z d = .replay r) :
    r = sampleReplay s := by
  unfold drawState sampleTicker at h
  split at h
  · split at h <;> cases h
  · split at h <;> cases h
  · cases h
  · exact (DrawState.replay.inj h).symm
  · cases h
  · split at h <;> cases h
  · cases h

theorem zoneRecord_draw_replay {s : State} {v : Vector Nat 16} {z : ZoneIx} {r : Option ReplayDraw}
    (h : (zoneRecord s v z).draw = some (.replay r)) : r = sampleReplay s := by
  unfold zoneRecord at h
  dsimp only at h
  split at h
  · exact drawState_replay (Option.some.inj h)
  · cases h

theorem buildRecord_zones (s : State) (z : ZoneIx) :
    (buildRecord s).zones[z] = zoneRecord s
      (visibleCounts s.composer.requestedMode s.composer.planNext (activity s) s.composer.screenW s.composer.screenH) z := by
  simp [buildRecord]

theorem recordSlots_frames (s : State) : ∀ k ∈ recordSlots (buildRecord s), (s.intake.frameAt k).isSome = true := by
  intro k hk
  unfold recordSlots at hk
  split at hk
  · next zr hzr =>
    split at hk
    · next d hd =>
      have hmem := List.mem_of_find?_eq_some hzr
      obtain ⟨z, -, hz⟩ := List.mem_map.mp hmem
      rw [buildRecord_zones] at hz
      rw [← hz] at hd
      exact sampleReplay_slots (zoneRecord_draw_replay hd).symm k hk
    · cases hk
  · cases hk

theorem repinned_sound {r : Roller} {n : Intake} {new old : List Nat} (h : SlotTableSound n ∧ PlanPresent r n ∧ n.Pinned old)
    (hnew : ∀ k ∈ new, (n.frameAt k).isSome = true) :
    SlotTableSound (n.repinned new old) ∧ PlanPresent r (n.repinned new old) ∧ (n.repinned new old).Pinned new := by
  obtain ⟨htable, hplan, hpins⟩ := h
  have hstates := repinned_states new old n
  obtain ⟨q, hq⟩ := repinned_frame new old n
  exact ⟨slotTableSound_of_states (by rw [hq]) (by rw [hq]) hstates htable, planPresent_of_frames hstates hplan,
    repinned_pinned hpins hnew⟩

theorem frameStart_intake (s : State) :
    (frameStart s).intake = s.intake.repinned (recordSlots (buildRecord s)) s.composer.pins := by
  obtain ⟨_, _, _, _, _, e⟩ := frameStart_frame s
  rw [e, Intake.repinned]

theorem frameStart_roller (s : State) : (frameStart s).roller = s.roller := by
  obtain ⟨_, _, _, _, _, e⟩ := frameStart_frame s
  rw [e]

theorem frameStart_pins (s : State) : (frameStart s).composer.pins = recordSlots (buildRecord s) := by
  obtain ⟨_, _, _, _, _, e⟩ := frameStart_frame s
  rw [e, composerNext]

theorem frameStart_replaySound {s : State} (h : ReplaySound s) : ReplaySound (frameStart s) := by
  rw [replaySound_iff, frameStart_intake, frameStart_roller, frameStart_pins]
  exact repinned_sound ((replaySound_iff s).mp h) (recordSlots_frames s)

/-! ### The roller (R46-R60) -/

/-- A roller whose show plan names no frame but those present, and which is not IDLE. -/
theorem planPresent_of_names {r : Roller} {n : Intake} (hidle : r.state ≠ .idle)
    (h : ∀ f, r.names f = true → n.present f = true) : PlanPresent r n :=
  (planPresent_iff r n).mpr ⟨fun hbad => absurd hbad hidle, h⟩

theorem names_of_alone {r r' : Roller} (hplan : r'.showPlan = r.showPlan.map ShowPlan.alone) {f : Word} (hf : r'.names f = true) :
    r.names f = true := by
  obtain ⟨p, hp, hpf⟩ := Roller.names_iff.mp hf
  rw [hplan] at hp
  obtain ⟨q, hq, rfl⟩ := Option.map_eq_some_iff.mp hp
  obtain ha | hb := hpf
  · exact Roller.names_iff.mpr ⟨q, hq, .inl ha⟩
  · cases hb

theorem names_of_same {r r' : Roller} (hplan : r'.showPlan = r.showPlan) {f : Word} (hf : r'.names f = true) : r.names f = true := by
  rwa [Roller.names, hplan] at hf

theorem names_of_single {r : Roller} {g : Word} (hplan : r.showPlan = some { a := g, b := none, w16 := 0 }) {f : Word}
    (hf : r.names f = true) : f = g := by
  obtain ⟨p, hp, hpf⟩ := Roller.names_iff.mp hf
  rw [hplan] at hp
  obtain rfl := Option.some.inj hp
  obtain ha | hb := hpf
  · exact ha.symm
  · cases hb

theorem endIdle_planPresent (reason : RollEnd) (r : Roller) (n : Intake) : PlanPresent (r.endIdle reason) n := planPresent_of_none rfl

theorem endByMode_planPresent (reason : RollEnd) {r : Roller} {n : Intake} (h : PlanPresent r n) :
    PlanPresent (r.endByMode n reason) n := by
  have hnames := ((planPresent_iff r n).mp h).2
  unfold Roller.endByMode
  split
  · refine planPresent_of_names nofun fun f hf => ?_
    unfold Roller.holdPlan at hf
    split at hf
    · next g _ =>
      split at hf
      · next hpresent =>
        obtain rfl := names_of_single rfl hf
        exact hpresent
      · exact hnames f (names_of_alone rfl hf)
    · exact hnames f (names_of_alone rfl hf)
  · exact endIdle_planPresent _ _ _

theorem frameNumber_eq_some {t : Int} {f : Word} (h : frameNumber t = some f) : (f.toNat : Int) = t ∧ f = BitVec.ofInt 32 t := by
  unfold frameNumber at h
  split at h
  · next hrange =>
    obtain rfl := Option.some.inj h
    refine ⟨?_, rfl⟩
    rw [BitVec.toNat_ofInt]
    omega
  · cases h

theorem presentAt_iff {n : Intake} {t : Int} : n.presentAt t = true ↔ ∃ f, frameNumber t = some f ∧ n.present f = true := by
  unfold Intake.presentAt
  cases frameNumber t <;> simp

theorem stepPresent_planPresent {r : Roller} {n : Intake} {a : Advance} (h : n.presentAt a.target = true) :
    PlanPresent (r.stepPresent n a (BitVec.ofInt 32 a.target)) n := by
  obtain ⟨g, hg, hpresent⟩ := presentAt_iff.mp h
  obtain ⟨-, rfl⟩ := frameNumber_eq_some hg
  refine planPresent_of_names nofun fun f hf => ?_
  obtain ⟨p, hp, hpf⟩ := Roller.names_iff.mp hf
  obtain rfl := Option.some.inj hp
  obtain rfl | hb := hpf
  · exact hpresent
  · dsimp only at hb
    unfold Roller.blendPartner at hb
    split at hb
    · next hblend =>
      simp only [Bool.and_eq_true] at hblend
      obtain ⟨f', hf', hpresent'⟩ := presentAt_iff.mp hblend.1.2
      obtain rfl := Option.some.inj (hf'.symm.trans hb)
      exact hpresent'
    · cases hb

theorem countedStep_planPresent {s : State} (h : PlanPresent s.roller s.intake) :
    PlanPresent (countedStep s).roller s.intake := by
  have hnames := ((planPresent_iff _ _).mp h).2
  unfold countedStep
  dsimp only
  split
  · exact endByMode_planPresent _ h
  · split
    · next hpresent => exact stepPresent_planPresent hpresent
    · split
      · exact planPresent_of_names nofun fun f hf => hnames f (names_of_alone rfl hf)
      · split
        · have hroller : ∀ (c : Bool) (f : Flag) (u : State), (u.raiseIf c f).roller = u.roller := by
            intro c f u
            obtain ⟨_, e⟩ := State.raiseIf_frame c f u
            rw [e]
          rw [hroller]
          exact planPresent_of_names nofun fun f hf => hnames f (names_of_same rfl hf)
        · exact endByMode_planPresent _ h

theorem rollerFrameWork_planPresent {s : State} (h : PlanPresent s.roller s.intake) : PlanPresent (rollerFrameWork s).roller s.intake := by
  unfold rollerFrameWork
  split
  · split
    · exact h
    · exact endIdle_planPresent _ _ _
  · split
    · exact countedStep_planPresent h
    · exact h

/-- A change of the roller and the flags alone keeps the replay sound if the new show plan is present. -/
theorem ReplaySound.setRoller {s t : State} (h : ReplaySound s) (hframe : RollerFrame s t) (hplan : PlanPresent t.roller s.intake) :
    ReplaySound t := by
  obtain ⟨_, _, rfl⟩ := hframe
  exact ⟨h.1, hplan, h.2.2⟩

theorem replayFrameWork_replaySound (r : Bool) {s : State} (h : ReplaySound s) : ReplaySound (replayFrameWork r s) := by
  have hroll : ∀ {u : State}, ReplaySound u → ReplaySound (rollerFrameWork u) := fun {u} hu =>
    hu.setRoller (rollerFrameWork_rollerFrame u) (rollerFrameWork_planPresent hu.2.1)
  unfold replayFrameWork
  split
  · exact hroll (retryIntake_replaySound h)
  · exact retryIntake_replaySound (hroll h)

theorem frameEnd_replaySound (r : Bool) {s : State} (h : ReplaySound s) : ReplaySound (frameEnd r s).1 := by
  have hreplay := replayFrameWork_replaySound r h
  have hrotation := rotationFrameWork_showingFrame (replayFrameWork r s)
  have hticker := tickerFrameWork_tickerFrame (rotationFrameWork (replayFrameWork r s)).1
  rw [frameEnd_fst, sourcesWork]
  generalize replayFrameWork r s = s1 at hreplay hrotation hticker ⊢
  generalize (rotationFrameWork s1).1 = s2 at hrotation hticker ⊢
  generalize (tickerFrameWork s2).1 = s3 at hticker ⊢
  obtain ⟨_, _, _, _, _, rfl⟩ := hrotation
  obtain ⟨_, _, rfl⟩ := hticker
  exact hreplay

theorem startRoll_replaySound (p : RollPayload) (o : Bool) (d : RollDirection) (e : EndMode) (b c : Bool) {s : State}
    (h : ReplaySound s) : ReplaySound (startRoll p o d e b c s) := by
  refine h.setRoller (startRoll_rollerFrame ..) ?_
  unfold startRoll
  dsimp only
  split
  · next hpresent =>
    refine planPresent_of_names nofun fun f hf => ?_
    obtain rfl := names_of_single rfl hf
    exact hpresent
  · exact planPresent_of_none rfl

theorem setSpeed_planPresent (speed : Nat) (d : RollDirection) {r : Roller} {n : Intake} (h : PlanPresent r n) (hstate : r.state ≠ .idle) :
    PlanPresent (r.setSpeed speed d) n := by
  have hnames := ((planPresent_iff r n).mp h).2
  unfold Roller.setSpeed
  split
  · unfold Roller.rebase
    dsimp only
    split
    · next p hp =>
      exact planPresent_of_names hstate fun f hf => hnames f (names_of_alone (by rw [hp]; rfl) hf)
    · next hp => exact planPresent_of_none hp
  · split
    · exact planPresent_of_names hstate fun f hf => hnames f (names_of_same rfl hf)
    · exact h

theorem ruleSetSpeed_replaySound (speed : Half) (direction : Byte) {s : State} (h : ReplaySound s) :
    ReplaySound (ruleSetSpeed speed direction s).1 := by
  unfold ruleSetSpeed
  split
  · exact h
  · split
    · next hstate =>
      refine ⟨h.1, setSpeed_planPresent _ _ h.2.1 ?_, h.2.2⟩
      obtain hstate | hstate := hstate <;> rw [hstate] <;> decide
    · exact h

theorem rollerRules_replaySound (i : Instr) (s : State) (ho : commandOwner i = .roller) (h : ReplaySound s) :
    (commandRule i).elim True fun r => ReplaySound (r s).1 := by
  cases i
  case roll =>
    dsimp only [commandRule, Option.elim_some, ruleRoll]
    split
    · exact h
    · exact checked_fst h fun _ => startRoll_replaySound _ _ _ _ _ _ h
  case setSpeed => exact ruleSetSpeed_replaySound _ _ h
  case stopReplay =>
    dsimp only [commandRule, Option.elim_some, ruleStopReplay]
    split
    · exact h
    · exact ⟨h.1, endIdle_planPresent _ _ _, h.2.2⟩
  all_goals cases ho

/-! ### The rest of the step -/

theorem keptByClock_replaySound : KeptByClock ReplaySound where
  clock _ _ _ h := h
  tick _ h := h
  console _ _ _ h := h
  seed _ _ h := h
  raise _ _ h := h
  cut _ _ h := ⟨h.1, endIdle_planPresent _ _ _, h.2.2⟩

theorem ruleRestart_replaySound {s : State} (h : ReplaySound s) : ReplaySound (ruleRestart s).1 := by
  obtain ⟨_, _, _, _, _, e⟩ := restartRotation_showingFrame s
  rw [ruleRestart_fst, e]
  exact ⟨h.1, planPresent_of_none rfl, h.2.2⟩

/-- A change of the composer that leaves the pins alone. -/
theorem ReplaySound.setComposer {s : State} (h : ReplaySound s) {c : Composer} (hpins : c.pins = s.composer.pins) :
    ReplaySound { s with composer := c } := by
  rw [replaySound_iff] at h ⊢
  refine ⟨h.1, h.2.1, ?_⟩
  dsimp only
  rw [hpins]
  exact h.2.2

theorem composerRules_replaySound (i : Instr) (s : State) (ho : commandOwner i = .composer) (h : ReplaySound s) :
    (commandRule i).elim True fun r => ReplaySound (r s).1 := by
  cases i
  case setScreen => exact checked_fst h fun _ => h.setComposer rfl
  case stageZone =>
    dsimp only [commandRule, Option.elim_some, ruleStageZone]
    split
    · exact h.setComposer rfl
    · exact checked_fst h fun _ => h.setComposer rfl
    · exact h
  case applyPlan => exact h.setComposer rfl
  case cancelStage => exact h.setComposer rfl
  case setOutputMode =>
    dsimp only [commandRule, Option.elim_some, ruleSetOutputMode]
    split
    · exact h.setComposer rfl
    · exact h
  case setHouseSlate =>
    dsimp only [commandRule, Option.elim_some, ruleSetHouseSlate]
    split
    · exact checked_fst h fun _ => h.setComposer rfl
    · exact h.setComposer rfl
    · exact h
  case setFont =>
    dsimp only [commandRule, Option.elim_some, ruleSetFont]
    split
    · exact checked_fst h fun _ => h.setComposer rfl
    · exact h.setComposer rfl
    · exact h
  all_goals cases ho

theorem reset_replaySound : SlotTableSound Intake.reset ∧ PlanPresent Roller.reset Intake.reset ∧ PinsSound Composer.reset Intake.reset := by
  refine ⟨(slotTableSound_iff _).mpr ⟨fun k => ?_, List.nodup_nil, Nat.le_refl _, rfl, rfl⟩, planPresent_of_none rfl, ?_⟩
  · constructor
    · rintro ⟨_, hr, -⟩
      cases hr
    · intro hnone
      cases hnone
  · rw [pinsSound_iff]
    refine ⟨fun k r hr => ?_, fun k hk => ?_⟩
    · cases hr
    · cases hk

theorem kept_replaySound : Kept ReplaySound where
  powerOn _ _ := reset_replaySound
  resetLine s _ _ := by
    rw [resetLineLow_frame]
    exact reset_replaySound
  tick t _ h := keptByClock_replaySound.millisecondTick t h
  frameEnd r _ _ h := frameEnd_replaySound r h
  frameStart _ _ h := frameStart_replaySound h
  retry _ h := retryIntake_replaySound h
  completion _ h := examineTrailer_replaySound h
  heldOver _ h := retryHeldOver_replaySound h
  composerRules := composerRules_replaySound
  intakeRules := intakeRules_replaySound
  rollerRules := rollerRules_replaySound
  clockRules := keptByClock_replaySound.clockRules
  restart i s ho h := by
    cases i
    case restart => exact ruleRestart_replaySound h
    all_goals cases ho

/-- Settles O59, from what the intake, the roller and a FRAME_START's pins keep of the slot table and the show plan. -/
theorem stepKeepsReplaySound : Obligations.StepKeepsReplaySound := by
  unfold Obligations.StepKeepsReplaySound
  intro s t h ht
  exact kept_replaySound.step (fun _ _ h => h) h ht

end Sys2Proof.Machine
end

section
/-! PROOFS. RESET* (R177): what it resets, and that it changes no byte of the frame store but those of a queue entry being written. -/

namespace Sys2Proof.Machine

theorem landWrite_memByte (w : PartWrite) (s : State) (a : Nat) :
    (landWrite w s).memByte a = (s.putBytes (s.controlBase + w.offset) w.data).memByte a := by
  unfold landWrite
  dsimp only
  split
  · rfl
  · rfl

theorem landWrite_memByte_inside (w : PartWrite) (s : State) (i : Nat) (h : i < w.data.length) :
    (landWrite w s).memByte (s.controlBase + w.offset + i) = w.data[i] := by
  rw [landWrite_memByte, State.memByte_putBytes_inside]

theorem landWrite_memByte_outside (w : PartWrite) (s : State) (a : Nat)
    (h : a < s.controlBase + w.offset ∨ s.controlBase + w.offset + w.data.length ≤ a) : (landWrite w s).memByte a = s.memByte a := by
  rw [landWrite_memByte, State.memByte_putBytes_outside _ _ _ _ h]

theorem settleAccess_queueEntry {s : State} {w : PartWrite} (h : s.memctl.access = some (.queueEntry w)) :
    settleAccess s = clearAccess (landWrite w s) := by
  rw [settleAccess, h]

theorem settleAccess_mem {s : State} (h : ∀ w, s.memctl.access ≠ some (.queueEntry w)) : (settleAccess s).mem = s.mem := by
  unfold settleAccess
  split
  · rfl
  · rfl
  · rfl
  · next w hw => exact absurd hw (h w)
  · rfl
  · rfl

theorem settleAccess_access (s : State) :
    (settleAccess s).memctl.access = if s.memctl.access = some .refresh then some .refresh else none := by
  unfold settleAccess
  split
  all_goals
    next h =>
    rw [h]
    rfl

theorem settleAccess_powerOns (s : State) : (settleAccess s).powerOns = s.powerOns := by
  obtain ⟨_, _, _, e⟩ := settleAccess_frame s
  rw [e]

theorem resetLineLow_mem (s : State) : (resetLineLow s).mem = (settleAccess s).mem := by rw [resetLineLow_frame]

theorem resetLineLow_powerOns (s : State) : (resetLineLow s).powerOns = s.powerOns := by rw [resetLineLow_frame]

theorem resetLineLow_queueEntry {s : State} {w : PartWrite} (h : s.memctl.access = some (.queueEntry w)) (a : Nat) :
    (resetLineLow s).memByte a = (landWrite w s).memByte a := by
  have hsettle := settleAccess_queueEntry h
  have hmem : (resetLineLow s).mem = (landWrite w s).mem := by
    rw [resetLineLow_mem, hsettle, clearAccess_mem]
  refine memByte_congr hmem ?_ a
  rw [resetLineLow_powerOns, ← settleAccess_powerOns, hsettle, clearAccess_powerOns]

theorem exec_resetLineLow {s : State} (h : s.phase = .startUp ∨ s.phase = .running) :
    exec .resetLineLow s = .next (resetLineLow s) := by
  change execResetLineLow s = _
  unfold execResetLineLow
  obtain h | h := h
  · rw [h]
  · rw [h]

/-- Settles O6, from the frame of RESET* and what the end of the access in progress does to memory. -/
theorem resetLineKeepsMemory : Obligations.ResetLineKeepsMemory := by
  unfold Obligations.ResetLineKeepsMemory
  intro s hs
  refine ⟨resetLineLow s, exec_resetLineLow hs, ?_, fun w hw => ⟨fun i hi => ?_, fun a ha => ?_⟩, fun hgrant hplayout x hx hwrite => ?_,
    fun hno => ?_⟩
  · rw [resetLineLow_frame, settleAccess_access]
  · rw [resetLineLow_queueEntry hw, landWrite_memByte_inside w s i hi]
  · rw [resetLineLow_queueEntry hw, landWrite_memByte_outside w s a ha]
  · obtain ⟨-, t, ht, -, hlanded⟩ := hgrant.2 hplayout
    obtain rfl := Option.some.inj (ht.symm.trans hx)
    refine (hlanded hwrite).congr ?_ (resetLineLow_powerOns s)
    rw [resetLineLow_mem]
    refine settleAccess_mem fun w hw => ?_
    rw [hplayout] at hw
    cases hw
  · rw [resetLineLow_mem]
    exact settleAccess_mem hno

end Sys2Proof.Machine
end

section
/-! PROOFS. Flags and captures one by one (R97, R182), the line filter (R89), and what every tick does (R64). -/

namespace Sys2Proof.Machine

/-! ### Flags -/

theorem State.raise_flagged_eq (f g : Flag) (s : State) : (s.raise f).flagged g = (s.flagged g || decide (g = f)) := by
  by_cases h : g = f
  · subst h
    rw [State.raise_flagged, decide_eq_true rfl, Bool.or_true]
  · rw [State.raise_flagged_other s h, decide_eq_false h, Bool.or_false]

theorem State.raiseIf_flagged (c : Bool) (f g : Flag) (s : State) :
    (s.raiseIf c f).flagged g = (s.flagged g || (c && decide (g = f))) := by
  cases c with
  | true => rw [Bool.true_and, ← State.raise_flagged_eq]; rfl
  | false => rw [Bool.false_and, Bool.or_false]; rfl

theorem captureFlag_inj {n m : Fin 4} (h : captureFlag n = captureFlag m) : n = m := by
  revert n m
  decide

theorem captureOn_flagged (ev : CaptureEvent) (n : Fin 4) (g : Flag) (s : State) :
    (captureOn ev n s).flagged g =
      (s.flagged g || ((s.console.channels[n]).source.firesOn ev && decide (g = captureFlag n))) := by
  unfold captureOn
  dsimp only
  split
  · next h =>
    rw [State.raise_flagged_eq, h, Bool.true_and]
    rfl
  · next h => rw [Bool.eq_false_iff.mpr h, Bool.false_and, Bool.or_false]

/-- A capture leaves every channel's source as it is. -/
theorem captureOn_source (ev : CaptureEvent) (n m : Fin 4) (s : State) :
    ((captureOn ev n s).console.channels[m]).source = (s.console.channels[m]).source := by
  rw [captureOn_channels]
  split
  · next h => rw [h.1]; rfl
  · rfl

/-- The flags after an event: those raised before it, and each channel's whose source fires on it. -/
theorem fireCapture_flagged (ev : CaptureEvent) (g : Flag) (s : State) :
    (fireCapture ev s).flagged g =
      (s.flagged g || ((s.console.channels[0]).source.firesOn ev && decide (g = captureFlag 0)) ||
        ((s.console.channels[1]).source.firesOn ev && decide (g = captureFlag 1)) ||
        ((s.console.channels[2]).source.firesOn ev && decide (g = captureFlag 2)) ||
        ((s.console.channels[3]).source.firesOn ev && decide (g = captureFlag 3))) := by
  have hsource : ∀ (n m : Fin 4) (s : State), ((captureOn ev n s).console.channels[m]).source.firesOn ev =
      (s.console.channels[m]).source.firesOn ev := fun n m s => by rw [captureOn_source]
  unfold fireCapture
  rw [captureOn_flagged, captureOn_flagged, captureOn_flagged, captureOn_flagged]
  have h1 := hsource 0 1 s
  have h2 := (hsource 1 2 (captureOn ev 0 s)).trans (hsource 0 2 s)
  have h3 := (hsource 2 3 (captureOn ev 1 (captureOn ev 0 s))).trans
    ((hsource 1 3 (captureOn ev 0 s)).trans (hsource 0 3 s))
  rw [h1, h2, h3]
  rfl

theorem fireCapture_flagged_channel (ev : CaptureEvent) (n : Fin 4) (s : State) :
    (fireCapture ev s).flagged (captureFlag n) = (s.flagged (captureFlag n) || (s.console.channels[n]).source.firesOn ev) := by
  have hne : ∀ m : Fin 4, m ≠ n → decide (captureFlag n = captureFlag m) = false := fun m hm =>
    decide_eq_false fun h => hm (captureFlag_inj h).symm
  rw [fireCapture_flagged]
  match n with
  | 0 => simp [hne 1 (by decide), hne 2 (by decide), hne 3 (by decide)]
  | 1 => simp [hne 0 (by decide), hne 2 (by decide), hne 3 (by decide)]
  | 2 => simp [hne 0 (by decide), hne 1 (by decide), hne 3 (by decide)]
  | 3 => simp [hne 0 (by decide), hne 1 (by decide), hne 2 (by decide)]

theorem fireCapture_flagged_other (ev : CaptureEvent) {f : Flag} (h : ∀ n : Fin 4, f ≠ captureFlag n) (s : State) :
    (fireCapture ev s).flagged f = s.flagged f := by
  rw [fireCapture_flagged]
  simp [h]

/-- Settles O14, from what a capture does to each channel and its flag. -/
theorem channelsTakeTheirEvent : Obligations.ChannelsTakeTheirEvent := by
  unfold Obligations.ChannelsTakeTheirEvent
  intro ev s
  refine ⟨fun n => ⟨?_, fireCapture_flagged_channel ev n s⟩, fun f hf => fireCapture_flagged_other ev hf s, fireCapture_frame ev s⟩
  rw [fireCapture_channels]
  rfl

/-! ### The line filter (R89) -/

theorem sampled_same (l : ConsoleLine) : l.sampled l.accepted = { l with diff := 0 } := by simp [ConsoleLine.sampled]

theorem acceptance_eq (l : ConsoleLine) : l.acceptance = max 1 l.filter := by
  unfold ConsoleLine.acceptance
  split <;> omega

theorem sampled_below {l : ConsoleLine} {raw : Bool} (hraw : raw ≠ l.accepted) (h : l.diff + 1 < max 1 l.filter) :
    l.sampled raw = { l with diff := l.diff + 1 } := by
  have hno : l.accepts raw = false := by
    rw [ConsoleLine.accepts, acceptance_eq, decide_eq_false (Nat.not_le.mpr h), Bool.and_false]
  rw [ConsoleLine.sampled, if_neg hraw, hno]
  rfl

theorem sampled_at {l : ConsoleLine} {raw : Bool} (hraw : raw ≠ l.accepted) (h : max 1 l.filter ≤ l.diff + 1) :
    l.sampled raw = { l with accepted := raw, diff := 0 } := by
  have hyes : l.accepts raw = true := by
    rw [ConsoleLine.accepts, acceptance_eq, decide_eq_true h, Bool.and_true, bne_iff_ne]
    exact hraw
  rw [ConsoleLine.sampled, if_neg hraw, if_pos hyes]

/-- Differing samples below the acceptance count are counted. -/
theorem sampled_iterate {l : ConsoleLine} {raw : Bool} (hdiff : l.diff = 0) (hraw : raw ≠ l.accepted) :
    ∀ {k : Nat}, k < max 1 l.filter → (fun x => ConsoleLine.sampled x raw)^[k] l = { l with diff := k }
  | 0, _ => by
    rw [Function.iterate_zero_apply, ← hdiff]
  | k + 1, hk => by
    rw [Function.iterate_succ_apply', sampled_iterate hdiff hraw (Nat.lt_of_succ_lt hk)]
    exact sampled_below hraw hk

/-- Settles O13, by induction on the samples below the acceptance count and one sample at it. -/
theorem lineFilterCountsSamples : Obligations.LineFilterCountsSamples := by
  unfold Obligations.LineFilterCountsSamples
  intro l raw k hdiff hraw
  refine ⟨fun hk => ⟨sampled_iterate hdiff hraw hk, ?_⟩, fun hk => ?_⟩
  · rw [sampled_iterate hdiff hraw hk]
    refine (sampled_same { l with diff := k }).trans ?_
    rw [← hdiff]
  · obtain ⟨j, rfl⟩ : ∃ j, k = j + 1 := ⟨k - 1, by omega⟩
    rw [Function.iterate_succ_apply', sampled_iterate hdiff hraw (by omega)]
    exact sampled_at hraw (Nat.le_of_eq hk.symm)

/-! ### Every tick (R64, R65) -/

theorem keptByClock_flagged (f : Flag) : KeptByClock fun t => t.flagged f = true where
  clock _ _ _ h := h
  console _ _ _ h := h
  raise g s h := by rw [State.raise_flagged_eq, h, Bool.true_or]
  cut _ _ h := h
  tick _ h := h
  seed _ _ h := h

theorem keptByRequests_venue (v : Word) : KeptByRequests fun t => t.clock.venue = v where
  clock _ _ hc h := hc.trans h
  console _ _ _ h := h
  raise _ _ h := h
  cut _ _ h := h

theorem keptByRequests_seeded (b : Bool) : KeptByRequests fun t => t.console.seeded = b where
  clock _ _ _ h := h
  console _ _ hk h := hk.trans h
  raise _ _ h := h
  cut _ _ h := h

theorem ClockUnit.markIf_venue (b : Bool) (m : Mark) (c : ClockUnit) : (c.markIf b m).venue = c.venue := by
  cases b with
  | false => rfl
  | true =>
    change (c.markActions m).venue = c.venue
    unfold ClockUnit.markActions
    dsimp only
    split
    · exact hornEventIf_venue _ _ _
    · exact hornEventIf_venue _ _ _

theorem ClockUnit.tickGame_venue (c : ClockUnit) : c.tickGame.venue = c.venue := by
  unfold ClockUnit.tickGame
  dsimp only
  split
  · exact periodEnded_venue _
  · rfl

theorem ClockUnit.tickStep3_venue (c : ClockUnit) : c.tickStep3.1.venue = c.venue := by
  unfold ClockUnit.tickStep3
  split
  · dsimp only
    rw [markIf_venue, markIf_venue, tickGame_venue]
  · rfl

theorem ClockUnit.tickShot_venue (c : ClockUnit) : c.tickShot.1.venue = c.venue := by
  unfold ClockUnit.tickShot
  split
  · dsimp only
    split
    · exact hornEventIf_venue _ _ _
    · rfl
  · rfl

theorem ClockUnit.tick_venue (c : ClockUnit) : c.tick.1.venue = c.venue + 1 := by
  unfold ClockUnit.tick
  dsimp only
  rw [tickShot_venue, tickStep3_venue]
  rfl

/-- Venue time rises with the clock unit's work and with no other part of a tick. -/
theorem tickRun_venue (lines : Byte) : ∀ (l : List TickPart) (r : State × TickEvents), l.Nodup →
    (tickRun lines l r).1.clock.venue = r.1.clock.venue + if TickPart.clockWork ∈ l then 1 else 0
  | [], r, _ => by simp [tickRun]
  | p :: rest, r, hnodup => by
    obtain ⟨hp, hrest⟩ := List.nodup_cons.mp hnodup
    rw [tickRun, tickRun_venue lines rest _ hrest]
    cases p with
    | clockWork =>
      rw [if_neg hp, if_pos List.mem_cons_self, add_zero]
      change (handOn _ _).clock.venue = _
      rw [handOn_clock]
      exact ClockUnit.tick_venue _
    | line n =>
      have hsame : (tickPart lines (.line n) r).1.clock.venue = r.1.clock.venue := by
        unfold tickPart
        dsimp only
        split
        · exact (keptByRequests_venue r.1.clock.venue).sampleLine lines n rfl
        · rfl
      have hmem : TickPart.clockWork ∈ TickPart.line n :: rest ↔ TickPart.clockWork ∈ rest := by simp
      rw [hsame]
      simp only [hmem]

theorem tickRun_seeded (lines : Byte) : ∀ (l : List TickPart) (r : State × TickEvents),
    (tickRun lines l r).1.console.seeded = r.1.console.seeded
  | [], _ => rfl
  | p :: rest, r => by
    rw [tickRun, tickRun_seeded lines rest]
    cases p with
    | clockWork => exact handOn_seeded _ _
    | line n =>
      unfold tickPart
      dsimp only
      split
      · exact (keptByRequests_seeded r.1.console.seeded).sampleLine lines n rfl
      · rfl

theorem millisecondTick_venue (t : TickInput) (s : State) : (millisecondTick t s).1.clock.venue = s.clock.venue + 1 := by
  have h := tickRun_venue t.lines (completeOrder t.order) (s, { clock := ClockEvents.none, edges := [] }) (completeOrder_nodup t.order)
  rw [if_pos (mem_completeOrder t.order _)] at h
  unfold millisecondTick
  dsimp only at h ⊢
  split
  · exact h
  · exact h

theorem millisecondTick_seeded (t : TickInput) (s : State) : (millisecondTick t s).1.console.seeded = true := by
  have h := tickRun_seeded t.lines (completeOrder t.order) (s, { clock := ClockEvents.none, edges := [] })
  unfold millisecondTick
  dsimp only at h ⊢
  split
  · next hs => exact h.trans hs
  · rfl

theorem ticking_of_phase {s : State} (h : s.phase = .startUp ∨ s.phase = .running) : s.ticking = true := by
  obtain h | h := h <;> rw [State.ticking, h] <;> rfl

/-- A row named after an event of a tick is the whole tick, in a state in which the event comes about. -/
theorem tickWith_due {due : TickEvents → Bool} {t : TickInput} {s : State} (hs : s.phase = .startUp ∨ s.phase = .running)
    (hdue : due (millisecondTick t s).2 = true) : tickWith due t s = (millisecondTick t s).1 := by
  rw [tickWith, if_pos (ticking_of_phase hs)]
  dsimp only
  rw [if_pos hdue]

theorem exec_millisecondTick (t : TickInput) {s : State} (h : s.phase = .startUp ∨ s.phase = .running) :
    exec (.millisecondTick t) s = .next (millisecondTick t s).1 := by
  change Host.Outcome.next (tickWith _ t s) = _
  rw [tickWith_due h rfl]

/-- Settles O7, from what each part of a tick keeps and the one part that moves venue time. -/
theorem tickMovesVenueTime : Obligations.TickMovesVenueTime := by
  unfold Obligations.TickMovesVenueTime
  refine ⟨fun t s hs => ⟨(millisecondTick t s).1, exec_millisecondTick t hs, millisecondTick_venue t s, millisecondTick_seeded t s,
    fun f hf => (keptByClock_flagged f).millisecondTick t hf, ?_⟩, fun t s hs => ?_⟩
  · obtain ⟨_, _, _, _, e⟩ := millisecondTick_clockFrame t s
    rw [e]
  · have hno : s.ticking = false := by obtain h | h := hs <;> rw [State.ticking, h] <;> rfl
    change Host.Outcome.next (tickWith _ t s) = _
    rw [tickWith, hno]
    rfl

end Sys2Proof.Machine
end

section
/-! PROOFS. The commands of the clock unit and the settings of console, flash and ticker (R70-R83, R94, R95, R104, R154), and what a change of
score is handed on to (R103, R119). -/

namespace Sys2Proof.Machine

/-! ### Rules whose checks pass -/

theorem checked_passed {checks : List (Bool × ResultCode)} (h : ∀ c ∈ checks, c.1 = false) (s : State) (taken : State × Result) :
    checked checks s taken = taken := checked_of_none (firstFailing_eq_none.mpr h)

/-- A byte that is 0 or 1 read as a choice of off or on. -/
theorem onOff_of_choice {b : Byte} {x : Bool} (h : (b = 0 ∧ x = false) ∨ (b = 1 ∧ x = true)) : onOff b = some x := by
  obtain ⟨rfl, rfl⟩ | ⟨rfl, rfl⟩ := h
  · rfl
  · rfl

theorem clockDirection_of_choice {b : Byte} {d : ClockDirection} (h : (b = 0 ∧ d = .down) ∨ (b = 1 ∧ d = .up)) :
    clockDirection b = some d := by
  obtain ⟨rfl, rfl⟩ | ⟨rfl, rfl⟩ := h
  · rfl
  · rfl

/-! ### Which source fires on which event (R96) -/

theorem firesOn_gcStart (x : CaptureSource) : x.firesOn .gcStart = decide (x = .gcStart) := by cases x <;> rfl

theorem firesOn_gcStop (x : CaptureSource) : x.firesOn .gcStop = decide (x = .gcStop) := by cases x <;> rfl

theorem firesOn_gcEnd (x : CaptureSource) : x.firesOn .gcEnd = decide (x = .gcEnd) := by cases x <;> rfl

theorem firesOn_scEnd (x : CaptureSource) : x.firesOn .scEnd = decide (x = .scEnd) := by cases x <;> rfl

theorem firesOn_scoreChange (x : CaptureSource) : x.firesOn .scoreChange = decide (x = .scoreChange) := by cases x <;> rfl

theorem firesOn_mark (x : CaptureSource) : x.firesOn .mark = decide (x = .mark) := by cases x <;> rfl

/-! ### START_CLOCK and STOP_CLOCK (R71, R72) -/

theorem ShotClock.onStart_eq (t : ShotClock) :
    t.onStart =
      if t.startOnGame = true then { t with value := t.preset, state := .running }
      else if t.follow = true ∧ t.state = .stopped then { t with state := .running }
      else t := by
  simp only [ShotClock.onStart, Bool.and_eq_true, beq_iff_eq]

theorem ShotClock.onStop_eq (t : ShotClock) :
    t.onStop = if t.follow = true ∧ t.state = .running then { t with state := .stopped } else t := by
  simp only [ShotClock.onStop, Bool.and_eq_true, beq_iff_eq]

theorem cutOnClock_cut {s : State} (hstate : s.roller.state ≠ .idle) (hcut : s.roller.cutOnClock = true) :
    cutOnClock s = { s with roller := s.roller.endIdle .clock }.raise .replayEnded := by
  rw [cutOnClock, if_pos]
  rw [hcut, Bool.and_true]
  exact bne_iff_ne.mpr hstate

theorem cutOnClock_uncut {s : State} (h : s.roller.state = .idle ∨ s.roller.cutOnClock = false) : cutOnClock s = s := by
  rw [cutOnClock, if_neg]
  obtain h | h := h <;> simp [h]

theorem cutOnClock_frame (s : State) : RollerFrame s (cutOnClock s) := by
  unfold cutOnClock
  split
  · exact ⟨_, _, rfl⟩
  · exact .refl s

theorem fireCapture_roller (ev : CaptureEvent) (s : State) : (fireCapture ev s).roller = s.roller := by rw [fireCapture_frame]

theorem gameClockStart_frame (s : State) :
    gameClockStart s =
      { s with
        clock := (gameClockStart s).clock
        roller := (gameClockStart s).roller
        console := { s.console with channels := (gameClockStart s).console.channels }
        command := { s.command with flags := (gameClockStart s).command.flags } } := by
  obtain ⟨_, _, e⟩ := cutOnClock_frame { s with clock := s.clock.started }
  rw [gameClockStart, fireCapture_frame, e]

theorem gameClockStart_channels (n : Fin 4) (s : State) :
    (gameClockStart s).console.channels[n] =
      if (s.console.channels[n]).source = .gcStart then (s.console.channels[n]).take (gameClockStart s).clock
      else s.console.channels[n] := by
  obtain ⟨_, _, e⟩ := cutOnClock_frame { s with clock := s.clock.started }
  have hclock := gameClockStart_clock s
  rw [hclock, gameClockStart, fireCapture_channels, firesOn_gcStart, e]
  simp only [decide_eq_true_eq]

theorem replayEnded_ne_captureFlag (n : Fin 4) : Flag.replayEnded ≠ captureFlag n := by
  revert n
  decide

theorem gameClockStop_frame (s : State) :
    gameClockStop s =
      { s with
        clock := (gameClockStop s).clock
        console := { s.console with channels := (gameClockStop s).console.channels }
        command := { s.command with flags := (gameClockStop s).command.flags } } := by
  rw [gameClockStop, fireCapture_frame]

theorem gameClockStop_channels (n : Fin 4) (s : State) :
    (gameClockStop s).console.channels[n] =
      if (s.console.channels[n]).source = .gcStop then (s.console.channels[n]).take (gameClockStop s).clock
      else s.console.channels[n] := by
  have hclock := gameClockStop_clock s
  rw [hclock, gameClockStop, fireCapture_channels, firesOn_gcStop]
  simp only [decide_eq_true_eq]

theorem startClock_stopped {s : State} (h : s.clock.game.state = .stopped) : startClock s = (gameClockStart s, Result.plain .ok) := by
  rw [startClock, h]

theorem startClock_running {s : State} (h : s.clock.game.state = .running) : startClock s = (s, Result.plain .ok) := by
  rw [startClock, h]

theorem startClock_ended {s : State} (h : s.clock.game.state = .ended) : startClock s = refuse .wrongState s := by
  rw [startClock, h]

theorem stopClock_running {s : State} (h : s.clock.game.state = .running) : stopClock s = (gameClockStop s, Result.plain .ok) := by
  rw [stopClock, h]

theorem stopClock_other {s : State} (h : s.clock.game.state ≠ .running) : stopClock s = (s, Result.plain .ok) := by
  unfold stopClock
  split
  · next hrunning => exact absurd hrunning h
  · rfl
  · rfl

/-- Settles O15, from the rules of START_CLOCK and STOP_CLOCK by state and what a start and a stop hand on. -/
theorem startAndStopByState : Obligations.StartAndStopByState := by
  unfold Obligations.StartAndStopByState
  intro slot s hrun
  refine ⟨fun h => ⟨gameClockStart s, answers_of_rule rfl hrun (startClock_stopped h), ?_, fun hstate hcut => ?_, fun hno => ?_,
      fun n => gameClockStart_channels n s, gameClockStart_frame s⟩,
    fun h => answers_of_rule rfl hrun (startClock_running h), fun h => answers_of_rule rfl hrun (startClock_ended h),
    fun h => ⟨gameClockStop s, answers_of_rule rfl hrun (stopClock_running h), ?_, fun n => gameClockStop_channels n s,
      gameClockStop_frame s⟩,
    fun h => answers_of_rule rfl hrun (stopClock_other h)⟩
  · rw [gameClockStart_clock, ClockUnit.started, ShotClock.onStart_eq]
  · have hcutState := cutOnClock_cut (s := { s with clock := s.clock.started }) hstate hcut
    refine ⟨?_, ?_⟩
    · rw [gameClockStart, fireCapture_roller, hcutState]
      rfl
    · rw [gameClockStart, fireCapture_flagged_other _ replayEnded_ne_captureFlag, hcutState]
      exact State.raise_flagged _ _
  · have huncut := cutOnClock_uncut (s := { s with clock := s.clock.started }) hno
    refine ⟨?_, ?_⟩
    · rw [gameClockStart, fireCapture_roller, huncut]
    · rw [gameClockStart, fireCapture_flagged_other _ replayEnded_ne_captureFlag, huncut]
      rfl
  · rw [gameClockStop_clock, ClockUnit.halted, ShotClock.onStop_eq]

/-! ### The setting commands of the clock unit (R70, R74, R76, R82) -/

theorem ruleSetGameClock_taken {value limit : Word} {direction tenths : Byte} {d : ClockDirection} {t : Bool} {s : State}
    (hd : clockDirection direction = some d) (ht : onOff tenths = some t) (hvalue : value.toNat ≤ 5999000) (hlow : 1 ≤ limit.toNat)
    (hhigh : limit.toNat ≤ 5999000) (hup : d = .up → value.toNat ≤ limit.toNat) (hstate : s.clock.game.state ≠ .running) :
    ruleSetGameClock value limit direction tenths s =
      ({ s with
          clock := { s.clock with
            game :=
              { value := value.toNat, direction := d, limit := limit.toNat, tenths := t,
                state := if value.toNat = (if d = .up then limit.toNat else 0) then .ended else .stopped } } },
        { code := .ok }) := by
  rw [ruleSetGameClock, hd, ht]
  dsimp only
  rw [checked_passed]
  · cases d <;> rfl
  · simp only [List.forall_mem_cons, Bool.or_eq_false_iff, decide_eq_false_iff_not, Nat.not_lt, beq_eq_false_iff_ne]
    refine ⟨⟨⟨hvalue, hlow⟩, hhigh⟩, ?_, hstate, List.forall_mem_nil _⟩
    cases d with
    | up => simpa using hup rfl
    | down => rfl

theorem ruleSetMark_taken {mark present actions : Byte} {value : Word} {p : Bool} {s : State} (hmark : mark = 0 ∨ mark = 1)
    (hp : onOff present = some p) (hvalue : p = true → value.toNat ≤ 5999000) :
    let m : Mark :=
      { value := if p = true then some value.toNat else none, flag := actions.getLsbD 0, horn := actions.getLsbD 1,
        stop := actions.getLsbD 2 }
    ruleSetMark mark present actions value s =
      ({ s with
          clock := { s.clock with
            mark0 := if mark = 0 then m else s.clock.mark0
            mark1 := if mark = 1 then m else s.clock.mark1 } },
        { code := .ok }) := by
  dsimp only
  rw [ruleSetMark, hp]
  dsimp only
  rw [checked_passed]
  · obtain rfl | rfl := hmark <;> rfl
  · simp only [List.forall_mem_cons, decide_eq_false_iff_not, Nat.not_lt, Bool.and_eq_false_imp]
    refine ⟨?_, hvalue, List.forall_mem_nil _⟩
    obtain rfl | rfl := hmark <;> decide

theorem ruleSetShotClock_taken {preset : Word} {follow start shotHorn : Byte} {f g h : Bool} {s : State} (hlow : 1000 ≤ preset.toNat)
    (hhigh : preset.toNat ≤ 99000) (hf : onOff follow = some f) (hg : onOff start = some g) (hh : onOff shotHorn = some h) :
    ruleSetShotClock preset follow start shotHorn s =
      ({ s with
          clock := { s.clock with
            shot := { s.clock.shot with preset := preset.toNat, follow := f, startOnGame := g, shotHorn := h } } },
        { code := .ok }) := by
  rw [ruleSetShotClock, hf, hg, hh]
  dsimp only
  rw [checked_passed]
  · rfl
  · simp only [List.forall_mem_cons, Bool.or_eq_false_iff, decide_eq_false_iff_not, Nat.not_lt]
    exact ⟨⟨hlow, hhigh⟩, List.forall_mem_nil _⟩

theorem ruleSetHorn_taken {periodTime shotTime : Half} {endHorn : Byte} {e : Bool} {s : State} (hperiod : badHornTime periodTime = false)
    (hshot : badHornTime shotTime = false) (he : onOff endHorn = some e) :
    ruleSetHorn periodTime shotTime endHorn s =
      ({ s with
          clock := { s.clock with
            horn := { s.clock.horn with periodTime := periodTime.toNat, shotTime := shotTime.toNat, endHorn := e } } },
        { code := .ok }) := by
  rw [ruleSetHorn, he]
  dsimp only
  rw [checked_passed]
  · rfl
  · simp [hperiod, hshot]

theorem ruleSoundHorn_taken {duration : Half} {s : State} (h : badHornTime duration = false) :
    ruleSoundHorn duration s =
      ({ s with
          clock := { s.clock with
            horn :=
              { s.clock.horn with
                timer := if s.clock.horn.timer < duration.toNat then duration.toNat else s.clock.horn.timer } } },
        { code := .ok }) := by
  have hmax : max s.clock.horn.timer duration.toNat =
      if s.clock.horn.timer < duration.toNat then duration.toNat else s.clock.horn.timer := by
    split <;> omega
  rw [ruleSoundHorn, checked_passed, ClockUnit.hornEvent, hmax]
  · rfl
  · simp [h]

theorem hornTime_ok {v : Half} (hlow : 100 ≤ v.toNat) (hhigh : v.toNat ≤ 5000) : badHornTime v = false := by
  simp only [badHornTime, Bool.or_eq_false_iff, decide_eq_false_iff_not, Nat.not_lt]
  exact ⟨hlow, hhigh⟩

/-! ### The shot clock's commands (R78, R79) -/

theorem shotStart_refused {s : State} (h : s.clock.shot.state = .blank ∨ s.clock.shot.state = .ended) :
    shotStart s = refuse .wrongState s := by
  obtain h | h := h <;> rw [shotStart, h]

theorem shotStart_stopped {s : State} (h : s.clock.shot.state = .stopped) :
    shotStart s = (setShotState .running s, Result.plain .ok) := by
  rw [shotStart, h]

theorem shotStart_running {s : State} (h : s.clock.shot.state = .running) : shotStart s = (s, Result.plain .ok) := by
  rw [shotStart, h]

theorem shotStop_running {s : State} (h : s.clock.shot.state = .running) : shotStop s = (setShotState .stopped s, Result.plain .ok) := by
  rw [shotStop, h]

theorem shotStop_other {s : State} (h : s.clock.shot.state ≠ .running) : shotStop s = (s, Result.plain .ok) := by
  unfold shotStop
  split
  · next hrunning => exact absurd hrunning h
  · rfl
  · rfl
  · rfl

/-- Settles O16, from the rule of each command with its operands in range. -/
theorem clockAndShotCommands : Obligations.ClockAndShotCommands := by
  unfold Obligations.ClockAndShotCommands
  refine ⟨fun slot s hrun => ⟨?_, ?_, ?_, ?_, ?_⟩, fun slot s hrun => ⟨?_, fun h => ?_, fun h => ?_, fun h => ?_, fun h => ?_, fun h => ?_, ?_⟩⟩
  · intro value limit direction tenths d t hd ht hvalue hlow hhigh hup hstate
    exact answers_of_rule rfl hrun
      (ruleSetGameClock_taken (clockDirection_of_choice hd) (onOff_of_choice ht) hvalue hlow hhigh hup hstate)
  · intro mark present actions value p hmark hp hvalue
    exact answers_of_rule rfl hrun (ruleSetMark_taken hmark (onOff_of_choice hp) hvalue)
  · intro preset follow start shotHorn f g h hlow hhigh hf hg hh
    exact answers_of_rule rfl hrun (ruleSetShotClock_taken hlow hhigh (onOff_of_choice hf) (onOff_of_choice hg) (onOff_of_choice hh))
  · intro periodTime shotTime endHorn e hperiod hperiod' hshot hshot' he
    exact answers_of_rule rfl hrun (ruleSetHorn_taken (hornTime_ok hperiod hperiod') (hornTime_ok hshot hshot') (onOff_of_choice he))
  · intro duration hlow hhigh
    exact answers_of_rule rfl hrun (ruleSoundHorn_taken (hornTime_ok hlow hhigh))
  · exact answers_of_rule rfl hrun rfl
  · exact answers_of_rule rfl hrun (shotStart_refused h)
  · exact answers_of_rule rfl hrun (shotStart_stopped h)
  · exact answers_of_rule rfl hrun (shotStart_running h)
  · exact answers_of_rule rfl hrun (shotStop_running h)
  · exact answers_of_rule rfl hrun (shotStop_other h)
  · exact answers_of_rule rfl hrun rfl

/-! ### ADJUST_CLOCK (R73) -/

theorem ruleAdjustClock_refused {delta : Word} (s : State) (h : delta.toInt < -600000 ∨ 600000 < delta.toInt) :
    ruleAdjustClock delta s = refuse .outOfRange s := by
  rw [ruleAdjustClock, if_pos h]

theorem ruleAdjustClock_zero {delta : Word} (s : State) (h : delta.toInt = 0) : ruleAdjustClock delta s = (s, Result.plain .ok) := by
  rw [ruleAdjustClock, if_neg (by omega), if_pos h]

/-- An adjustment, by the value it gives and the end value of the clock. -/
theorem ruleAdjustClock_taken {delta : Word} {s : State} {v : Nat} (hlow : -600000 ≤ delta.toInt) (hhigh : delta.toInt ≤ 600000)
    (hne : delta.toInt ≠ 0) (hv : s.clock.game.adjusted delta.toInt = v) :
    ruleAdjustClock delta s =
      (adjustClock delta.toInt s,
        { code := if (v : Int) = (s.clock.game.value : Int) + delta.toInt then .ok else .clamped }) := by
  rw [ruleAdjustClock, if_neg (by omega), if_neg hne, GameClock.clamps, hv]
  simp only [bne_iff_ne, ne_eq, ite_not, Result.plain]

theorem adjusted_eq {g : GameClock} {delta : Int} {v top : Nat} (htop : g.top = top)
    (hv : (v : Int) = max 0 (min (top : Int) ((g.value : Int) + delta))) : g.adjusted delta = v := by
  rw [GameClock.adjusted, htop]
  omega

theorem adjustClock_notRunning {delta : Int} {s : State} (h : s.clock.game.state ≠ .running) :
    adjustClock delta s =
      { s with clock := { s.clock with game :=
          { s.clock.game with
            value := s.clock.game.adjusted delta
            state := if s.clock.game.adjusted delta = s.clock.game.endValue then .ended else .stopped } } } := by
  rw [adjustClock]
  dsimp only
  rw [if_neg h]
  rfl

theorem adjustClock_running {delta : Int} {s : State} (h : s.clock.game.state = .running)
    (hend : s.clock.game.adjusted delta ≠ s.clock.game.endValue) :
    adjustClock delta s = { s with clock := { s.clock with game := { s.clock.game with value := s.clock.game.adjusted delta } } } := by
  rw [adjustClock]
  dsimp only
  rw [if_pos h]
  exact if_neg hend

theorem adjustClock_ends {delta : Int} {s : State} (h : s.clock.game.state = .running)
    (hend : s.clock.game.adjusted delta = s.clock.game.endValue) :
    adjustClock delta s =
      gamePeriodEnd { s with clock := { s.clock with game := { s.clock.game with value := s.clock.game.adjusted delta } } } := by
  rw [adjustClock]
  dsimp only
  rw [if_pos h]
  exact if_pos hend

theorem adjustClock_game {delta : Int} {s : State} {fin : Nat} (hfin : s.clock.game.endValue = fin) :
    (adjustClock delta s).clock.game =
      { s.clock.game with
        value := s.clock.game.adjusted delta
        state :=
          if s.clock.game.adjusted delta = fin then .ended
          else if s.clock.game.state = .running then .running else .stopped } := by
  by_cases h : s.clock.game.state = .running
  · by_cases hend : s.clock.game.adjusted delta = s.clock.game.endValue
    · rw [adjustClock_ends h hend, gamePeriodEnd_clock, if_pos (hend.trans hfin), ClockUnit.periodEnded]
      cases s.clock.horn.endHorn <;> rfl
    · rw [adjustClock_running h hend, if_neg (hfin ▸ hend), if_pos h, ← h]
  · rw [adjustClock_notRunning h, hfin, if_neg h]

theorem ClockUnit.periodEnded_eq (c : ClockUnit) :
    c.periodEnded =
      { c with
        game := { c.game with state := .ended }
        shot := if c.shot.follow = true ∧ c.shot.state = .running then { c.shot with state := .stopped } else c.shot
        horn := { c.horn with timer := if c.horn.endHorn = true then max c.horn.timer c.horn.periodTime else c.horn.timer } } := by
  rw [ClockUnit.periodEnded, ShotClock.onStop_eq]
  cases h : c.horn.endHorn <;> rfl

theorem gcEnded_ne_captureFlag (n : Fin 4) : Flag.gcEnded ≠ captureFlag n := by
  revert n
  decide

theorem gamePeriodEnd_channels (n : Fin 4) (s : State) :
    (gamePeriodEnd s).console.channels[n] =
      if (s.console.channels[n]).source = .gcEnd then (s.console.channels[n]).take (gamePeriodEnd s).clock
      else s.console.channels[n] := by
  have hclock := gamePeriodEnd_clock s
  rw [hclock, gamePeriodEnd, fireCapture_channels, firesOn_gcEnd]
  simp only [decide_eq_true_eq]
  rfl

theorem gamePeriodEnd_flagged_channel (n : Fin 4) (s : State) :
    (gamePeriodEnd s).flagged (captureFlag n) =
      (s.flagged (captureFlag n) || decide ((s.console.channels[n]).source = .gcEnd)) := by
  rw [gamePeriodEnd, fireCapture_flagged_channel, State.raise_flagged_other _ (gcEnded_ne_captureFlag n).symm, firesOn_gcEnd]
  rfl

theorem gamePeriodEnd_flagged_gcEnded (s : State) : (gamePeriodEnd s).flagged .gcEnded = true := by
  rw [gamePeriodEnd, fireCapture_flagged_other _ gcEnded_ne_captureFlag, State.raise_flagged]

theorem gamePeriodEnd_flagged_other {f : Flag} (hf : f ≠ .gcEnded) (hchannel : ∀ n : Fin 4, f ≠ captureFlag n) (s : State) :
    (gamePeriodEnd s).flagged f = s.flagged f := by
  rw [gamePeriodEnd, fireCapture_flagged_other _ hchannel, State.raise_flagged_other _ hf]
  rfl

theorem gamePeriodEnd_frame (s : State) :
    gamePeriodEnd s =
      { s with
        clock := (gamePeriodEnd s).clock
        console := { s.console with channels := (gamePeriodEnd s).console.channels }
        command := { s.command with flags := (gamePeriodEnd s).command.flags } } := by
  rw [gamePeriodEnd, fireCapture_frame]
  rfl

theorem adjustClock_quiet {delta : Int} {s : State}
    (h : s.clock.game.state ≠ .running ∨ s.clock.game.adjusted delta ≠ s.clock.game.endValue) :
    adjustClock delta s = { s with clock := { s.clock with game := (adjustClock delta s).clock.game } } := by
  by_cases hrunning : s.clock.game.state = .running
  · rw [adjustClock_running hrunning (h.resolve_left (not_not_intro hrunning))]
  · rw [adjustClock_notRunning hrunning]

/-- Settles O17, from the value an adjustment gives and, at the end value, the period end it makes. -/
theorem adjustClockCorrects : Obligations.AdjustClockCorrects := by
  unfold Obligations.AdjustClockCorrects
  intro slot delta s hrun
  refine ⟨fun h => answers_of_rule rfl hrun (ruleAdjustClock_refused s h), fun h => answers_of_rule rfl hrun (ruleAdjustClock_zero s h),
    fun hlow hhigh hne v top fin hup hdown hv => ?_⟩
  have htop : s.clock.game.top = top := by
    unfold GameClock.top
    cases hd : s.clock.game.direction with
    | up => exact (hup hd).1.symm
    | down => exact (hdown hd).1.symm
  have hfin : s.clock.game.endValue = fin := by
    unfold GameClock.endValue
    cases hd : s.clock.game.direction with
    | up => exact (hup hd).2.symm
    | down => exact (hdown hd).2.symm
  have hadjusted := adjusted_eq htop hv
  refine ⟨adjustClock delta.toInt s, answers_of_rule rfl hrun (ruleAdjustClock_taken hlow hhigh hne hadjusted), ?_, fun hrunning hend => ?_,
    fun h => adjustClock_quiet ?_⟩
  · rw [adjustClock_game hfin, hadjusted]
  · have hends := adjustClock_ends hrunning (hadjusted.trans (hend.trans hfin.symm))
    rw [hends]
    refine ⟨gamePeriodEnd_flagged_gcEnded _, ?_, fun n => ⟨gamePeriodEnd_channels n _, gamePeriodEnd_flagged_channel n _⟩,
      fun f hf hchannel => gamePeriodEnd_flagged_other hf hchannel _, gamePeriodEnd_frame _⟩
    rw [gamePeriodEnd_clock, ClockUnit.periodEnded_eq]
  · rwa [hadjusted, hfin]

/-! ### Settings of console, flash and ticker (R94, R95, R104, R154) -/

theorem lineNumber_of_val_eq {b : Byte} {n : Fin 8} (h : b.toNat = n.val) : lineNumber b = some n := by
  have hlt : b.toNat < 8 := h ▸ n.isLt
  rw [lineNumber, dif_pos hlt]
  exact congrArg some (Fin.ext h)

theorem filterTime_of_choice {b : Byte} (h : b = 0 ∨ b = 2 ∨ b = 4 ∨ b = 8 ∨ b = 16 ∨ b = 32) : filterTime b = some b.toNat := by
  obtain rfl | rfl | rfl | rfl | rfl | rfl := h <;> rfl

theorem onOff_decide {b : Byte} (h : b = 0 ∨ b = 1) : onOff b = some (decide (b = 1)) := by
  obtain rfl | rfl := h <;> rfl

theorem setLineState_line_same (n : Fin 8) (l : ConsoleLine) (s : State) : (setLineState n l s).console.lines[n] = l := by
  simp [setLineState]

theorem setLineState_line_other {n m : Fin 8} (h : m ≠ n) (l : ConsoleLine) (s : State) :
    (setLineState n l s).console.lines[m] = s.console.lines[m] := by
  have hne : n.val ≠ m.val := fun e => h (Fin.ext e.symm)
  simp [setLineState, hne]

/-- One channel given another source. -/
def setChannelSource (n : Fin 4) (src : CaptureSource) (s : State) : State :=
  { s with
    console := { s.console with channels := s.console.channels.set n.val { s.console.channels[n] with source := src } n.isLt } }

theorem ruleSetCapture_taken {channel source line edge : Byte} {n : Fin 4} {src : CaptureSource} (s : State) (hn : channel.toNat = n.val)
    (hsrc : captureSource source line edge = some src) :
    ruleSetCapture channel source line edge s = (setChannelSource n src s, Result.plain .ok) := by
  have hlt : channel.toNat < 4 := hn ▸ n.isLt
  rw [ruleSetCapture, hsrc]
  dsimp only
  rw [dif_pos hlt]
  simp only [setChannelSource, hn]
  rfl

theorem ruleSetLine_taken {line function level filter raw : Byte} {n : Fin 8} {f : LineFunction} (s : State) (hn : line.toNat = n.val)
    (hf : lineFunction function = some f) (hlevel : level = 0 ∨ level = 1)
    (hfilter : filter = 0 ∨ filter = 2 ∨ filter = 4 ∨ filter = 8 ∨ filter = 16 ∨ filter = 32) :
    ruleSetLine line function level filter raw s =
      (setLineState n
        { function := f, activeHigh := decide (level = 1), filter := filter.toNat, accepted := rawLevel raw n, diff := 0 } s,
        Result.plain .ok) := by
  rw [ruleSetLine, lineNumber_of_val_eq hn, hf, onOff_decide hlevel, filterTime_of_choice hfilter]

/-- Settles O18, from the rule of each setting. -/
theorem consoleFlashAndTickerSettings : Obligations.ConsoleFlashAndTickerSettings := by
  unfold Obligations.ConsoleFlashAndTickerSettings
  refine ⟨fun slot s hrun => ⟨?_, ?_, fun frames h => ?_, fun frames h => ?_⟩, fun slot speed gap s hrun => ⟨fun h => ?_, fun hlow hhigh hgap => ?_⟩⟩
  · intro line function level filter raw n f hn hf hlevel hfilter
    exact ⟨_, answers_of_rule rfl hrun (ruleSetLine_taken s hn hf hlevel hfilter), setLineState_line_same n _ s,
      fun m hm => setLineState_line_other hm _ s, rfl⟩
  · intro channel source line edge n src hn hsrc
    refine ⟨_, answers_of_rule rfl hrun (ruleSetCapture_taken s hn hsrc), by simp [setChannelSource], fun m hm => ?_, rfl⟩
    have hne : n.val ≠ m.val := fun e => hm (Fin.ext e.symm)
    simp [setChannelSource, hne]
  · refine answers_of_rule rfl hrun (checked_passed ?_ _ _)
    simpa using h
  · refine answers_of_rule rfl hrun (checked_of_some ?_)
    rw [decide_eq_true h]
    rfl
  · refine answers_of_rule rfl hrun (checked_of_some (code := .outOfRange) ?_)
    have hbad : (decide (speed.toNat < 1) || decide (16 < speed.toNat) || decide (4095 < gap.toNat)) = true := by
      simpa [or_assoc] using h
    rw [hbad]
    rfl
  · refine answers_of_rule rfl hrun (checked_passed ?_ _ _)
    simp only [List.forall_mem_cons, Bool.or_eq_false_iff, decide_eq_false_iff_not, Nat.not_lt]
    exact ⟨⟨⟨hlow, hhigh⟩, hgap⟩, List.forall_mem_nil _⟩

/-! ### What a change of score is handed on to (R103, R119) -/

/-- Everything a store of another value can do, by the field and by rise or fall. -/
theorem storeScore_changed {f : Fin 10} {v : Nat} {s : State} (h : v ≠ s.score.fields[f]) :
    (¬(f = 0 ∨ f = 1) ∧ storeScore f v s = { s with score := { s.score with fields := s.score.fields.set f.val v f.isLt } }) ∨
    ((f = 0 ∨ f = 1) ∧ ¬s.score.fields[f] < v ∧ storeScore f v s =
      fireCapture .scoreChange { s with score := { s.score with fields := s.score.fields.set f.val v f.isLt } }) ∨
    ((f = 0 ∨ f = 1) ∧ s.score.fields[f] < v ∧ storeScore f v s = scoreRise (fireCapture .scoreChange
      { s with score := ScoreUnit.startFlash f { s.score with fields := s.score.fields.set f.val v f.isLt } })) := by
  unfold storeScore
  dsimp only
  by_cases hteam : f = 0 ∨ f = 1
  · rw [if_pos hteam]
    by_cases hrise : s.score.fields[f] < v
    · exact .inr (.inr ⟨hteam, hrise, if_pos hrise⟩)
    · have hfall : v < s.score.fields[f] := by omega
      exact .inr (.inl ⟨hteam, hrise, by rw [if_neg hrise, if_pos hfall]⟩)
  · exact .inl ⟨hteam, if_neg hteam⟩

theorem scoreRise_flagged (s : State) (g : Flag) : (scoreRise s).flagged g = s.flagged g := rfl

theorem scoreRise_spots (s : State) : (scoreRise s).rotation.spots = s.rotation.spots := rfl

theorem scoreRise_zones (s : State) (z : ZoneIx) : (scoreRise s).rotation.zones[z] = (s.rotation.zones[z]).onRise := by
  simp [scoreRise]

section
variable {f : Fin 10} {v : Nat} {s : State} (h : v ≠ s.score.fields[f])
include h

theorem storeScore_channels (n : Fin 4) :
    (storeScore f v s).console.channels[n] =
      if (f = 0 ∨ f = 1) ∧ (s.console.channels[n]).source = .scoreChange then (s.console.channels[n]).take s.clock
      else s.console.channels[n] := by
  have hcapture : ∀ u : ScoreUnit, (fireCapture .scoreChange { s with score := u }).console.channels[n] =
      if (s.console.channels[n]).source = .scoreChange then (s.console.channels[n]).take s.clock else s.console.channels[n] := by
    intro u
    rw [fireCapture_channels, firesOn_scoreChange]
    simp only [decide_eq_true_eq]
  obtain ⟨hteam, e⟩ | ⟨hteam, -, e⟩ | ⟨hteam, -, e⟩ := storeScore_changed h
  · rw [e, if_neg fun hboth => hteam hboth.1]
  · rw [e, hcapture]
    simp only [hteam, true_and]
  · rw [e, scoreRise_console, hcapture]
    simp only [hteam, true_and]

theorem storeScore_captureFlag (n : Fin 4) (hteam : f = 0 ∨ f = 1) (hsource : (s.console.channels[n]).source = .scoreChange) :
    (storeScore f v s).flagged (captureFlag n) = true := by
  have hcapture : ∀ u : ScoreUnit, (fireCapture .scoreChange { s with score := u }).flagged (captureFlag n) = true := by
    intro u
    rw [fireCapture_flagged_channel, firesOn_scoreChange, hsource, decide_eq_true rfl, Bool.or_true]
  obtain ⟨hno, -⟩ | ⟨-, -, e⟩ | ⟨-, -, e⟩ := storeScore_changed h
  · exact absurd hteam hno
  · rw [e]
    exact hcapture _
  · rw [e, scoreRise_flagged]
    exact hcapture _

theorem storeScore_flashes :
    (storeScore f v s).score.flashLength = s.score.flashLength ∧
    (storeScore f v s).score.homeFlash = (if f = 0 ∧ s.score.fields[f] < v then s.score.flashLength else s.score.homeFlash) ∧
    (storeScore f v s).score.guestFlash = (if f = 1 ∧ s.score.fields[f] < v then s.score.flashLength else s.score.guestFlash) := by
  obtain ⟨hteam, e⟩ | ⟨-, hno, e⟩ | ⟨hteam, hrise, e⟩ := storeScore_changed h
  · rw [e, if_neg fun hboth => hteam (.inl hboth.1), if_neg fun hboth => hteam (.inr hboth.1)]
    exact ⟨rfl, rfl, rfl⟩
  · rw [e, fireCapture_score, if_neg fun hboth => hno hboth.2, if_neg fun hboth => hno hboth.2]
    exact ⟨rfl, rfl, rfl⟩
  · rw [e, scoreRise_score, fireCapture_score]
    obtain rfl | rfl := hteam
    · rw [if_pos ⟨rfl, hrise⟩, if_neg (fun hboth => absurd hboth.1 (by decide))]
      exact ⟨rfl, rfl, rfl⟩
    · rw [if_neg (fun hboth => absurd hboth.1 (by decide)), if_pos ⟨rfl, hrise⟩]
      exact ⟨rfl, rfl, rfl⟩

theorem storeScore_zones (z : ZoneIx) :
    (storeScore f v s).rotation.zones[z] =
      if (f = 0 ∨ f = 1) ∧ s.score.fields[f] < v ∧ (s.rotation.zones[z]).sting.isSome = true then
        { s.rotation.zones[z] with stingPending := true }
      else s.rotation.zones[z] := by
  obtain ⟨hteam, e⟩ | ⟨-, hno, e⟩ | ⟨hteam, hrise, e⟩ := storeScore_changed h
  · rw [e, if_neg fun hall => hteam hall.1]
  · rw [e, fireCapture_rotation, if_neg fun hall => hno hall.2.1]
  · rw [e, scoreRise_zones, fireCapture_rotation, SponsorZone.onRise]
    simp only [hteam, hrise, true_and]

theorem storeScore_spots : (storeScore f v s).rotation.spots = s.rotation.spots := by
  obtain ⟨-, e⟩ | ⟨-, -, e⟩ | ⟨-, -, e⟩ := storeScore_changed h
  · rw [e]
  · rw [e, fireCapture_rotation]
  · rw [e, scoreRise_spots, fireCapture_rotation]

end

/-- Settles O21, from what a store of another value does to channels, flashes, zones and spots. -/
theorem scoreChangeHandedOn : Obligations.ScoreChangeHandedOn := by
  unfold Obligations.ScoreChangeHandedOn
  intro slot field value s f hrun hf
  dsimp only
  have handedOn : ∀ v : Nat, v ≠ s.score.fields[f] → _ := fun v hne =>
    And.intro (storeScore_field_same f v s) (And.intro (storeScore_flashes hne).1 (And.intro (storeScore_channels hne)
      (And.intro (storeScore_captureFlag hne) (And.intro (storeScore_flashes hne).2.1 (And.intro (storeScore_flashes hne).2.2
        (And.intro (storeScore_zones hne) (storeScore_spots hne)))))))
  refine ⟨fun v hv hne => ?_, fun v h3 h8 h9 hlow hhigh hv hne => ?_⟩
  · rw [← clampField_cast, Int.natCast_inj] at hv
    have hrule := ruleSetScore_taken value s hf
    rw [← hv] at hrule
    exact ⟨storeScore f v s, _, answers_of_rule rfl hrun hrule, handedOn v hne⟩
  · rw [← clampField_cast, Int.natCast_inj] at hv
    have hrule := ruleAddScore_taken s hf (by simp [h3, h8, h9]) hlow hhigh
    rw [← hv] at hrule
    exact ⟨storeScore f v s, _, answers_of_rule rfl hrun hrule, handedOn v hne⟩

end Sys2Proof.Machine
end

section
/-! PROOFS. A tick without an edge (R66, R68, R75, R77, R83): what the clock unit's work and the events handed on do, and the rows named after
an event of such a tick. -/

namespace Sys2Proof.Machine

/-! ### The events handed on (R98) -/

/-- Whether the events of a tick fire a capture source. -/
def ClockEvents.fires (e : ClockEvents) (src : CaptureSource) : Bool :=
  match src with
  | .off => false
  | .line _ _ => false
  | .gcStart => false
  | .gcStop => e.gcStop
  | .gcEnd => e.periodEnd
  | .scEnd => e.shotEnd
  | .scoreChange => false
  | .mark => e.mark0 || e.mark1

theorem fireCaptureIf_channels (c : Bool) (ev : CaptureEvent) (n : Fin 4) (s : State) :
    (fireCaptureIf c ev s).console.channels[n] =
      if c = true ∧ (s.console.channels[n]).source.firesOn ev = true then (s.console.channels[n]).take s.clock
      else s.console.channels[n] := by
  cases c with
  | true => exact (fireCapture_channels ev n s).trans (by simp only [true_and])
  | false => simp [fireCaptureIf]

theorem fireCaptureIf_flagged_channel (c : Bool) (ev : CaptureEvent) (n : Fin 4) (s : State) :
    (fireCaptureIf c ev s).flagged (captureFlag n) =
      (s.flagged (captureFlag n) || (c && (s.console.channels[n]).source.firesOn ev)) := by
  cases c with
  | true => exact (fireCapture_flagged_channel ev n s).trans (by rw [Bool.true_and])
  | false => simp [fireCaptureIf]

theorem fireCaptureIf_flagged_other (c : Bool) (ev : CaptureEvent) {f : Flag} (h : ∀ n : Fin 4, f ≠ captureFlag n) (s : State) :
    (fireCaptureIf c ev s).flagged f = s.flagged f := by
  cases c with
  | true => exact fireCapture_flagged_other ev h s
  | false => rfl

theorem mark0_ne_captureFlag : ∀ n : Fin 4, Flag.mark0 ≠ captureFlag n := by decide

theorem mark1_ne_captureFlag : ∀ n : Fin 4, Flag.mark1 ≠ captureFlag n := by decide

theorem scEnded_ne_captureFlag : ∀ n : Fin 4, Flag.scEnded ≠ captureFlag n := by decide

theorem handOn_channels (e : ClockEvents) (n : Fin 4) (s : State) :
    (handOn e s).console.channels[n] =
      if e.fires (s.console.channels[n]).source = true then (s.console.channels[n]).take s.clock else s.console.channels[n] := by
  have hkept : ∀ (p : Prop) [Decidable p] (x : CaptureChannel), (if p then x.take s.clock else x).source = x.source := by
    intro p _ x
    split <;> rfl
  simp only [handOn, fireCaptureIf_channels, fireCaptureIf_clock, raiseIf_console, raiseIf_clock, firesOn_gcEnd, firesOn_gcStop,
    firesOn_mark, firesOn_scEnd, decide_eq_true_eq]
  generalize s.console.channels[n] = x
  cases hsource : x.source <;> simp [ClockEvents.fires, hsource, hkept] <;> congr

theorem handOn_flagged_channel (e : ClockEvents) (n : Fin 4) (s : State) :
    (handOn e s).flagged (captureFlag n) = (s.flagged (captureFlag n) || e.fires (s.console.channels[n]).source) := by
  have hraise : ∀ (c : Bool) (f : Flag) (u : State), f ≠ captureFlag n →
      (u.raiseIf c f).flagged (captureFlag n) = u.flagged (captureFlag n) := by
    intro c f u hf
    rw [State.raiseIf_flagged, decide_eq_false hf.symm, Bool.and_false, Bool.or_false]
  have hsource : ∀ (c : Bool) (ev : CaptureEvent) (u : State),
      ((fireCaptureIf c ev u).console.channels[n]).source = (u.console.channels[n]).source := by
    intro c ev u
    rw [fireCaptureIf_channels]
    split
    · rfl
    · rfl
  have hgc : Flag.gcEnded ≠ captureFlag n := gcEnded_ne_captureFlag n
  have hm0 : Flag.mark0 ≠ captureFlag n := mark0_ne_captureFlag n
  have hm1 : Flag.mark1 ≠ captureFlag n := mark1_ne_captureFlag n
  have hsc : Flag.scEnded ≠ captureFlag n := scEnded_ne_captureFlag n
  simp only [handOn, fireCaptureIf_flagged_channel, hsource, raiseIf_console, hraise _ _ _ hgc, hraise _ _ _ hm0, hraise _ _ _ hm1,
    hraise _ _ _ hsc, firesOn_gcEnd, firesOn_gcStop, firesOn_mark, firesOn_scEnd]
  cases (s.console.channels[n]).source <;> simp [ClockEvents.fires]

/-- A flag that is no channel's after the events are handed on. -/
theorem handOn_flagged_other (e : ClockEvents) {f : Flag} (h : ∀ n : Fin 4, f ≠ captureFlag n) (s : State) :
    (handOn e s).flagged f =
      (s.flagged f || (e.periodEnd && decide (f = .gcEnded)) || (e.mark0 && s.clock.mark0.flag && decide (f = .mark0)) ||
        (e.mark1 && s.clock.mark1.flag && decide (f = .mark1)) || (e.shotEnd && decide (f = .scEnded))) := by
  simp only [handOn, fireCaptureIf_flagged_other _ _ h, State.raiseIf_flagged]

theorem gcEnded_handOn (e : ClockEvents) (s : State) : (handOn e s).flagged .gcEnded = (s.flagged .gcEnded || e.periodEnd) := by
  rw [handOn_flagged_other e gcEnded_ne_captureFlag]
  simp

theorem scEnded_handOn (e : ClockEvents) (s : State) : (handOn e s).flagged .scEnded = (s.flagged .scEnded || e.shotEnd) := by
  rw [handOn_flagged_other e (by decide)]
  simp

theorem mark0_handOn (e : ClockEvents) (s : State) :
    (handOn e s).flagged .mark0 = (s.flagged .mark0 || (e.mark0 && s.clock.mark0.flag)) := by
  rw [handOn_flagged_other e (by decide)]
  simp

theorem mark1_handOn (e : ClockEvents) (s : State) :
    (handOn e s).flagged .mark1 = (s.flagged .mark1 || (e.mark1 && s.clock.mark1.flag)) := by
  rw [handOn_flagged_other e (by decide)]
  simp

theorem handOn_none (b : Bool) (s : State) : handOn { ClockEvents.none with hornOut := b } s = s := rfl

/-! ### The steps of the clock unit's work -/

theorem GameClock.moved_eq (g : GameClock) : g.moved = if g.direction = .up then g.value + 1 else g.value - 1 := by
  unfold GameClock.moved
  cases g.direction <;> rfl

/-- A game clock that has moved keeps its direction and limit, so its end value. -/
theorem ClockUnit.tickGame_eq (c : ClockUnit) :
    c.tickGame =
      if c.game.moved = c.game.endValue then ({ c with game := { c.game with value := c.game.moved } } : ClockUnit).periodEnded
      else { c with game := { c.game with value := c.game.moved } } := rfl

theorem ClockUnit.hornEventIf_eq (b : Bool) (d : Nat) (c : ClockUnit) :
    c.hornEventIf b d = { c with horn := { c.horn with timer := if b = true then max c.horn.timer d else c.horn.timer } } := by
  cases b <;> rfl

/-- What a mark's actions change at all: the horn's timer, which they do not lower, and, if it stops a RUNNING game clock, the clocks. -/
theorem ClockUnit.markIf_cases (b : Bool) (m : Mark) (c : ClockUnit) :
    ∃ t, c.horn.timer ≤ t ∧ (b = true → m.horn = true → c.horn.periodTime ≤ t) ∧
      ((b = true ∧ m.stop = true ∧ c.game.state = .running ∧
          c.markIf b m = ({ c with horn := { c.horn with timer := t } } : ClockUnit).halted) ∨
        (¬(b = true ∧ m.stop = true ∧ c.game.state = .running) ∧ c.markIf b m = { c with horn := { c.horn with timer := t } })) := by
  cases b with
  | false => exact ⟨c.horn.timer, Nat.le_refl _, nofun, .inr ⟨fun h => Bool.noConfusion h.1, rfl⟩⟩
  | true =>
    have hactions : c.markIf true m = c.markActions m := rfl
    refine ⟨if m.horn = true then max c.horn.timer c.horn.periodTime else c.horn.timer, ?_, fun _ hhorn => ?_, ?_⟩
    · split <;> omega
    · rw [if_pos hhorn]
      omega
    · rw [hactions, markActions, hornEventIf_eq]
      by_cases hstop : m.stop = true ∧ c.game.state = .running
      · refine .inl ⟨rfl, hstop.1, hstop.2, ?_⟩
        dsimp only
        rw [if_pos (by rw [hstop.1, hstop.2]; rfl)]
      · refine .inr ⟨fun h => hstop h.2, ?_⟩
        dsimp only
        rw [if_neg (by simpa using hstop)]

/-- The fourth step on the shot clock and the horn. -/
theorem ClockUnit.tickShot_notRunning {c : ClockUnit} (h : c.shot.state ≠ .running) : c.tickShot = (c, false) := by
  rw [tickShot, if_neg h]

theorem ClockUnit.tickShot_falls {c : ClockUnit} (h : c.shot.state = .running) (hv : 1 < c.shot.value) :
    c.tickShot = ({ c with shot := { c.shot with value := c.shot.value - 1 } }, false) := by
  rw [tickShot, if_pos h]
  dsimp only
  rw [if_neg (by omega)]

theorem ClockUnit.tickShot_ends {c : ClockUnit} (h : c.shot.state = .running) (hv : c.shot.value ≤ 1) :
    c.tickShot =
      ({ c with
          shot := { c.shot with value := 0, state := .ended }
          horn := { c.horn with timer := if c.shot.shotHorn = true then max c.horn.timer c.horn.shotTime else c.horn.timer } }, true) := by
  rw [tickShot, if_pos h]
  dsimp only
  rw [if_pos (by omega), hornEventIf_eq]

/-- The fourth step leaves the game clock and the marks alone, and lowers no horn timer. -/
theorem ClockUnit.tickShot_rest (c : ClockUnit) :
    ∃ x t, c.horn.timer ≤ t ∧ c.tickShot.1 = { c with shot := x, horn := { c.horn with timer := t } } := by
  by_cases h : c.shot.state = .running
  · by_cases hv : 1 < c.shot.value
    · exact ⟨_, c.horn.timer, Nat.le_refl _, by rw [tickShot_falls h hv]⟩
    · refine ⟨_, _, ?_, by rw [tickShot_ends h (Nat.not_lt.mp hv)]⟩
      split <;> omega
  · exact ⟨c.shot, c.horn.timer, Nat.le_refl _, by rw [tickShot_notRunning h]⟩

theorem ClockUnit.tick_eq (c : ClockUnit) :
    c.tick = (c.tickTimers.tickStep3.1.tickShot.1,
      { c.tickTimers.tickStep3.2 with shotEnd := c.tickTimers.tickStep3.1.tickShot.2, hornOut := c.horn.timer == 1 }) := rfl

theorem ClockUnit.tickStep3_notRunning {c : ClockUnit} (h : c.game.state ≠ .running) : c.tickStep3 = (c, ClockEvents.none) := by
  rw [tickStep3, if_neg h]

/-- The clock unit after the two marks have acted on a game clock that has moved. -/
def ClockUnit.marked (g : ClockUnit) : ClockUnit :=
  (g.markIf (g.mark0.firesAt g.game.value) g.mark0).markIf (g.mark1.firesAt g.game.value) g.mark1

theorem ClockUnit.tickStep3_running {c : ClockUnit} (h : c.game.state = .running) :
    c.tickStep3 =
      (c.tickGame.marked,
        { ClockEvents.none with
          periodEnd := c.tickGame.game.state == .ended
          mark0 := c.tickGame.mark0.firesAt c.tickGame.game.value
          mark1 := c.tickGame.mark1.firesAt c.tickGame.game.value
          gcStop := c.tickGame.game.state == .running && c.tickGame.marked.game.state == .stopped }) := by
  rw [tickStep3, if_pos h]
  rfl

theorem Mark.firesAt_iff {m : Mark} {v : Nat} : m.firesAt v = true ↔ m.value = some v := by
  rw [Mark.firesAt, beq_iff_eq]

/-! ### A tick in which the clocks only move (R68, R77, R83) -/

/-- The clock unit after a tick in which its clocks only move. -/
def ClockUnit.advanced (c : ClockUnit) : ClockUnit :=
  { c with
    venue := c.venue + 1
    game := { c.game with value := if c.game.state = .running then c.game.moved else c.game.value }
    shot := { c.shot with value := if c.shot.state = .running then c.shot.value - 1 else c.shot.value }
    horn := { c.horn with timer := c.horn.timer - 1 } }

theorem ClockUnit.tickStep3_onlyMoves {c : ClockUnit}
    (h : c.game.state = .running →
      c.game.moved ≠ c.game.endValue ∧ c.mark0.value ≠ some c.game.moved ∧ c.mark1.value ≠ some c.game.moved) :
    c.tickStep3 =
      ({ c with game := { c.game with value := if c.game.state = .running then c.game.moved else c.game.value } }, ClockEvents.none) := by
  by_cases hrunning : c.game.state = .running
  · obtain ⟨hend, hmark0, hmark1⟩ := h hrunning
    have hgame : c.tickGame = { c with game := { c.game with value := c.game.moved } } := by rw [tickGame_eq, if_neg hend]
    have h0 : c.mark0.firesAt c.game.moved = false := Bool.eq_false_iff.mpr fun hf => hmark0 (Mark.firesAt_iff.mp hf)
    have h1 : c.mark1.firesAt c.game.moved = false := Bool.eq_false_iff.mpr fun hf => hmark1 (Mark.firesAt_iff.mp hf)
    rw [tickStep3_running hrunning, hgame, marked]
    dsimp only
    rw [h0, h1, if_pos hrunning, hrunning]
    rfl
  · rw [tickStep3_notRunning hrunning, if_neg hrunning]

theorem ClockUnit.tick_onlyMoves {c : ClockUnit} (h : ClocksOnlyMove c) :
    c.tick = (c.advanced, { ClockEvents.none with hornOut := c.horn.timer == 1 }) := by
  obtain ⟨hgame, hshot⟩ := h
  have hstep3 := tickStep3_onlyMoves (c := c.tickTimers) hgame
  by_cases hrunning : c.shot.state = .running
  · have hshot4 : c.tickTimers.tickStep3.1.tickShot = _ :=
      tickShot_falls (by rw [hstep3]; exact hrunning) (by rw [hstep3]; exact hshot hrunning)
    rw [tick_eq, hshot4, hstep3, advanced, if_pos hrunning]
    rfl
  · have hshot4 : c.tickTimers.tickStep3.1.tickShot = _ := tickShot_notRunning (by rw [hstep3]; exact hrunning)
    rw [tick_eq, hshot4, hstep3, advanced, if_neg hrunning]
    rfl

theorem cleared_hornIndication (order : List TickPart) (s : State) :
    (s.withLines (cleared (completeOrder order) s.console.lines)).console.hornIndication = s.console.hornIndication := by
  have hfeeds : ∀ n : Fin 8, ((s.withLines (cleared (completeOrder order) s.console.lines)).console.lines[n]).feedsHorn =
      (s.console.lines[n]).feedsHorn := by
    intro n
    rw [withLines_lines, cleared_complete]
    rfl
  have hor : ∀ {a b c d : Bool}, a = b → c = d → (a || c) = (b || d) := fun h k => by rw [h, k]
  exact hor (hor (hor (hor (hor (hor (hor (hfeeds 0) (hfeeds 1)) (hfeeds 2)) (hfeeds 3)) (hfeeds 4)) (hfeeds 5)) (hfeeds 6)) (hfeeds 7)

/-- Settles O8, from what the clock unit's work does when its clocks only move. -/
theorem quietTickMovesClocks : Obligations.QuietTickMovesClocks := by
  unfold Obligations.QuietTickMovesClocks
  intro t s hs hquiet hmove
  have htick := millisecondTick_quiet hquiet
  rw [ClockUnit.tick_onlyMoves hmove, handOn_none] at htick
  refine ⟨_, exec_millisecondTick t hs, ?_, fun n => ?_, fun htimer => ⟨?_, ?_⟩⟩
  · rw [htick]
    simp only [ClockUnit.advanced, GameClock.moved_eq]
    rfl
  · rw [htick]
    exact cleared_complete t.order s.console.lines n
  · change Host.Outcome.next (tickWith _ t s) = _
    rw [tickWith_due hs]
    rw [htick]
    exact beq_iff_eq.mpr htimer
  · rw [htick, State.hornActive]
    have hzero : decide (0 < s.clock.advanced.horn.timer) = false := by
      rw [ClockUnit.advanced]
      dsimp only
      rw [htimer]
      rfl
    change (decide (0 < s.clock.advanced.horn.timer) || (s.withLines _).console.hornIndication) = _
    rw [hzero, Bool.false_or, cleared_hornIndication]

end Sys2Proof.Machine
end

section
/-! PROOFS. The rows named after an event of a tick without an edge: a period end, a mark, the end of the shot clock (R68, R75, R77). -/

namespace Sys2Proof.Machine

/-! ### What such a tick does to the clock unit -/

/-- A shot clock that does not follow the game clock does not react to its stop or end (R80). -/
theorem ShotClock.onStop_unfollowed {t : ShotClock} (h : t.follow = false) : t.onStop = t := by
  rw [ShotClock.onStop_eq, if_neg]
  rintro ⟨hfollow, -⟩
  exact Bool.noConfusion (h.symm.trans hfollow)

/-- Both marks together: they lower no horn timer, and stop a RUNNING game clock if one that fires says so. -/
theorem ClockUnit.marked_cases (g : ClockUnit) :
    ∃ t, g.horn.timer ≤ t ∧
      (g.mark0.firesAt g.game.value = true → g.mark0.horn = true → g.horn.periodTime ≤ t) ∧
      (g.mark1.firesAt g.game.value = true → g.mark1.horn = true → g.horn.periodTime ≤ t) ∧
      ((g.game.state = .running ∧
          ((g.mark0.firesAt g.game.value = true ∧ g.mark0.stop = true) ∨ (g.mark1.firesAt g.game.value = true ∧ g.mark1.stop = true)) ∧
          g.marked = ({ g with horn := { g.horn with timer := t } } : ClockUnit).halted) ∨
        (¬(g.game.state = .running ∧
          ((g.mark0.firesAt g.game.value = true ∧ g.mark0.stop = true) ∨ (g.mark1.firesAt g.game.value = true ∧ g.mark1.stop = true))) ∧
          g.marked = { g with horn := { g.horn with timer := t } })) := by
  obtain ⟨t, hle, hhorn, h0⟩ := g.markIf_cases (g.mark0.firesAt g.game.value) g.mark0
  obtain ⟨t', hle', hhorn', h1⟩ :=
    (g.markIf (g.mark0.firesAt g.game.value) g.mark0).markIf_cases (g.mark1.firesAt g.game.value) g.mark1
  rw [← marked] at h1
  obtain ⟨hfires0, hstop0, hrunning, heq⟩ | ⟨hnot, heq⟩ := h0
  · rw [heq] at h1 hle' hhorn'
    obtain ⟨-, -, hstate, -⟩ | ⟨-, heq'⟩ := h1
    · exact nomatch hstate
    · exact ⟨t', Nat.le_trans hle hle', fun hf hh => Nat.le_trans (hhorn hf hh) hle', hhorn',
        .inl ⟨hrunning, .inl ⟨hfires0, hstop0⟩, heq'⟩⟩
  · rw [heq] at h1 hle' hhorn'
    refine ⟨t', Nat.le_trans hle hle', fun hf hh => Nat.le_trans (hhorn hf hh) hle', hhorn', ?_⟩
    obtain ⟨hfires1, hstop1, hrunning, heq'⟩ | ⟨hnot', heq'⟩ := h1
    · exact .inl ⟨hrunning, .inr ⟨hfires1, hstop1⟩, heq'⟩
    · refine .inr ⟨?_, heq'⟩
      rintro ⟨hrunning, hstops | hstops⟩
      · exact hnot ⟨hstops.1, hstops.2, hrunning⟩
      · exact hnot' ⟨hstops.1, hstops.2, hrunning⟩

/-- The third step on a RUNNING game clock that reaches its end value. -/
theorem ClockUnit.tickStep3_ends {c : ClockUnit} (hrunning : c.game.state = .running) (hend : c.game.moved = c.game.endValue) :
    ∃ t, c.horn.timer ≤ t ∧ (c.horn.endHorn = true → c.horn.periodTime ≤ t) ∧
      (c.mark0.value = some c.game.moved → c.mark0.horn = true → c.horn.periodTime ≤ t) ∧
      (c.mark1.value = some c.game.moved → c.mark1.horn = true → c.horn.periodTime ≤ t) ∧
      c.tickStep3 =
        ({ c with
            game := { c.game with value := c.game.endValue, state := .ended }
            shot := c.shot.onStop
            horn := { c.horn with timer := t } },
          { ClockEvents.none with
            periodEnd := true, mark0 := c.mark0.firesAt c.game.moved, mark1 := c.mark1.firesAt c.game.moved }) := by
  have hgame : c.tickGame = ({ c with game := { c.game with value := c.game.moved } } : ClockUnit).periodEnded := by
    rw [tickGame_eq, if_pos hend]
  rw [periodEnded_eq, ← ShotClock.onStop_eq] at hgame
  have hmarked := c.tickGame.marked_cases
  rw [tickStep3_running hrunning]
  rw [hgame] at hmarked ⊢
  dsimp only at hmarked ⊢
  obtain ⟨t, hle, hhorn0, hhorn1, ⟨hstate, -, -⟩ | ⟨-, heq⟩⟩ := hmarked
  · exact nomatch hstate
  · refine ⟨t, ?_, ?_, fun hm hh => hhorn0 (Mark.firesAt_iff.mpr hm) hh, fun hm hh => hhorn1 (Mark.firesAt_iff.mpr hm) hh, ?_⟩
    · split at hle <;> omega
    · intro hend
      rw [if_pos hend] at hle
      omega
    · rw [heq, hend]
      rfl

/-- The third step on a RUNNING game clock that does not reach its end value. -/
theorem ClockUnit.tickStep3_goesOn {c : ClockUnit} (hrunning : c.game.state = .running) (hend : c.game.moved ≠ c.game.endValue) :
    ∃ t, c.horn.timer ≤ t ∧
      (c.mark0.value = some c.game.moved → c.mark0.horn = true → c.horn.periodTime ≤ t) ∧
      (c.mark1.value = some c.game.moved → c.mark1.horn = true → c.horn.periodTime ≤ t) ∧
      c.tickStep3.2.mark0 = c.mark0.firesAt c.game.moved ∧ c.tickStep3.2.mark1 = c.mark1.firesAt c.game.moved ∧
      ((((c.mark0.value = some c.game.moved ∧ c.mark0.stop = true) ∨ (c.mark1.value = some c.game.moved ∧ c.mark1.stop = true)) ∧
        c.tickStep3.1 =
          { c with
            game := { c.game with value := c.game.moved, state := .stopped }
            shot := c.shot.onStop
            horn := { c.horn with timer := t } }) ∨
       (¬((c.mark0.value = some c.game.moved ∧ c.mark0.stop = true) ∨ (c.mark1.value = some c.game.moved ∧ c.mark1.stop = true)) ∧
        c.tickStep3.1 = { c with game := { c.game with value := c.game.moved }, horn := { c.horn with timer := t } })) := by
  have hgame : c.tickGame = { c with game := { c.game with value := c.game.moved } } := by rw [tickGame_eq, if_neg hend]
  have hmarked := c.tickGame.marked_cases
  rw [tickStep3_running hrunning]
  rw [hgame] at hmarked ⊢
  simp only [Mark.firesAt_iff] at hmarked
  dsimp only at hmarked ⊢
  obtain ⟨t, hle, hhorn0, hhorn1, hcases⟩ := hmarked
  refine ⟨t, hle, hhorn0, hhorn1, rfl, rfl, ?_⟩
  obtain ⟨-, hstops, heq⟩ | ⟨hnot, heq⟩ := hcases
  · exact .inl ⟨hstops, heq⟩
  · exact .inr ⟨fun hstops => hnot ⟨hrunning, hstops⟩, heq⟩

/-! ### The whole tick -/

/-- What a tick without an edge does, by what the clock unit's work does in it. -/
structure QuietlyTicked (s : State) (c : ClockUnit) (e : ClockEvents) (u : State) : Prop where
  clock : u.clock = c
  channel : ∀ n : Fin 4,
    u.console.channels[n] = if e.fires (s.console.channels[n]).source = true then (s.console.channels[n]).take c else s.console.channels[n]
  captureFlag : ∀ n : Fin 4, u.flagged (captureFlag n) = (s.flagged (captureFlag n) || e.fires (s.console.channels[n]).source)
  gcEnded : u.flagged .gcEnded = (s.flagged .gcEnded || e.periodEnd)
  scEnded : u.flagged .scEnded = (s.flagged .scEnded || e.shotEnd)
  mark0 : u.flagged .mark0 = (s.flagged .mark0 || (e.mark0 && c.mark0.flag))
  mark1 : u.flagged .mark1 = (s.flagged .mark1 || (e.mark1 && c.mark1.flag))
  rest : u = { s with clock := u.clock, console := u.console, command := { s.command with flags := u.command.flags } }

theorem quietlyTicked {t : TickInput} {s : State} (h : QuietTick t s) :
    QuietlyTicked s s.clock.tick.1 s.clock.tick.2 (millisecondTick t s).1 := by
  rw [millisecondTick_quiet h]
  refine ⟨handOn_clock _ _, (handOn_channels _ · _), (handOn_flagged_channel _ · _), gcEnded_handOn _ _, scEnded_handOn _ _,
    mark0_handOn _ _, mark1_handOn _ _, ?_⟩
  obtain ⟨k, f, heq⟩ := handOn_captureFrame s.clock.tick.2 (s.withClock s.clock.tick.1)
  rw [heq]
  rfl

/-- A channel whose source fires has its capture, and its flag raised. -/
theorem QuietlyTicked.captured {s u : State} {c : ClockUnit} {e : ClockEvents} (h : QuietlyTicked s c e u) {n : Fin 4}
    (hfires : e.fires (s.console.channels[n]).source = true) :
    u.console.channels[n] = (s.console.channels[n]).take u.clock ∧ u.flagged (Machine.captureFlag n) = true := by
  rw [h.channel n, h.captureFlag n, h.clock, if_pos hfires, hfires, Bool.or_true]
  exact ⟨rfl, rfl⟩

/-- The last step's horn and shot clock, in a tick whose third step is known. -/
theorem ClockUnit.tick_fst (c : ClockUnit) :
    ∃ x t, c.tickTimers.tickStep3.1.horn.timer ≤ t ∧
      c.tick.1 = { c.tickTimers.tickStep3.1 with shot := x, horn := { c.tickTimers.tickStep3.1.horn with timer := t } } :=
  c.tickTimers.tickStep3.1.tickShot_rest

/-- Settles O9, from the third step on a game clock that reaches its end value and the fourth on the shot clock it leaves. -/
theorem periodEndsAtEndValue : Obligations.PeriodEndsAtEndValue := by
  unfold Obligations.PeriodEndsAtEndValue
  intro t s hs hquiet hrunning hend
  have hu := quietlyTicked hquiet
  obtain ⟨d, -, hhorn, -, -, hstep3⟩ := ClockUnit.tickStep3_ends (c := s.clock.tickTimers) hrunning hend
  have hperiod : s.clock.tick.2.periodEnd = true := by
    rw [ClockUnit.tick_eq, hstep3]
  have hdue : (millisecondTick t s).2.clock.periodEnd = true := by rw [millisecondTick_quiet hquiet]; exact hperiod
  have hshot : s.clock.tickTimers.tickStep3.1.shot = s.clock.shot.onStop := by rw [hstep3]; rfl
  have hshotHorn : s.clock.tickTimers.tickStep3.1.horn.shotTime = s.clock.horn.shotTime := by rw [hstep3]; rfl
  have htick : s.clock.tick.1 = s.clock.tickTimers.tickStep3.1.tickShot.1 := rfl
  have hshotEnd : s.clock.tick.2.shotEnd = s.clock.tickTimers.tickStep3.1.tickShot.2 := rfl
  obtain ⟨x, d', hle, hfst⟩ := s.clock.tick_fst
  rw [hstep3] at hfst hle
  refine ⟨_, congrArg Host.Outcome.next (tickWith_due hs hdue), ?_, ?_, ?_, ?_, ?_, ?_, ?_, ?_, hu.rest⟩
  · rw [hu.clock, hfst]
    rfl
  · rw [hu.clock, hfst]
    rfl
  · rw [hu.gcEnded, hperiod, Bool.or_true]
  · intro hendHorn
    rw [hu.clock, hfst]
    exact Nat.le_trans (hhorn hendHorn) hle
  · intro hfollow hshotRunning
    have hstopped : s.clock.tickTimers.tickStep3.1.shot = { s.clock.shot with state := .stopped } := by
      rw [hshot, ShotClock.onStop_eq, if_pos ⟨hfollow, hshotRunning⟩]
    rw [hu.clock, htick, ClockUnit.tickShot_notRunning (by rw [hstopped]; nofun), hstopped]
  · intro hshotOther
    have hsame : s.clock.tickTimers.tickStep3.1.shot = s.clock.shot := by
      rw [hshot, ShotClock.onStop_eq, if_neg fun h => hshotOther h.2]
    rw [hu.clock, htick, ClockUnit.tickShot_notRunning (by rwa [hsame]), hsame]
  · intro hfollow hshotRunning
    have hsame : s.clock.tickTimers.tickStep3.1.shot = s.clock.shot := by
      rw [hshot, ShotClock.onStop_unfollowed hfollow]
    refine ⟨fun hvalue => ?_, fun hvalue => ?_⟩
    · have hfalls := ClockUnit.tickShot_falls (c := s.clock.tickTimers.tickStep3.1) (by rwa [hsame]) (by rwa [hsame])
      rw [hfalls] at htick hshotEnd
      rw [hu.clock, htick, hu.scEnded, hshotEnd, Bool.or_false, hsame]
      exact ⟨rfl, rfl⟩
    · have hends := ClockUnit.tickShot_ends (c := s.clock.tickTimers.tickStep3.1) (by rwa [hsame]) (by rwa [hsame])
      rw [hends] at htick hshotEnd
      refine ⟨?_, ?_, ?_, fun n hsource => hu.captured ?_⟩
      · rw [hu.clock, htick, hsame]
      · rw [hu.scEnded, hshotEnd, Bool.or_true]
      · intro hhorn
        rw [hu.clock, htick]
        dsimp only
        rw [hsame, if_pos hhorn, hshotHorn]
        omega
      · rw [hsource]
        exact hshotEnd
  · intro n hsource
    refine hu.captured ?_
    rw [hsource]
    exact hperiod

/-- The third step of a tick that brings a RUNNING game clock to a mark's value, whichever mark it is. -/
theorem ClockUnit.tickStep3_marked {c : ClockUnit} {m : Mark} (hm : m = c.mark0 ∨ m = c.mark1) (hrunning : c.game.state = .running)
    (hvalue : m.value = some c.game.moved) :
    c.tickStep3.1.game.value = c.game.moved ∧ (m.horn = true → c.horn.periodTime ≤ c.tickStep3.1.horn.timer) ∧
      (m.stop = true → c.game.moved ≠ c.game.endValue → c.tickStep3.1.game.state = .stopped) ∧
      (c.game.moved = c.game.endValue → c.tickStep3.1.game.state = .ended) ∧
      c.tickStep3.2.mark0 = c.mark0.firesAt c.game.moved ∧ c.tickStep3.2.mark1 = c.mark1.firesAt c.game.moved ∧
      c.tickStep3.1.mark0 = c.mark0 ∧ c.tickStep3.1.mark1 = c.mark1 := by
  by_cases hend : c.game.moved = c.game.endValue
  · obtain ⟨d, -, -, hhorn0, hhorn1, heq⟩ := tickStep3_ends hrunning hend
    rw [heq]
    refine ⟨hend.symm, ?_, fun _ hne => absurd hend hne, fun _ => rfl, rfl, rfl, rfl, rfl⟩
    obtain rfl | rfl := hm
    · exact hhorn0 hvalue
    · exact hhorn1 hvalue
  · obtain ⟨d, -, hhorn0, hhorn1, hevent0, hevent1, hcases⟩ := tickStep3_goesOn hrunning hend
    have hhorn : m.horn = true → c.horn.periodTime ≤ d := by
      obtain rfl | rfl := hm
      · exact hhorn0 hvalue
      · exact hhorn1 hvalue
    refine ⟨?_, ?_, ?_, fun h => absurd h hend, hevent0, hevent1, ?_⟩
    all_goals obtain ⟨hstops, heq⟩ | ⟨hnot, heq⟩ := hcases <;> rw [heq]
    · exact hhorn
    · exact hhorn
    · exact fun _ _ => rfl
    · intro hstop _
      obtain rfl | rfl := hm
      · exact absurd (.inl ⟨hvalue, hstop⟩) hnot
      · exact absurd (.inr ⟨hvalue, hstop⟩) hnot
    · exact ⟨rfl, rfl⟩
    · exact ⟨rfl, rfl⟩

/-- Settles O10, from the third step on a game clock that reaches a mark's value. -/
theorem markFiresAtItsValue : Obligations.MarkFiresAtItsValue := by
  unfold Obligations.MarkFiresAtItsValue
  intro t s m f hm hs hquiet hrunning hvalue
  have hu := quietlyTicked hquiet
  have hmark : m = s.clock.mark0 ∨ m = s.clock.mark1 := hm.imp And.left And.left
  obtain ⟨hmoved, hhorn, hstop, hend, hevent0, hevent1, hkept0, hkept1⟩ :=
    ClockUnit.tickStep3_marked (c := s.clock.tickTimers) hmark hrunning hvalue
  obtain ⟨x, d, hle, hfst⟩ := s.clock.tick_fst
  have hmark0 : s.clock.tick.2.mark0 = s.clock.mark0.firesAt s.clock.game.moved := hevent0
  have hmark1 : s.clock.tick.2.mark1 = s.clock.mark1.firesAt s.clock.game.moved := hevent1
  have hclock0 : s.clock.tick.1.mark0 = s.clock.mark0 := by rw [hfst]; exact hkept0
  have hclock1 : s.clock.tick.1.mark1 = s.clock.mark1 := by rw [hfst]; exact hkept1
  have hfires : (s.clock.tick.2.mark0 || s.clock.tick.2.mark1) = true := by
    rw [hmark0, hmark1]
    obtain rfl | rfl := hmark
    · rw [Mark.firesAt_iff.mpr hvalue, Bool.true_or]
    · rw [Mark.firesAt_iff.mpr hvalue, Bool.or_true]
  have hflag : (millisecondTick t s).1.flagged f = (s.flagged f || m.flag) := by
    obtain ⟨rfl, rfl⟩ | ⟨rfl, rfl⟩ := hm
    · rw [hu.mark0, hmark0, hclock0, Mark.firesAt_iff.mpr hvalue, Bool.true_and]
    · rw [hu.mark1, hmark1, hclock1, Mark.firesAt_iff.mpr hvalue, Bool.true_and]
  have hdue : ((millisecondTick t s).2.clock.mark0 || (millisecondTick t s).2.clock.mark1) = true := by
    rw [millisecondTick_quiet hquiet]
    exact hfires
  refine ⟨_, congrArg Host.Outcome.next (tickWith_due hs hdue), ?_, ?_, ?_, ?_, ?_, ?_, fun n hsource => hu.captured ?_, hu.rest⟩
  · rw [hu.clock, hfst]
    exact hmoved
  · intro h
    rw [hflag, h, Bool.or_true]
  · intro h
    rw [hflag, h, Bool.or_false]
  · intro h
    rw [hu.clock, hfst]
    exact Nat.le_trans (hhorn h) hle
  · intro h hne
    rw [hu.clock, hfst]
    exact hstop h hne
  · intro h
    rw [hu.clock, hfst]
    exact hend h
  · rw [hsource]
    exact hfires

/-- Settles O11, since the third step leaves the shot clock alone and the fourth ends it. -/
theorem shotClockEndsAtZero : Obligations.ShotClockEndsAtZero := by
  unfold Obligations.ShotClockEndsAtZero
  intro t s hs hquiet hrunning hvalue hgame
  have hu := quietlyTicked hquiet
  have hstep3 : s.clock.tickTimers.tickStep3.1.shot = s.clock.shot ∧ s.clock.tickTimers.tickStep3.1.horn.shotTime = s.clock.horn.shotTime := by
    by_cases hgameRunning : s.clock.game.state = .running
    · by_cases hend : s.clock.game.moved = s.clock.game.endValue
      · obtain ⟨d, -, -, -, -, heq⟩ := ClockUnit.tickStep3_ends (c := s.clock.tickTimers) hgameRunning hend
        rw [heq]
        obtain hfollow | hother | hnot := hgame
        · exact ⟨ShotClock.onStop_unfollowed hfollow, rfl⟩
        · exact absurd hgameRunning hother
        · exact absurd hend hnot.1
      · obtain ⟨d, -, -, -, -, -, ⟨hstops, heq⟩ | ⟨-, heq⟩⟩ := ClockUnit.tickStep3_goesOn (c := s.clock.tickTimers) hgameRunning hend
        · rw [heq]
          obtain hfollow | hother | ⟨-, hmark0, hmark1⟩ := hgame
          · exact ⟨ShotClock.onStop_unfollowed hfollow, rfl⟩
          · exact absurd hgameRunning hother
          · obtain ⟨hv, hstop⟩ | ⟨hv, hstop⟩ := hstops
            · exact Bool.noConfusion ((hmark0 hv).symm.trans hstop)
            · exact Bool.noConfusion ((hmark1 hv).symm.trans hstop)
        · rw [heq]
          exact ⟨rfl, rfl⟩
    · rw [ClockUnit.tickStep3_notRunning (c := s.clock.tickTimers) hgameRunning]
      exact ⟨rfl, rfl⟩
  obtain ⟨hsame, hshotHorn⟩ := hstep3
  have hends := ClockUnit.tickShot_ends (c := s.clock.tickTimers.tickStep3.1) (by rwa [hsame]) (by rw [hsame, hvalue])
  have htick : s.clock.tick.1 = s.clock.tickTimers.tickStep3.1.tickShot.1 := rfl
  have hshotEnd : s.clock.tick.2.shotEnd = s.clock.tickTimers.tickStep3.1.tickShot.2 := rfl
  rw [hends] at htick hshotEnd
  have hdue : (millisecondTick t s).2.clock.shotEnd = true := by rw [millisecondTick_quiet hquiet]; exact hshotEnd
  refine ⟨_, congrArg Host.Outcome.next (tickWith_due hs hdue), ?_, ?_, ?_, fun n hsource => hu.captured ?_, hu.rest⟩
  · rw [hu.clock, htick, hsame]
  · rw [hu.scEnded, hshotEnd, Bool.or_true]
  · intro hhorn
    rw [hu.clock, htick]
    dsimp only
    rw [hsame, if_pos hhorn, hshotHorn]
    omega
  · rw [hsource]
    exact hshotEnd

end Sys2Proof.Machine
end

section
/-! PROOFS. An accepted edge of a console line within a tick, in every order of the tick's parts (R89, R90, R92, R98). -/

namespace Sys2Proof.Machine

/-! ### A tick's parts around an edge -/

theorem tickRun_append (lines : Byte) (l : List TickPart) : ∀ (m : List TickPart) (r : State × TickEvents),
    tickRun lines (l ++ m) r = tickRun lines m (tickRun lines l r) := by
  induction l with
  | nil => exact fun _ _ => rfl
  | cons p rest ih => exact fun m r => ih m (tickPart lines p r)

/-- The state after the clock unit's work, if that is among the parts. -/
def State.workedIn (l : List TickPart) (s : State) : State :=
  if TickPart.clockWork ∈ l then handOn s.clock.tick.2 (s.withClock s.clock.tick.1) else s

theorem workedIn_lines (l : List TickPart) (s : State) : (s.workedIn l).console.lines = s.console.lines := by
  unfold State.workedIn
  split
  · rw [handOn_lines, withClock_console]
  · rfl

theorem workedIn_seeded (l : List TickPart) (s : State) : (s.workedIn l).console.seeded = s.console.seeded := by
  unfold State.workedIn
  split
  · rw [handOn_seeded, withClock_console]
  · rfl

theorem workedIn_clock (l : List TickPart) (s : State) :
    (s.workedIn l).clock = if TickPart.clockWork ∈ l then s.clock.tick.1 else s.clock := by
  unfold State.workedIn
  split
  · rw [handOn_clock, withClock_clock]
  · rfl

/-- The clock unit's work fires no LINE source. -/
theorem workedIn_channel (l : List TickPart) {s : State} {c : Fin 4} {n : Fin 8} {e : CaptureEdge}
    (h : (s.console.channels[c]).source = .line n e) : (s.workedIn l).console.channels[c] = s.console.channels[c] := by
  unfold State.workedIn
  split
  · rw [handOn_channels, withClock_console, h]
    exact if_neg nofun
  · rfl

theorem consoleRefused_ne_captureFlag : ∀ c : Fin 4, Flag.consoleRefused ≠ captureFlag c := by decide

theorem workedIn_consoleRefused (l : List TickPart) (s : State) : (s.workedIn l).flagged .consoleRefused = s.flagged .consoleRefused := by
  unfold State.workedIn
  split
  · rw [handOn_flagged_other _ consoleRefused_ne_captureFlag]
    have hflags : (s.withClock s.clock.tick.1).flagged .consoleRefused = s.flagged .consoleRefused := rfl
    simp [hflags]
  · rfl

theorem workedIn_flagged (l : List TickPart) {s : State} {f : Flag} (h : s.flagged f = true) : (s.workedIn l).flagged f = true := by
  unfold State.workedIn
  split
  · exact (keptByClock_flagged f).handOn _ h
  · exact h

/-- A run of parts none of which accepts an edge. -/
theorem tickRun_withoutEdge (lines : Byte) (l : List TickPart) : ∀ (s : State) (e : TickEvents), l.Nodup → s.console.seeded = true →
    (∀ n : Fin 8, TickPart.line n ∈ l → rawLevel lines n = (s.console.lines[n]).accepted) →
    (tickRun lines l (s, e)).1 = (s.workedIn l).withLines (cleared l s.console.lines) ∧ (tickRun lines l (s, e)).2.edges = e.edges := by
  induction l with
  | nil =>
    intro s e _ _ _
    refine ⟨?_, rfl⟩
    rw [State.workedIn, if_neg List.not_mem_nil, cleared_nil, withLines_self, tickRun]
  | cons p rest ih =>
    intro s e hnd hs hq
    obtain ⟨hfresh, hrest⟩ := List.nodup_cons.mp hnd
    rw [tickRun]
    cases p with
    | clockWork =>
      rw [tickPart_clock]
      obtain ⟨hstate, hedges⟩ := ih (handOn s.clock.tick.2 (s.withClock s.clock.tick.1)) { e with clock := s.clock.tick.2 } hrest
        (by rw [handOn_seeded]; exact hs) (fun n hn => by rw [handOn_lines]; exact hq n (List.mem_cons_of_mem _ hn))
      refine ⟨?_, hedges⟩
      rw [hstate, State.workedIn, if_neg hfresh, State.workedIn, if_pos List.mem_cons_self, handOn_lines, withClock_console,
        cleared_cons_clock]
    | line n =>
      rw [tickPart_line_quiet e hs (hq n List.mem_cons_self)]
      have hrestQuiet : ∀ m : Fin 8, TickPart.line m ∈ rest →
          rawLevel lines m =
            ((s.withLines (s.console.lines.set n.val { s.console.lines[n] with diff := 0 } n.isLt)).console.lines[m]).accepted := by
        intro m hm
        have hne : n ≠ m := by
          rintro rfl
          exact hfresh hm
        have hval : n.val ≠ m.val := fun h => hne (Fin.ext h)
        have hkept : (s.withLines (s.console.lines.set n.val { s.console.lines[n] with diff := 0 } n.isLt)).console.lines[m] =
            s.console.lines[m] := by
          simp [hval]
        rw [hkept]
        exact hq m (List.mem_cons_of_mem _ hm)
      obtain ⟨hstate, hedges⟩ := ih (s.withLines (s.console.lines.set n.val { s.console.lines[n] with diff := 0 } n.isLt)) e hrest
        (by rw [withLines_seeded]; exact hs) hrestQuiet
      refine ⟨?_, hedges⟩
      have hwork : TickPart.clockWork ∈ TickPart.line n :: rest ↔ TickPart.clockWork ∈ rest := by simp
      rw [hstate, withLines_lines, cleared_cons_line, State.workedIn, State.workedIn]
      by_cases hmem : TickPart.clockWork ∈ rest
      · rw [if_pos hmem, if_pos (hwork.mpr hmem), withLines_clock, withClock_withLines, handOn_withLines, withLines_withLines]
      · rw [if_neg hmem, if_neg fun h => hmem (hwork.mp h), withLines_withLines]

/-! ### What a request leaves of the console -/

/-- The states whose console has another's lines and its LINE captures. -/
structure LinesKept (s t : State) : Prop where
  lines : t.console.lines = s.console.lines
  seeded : t.console.seeded = s.console.seeded
  channel : ∀ (c : Fin 4) (n : Fin 8) (e : CaptureEdge), (s.console.channels[c]).source = .line n e →
    t.console.channels[c] = s.console.channels[c]

theorem LinesKept.of_console {s t : State} (h : t.console = s.console) : LinesKept s t :=
  ⟨by rw [h], by rw [h], fun _ _ _ _ => by rw [h]⟩

theorem gameClockStart_linesKept (s : State) : LinesKept s (gameClockStart s) := by
  refine ⟨?_, ?_, fun c n e h => ?_⟩
  · rw [gameClockStart_frame]
  · rw [gameClockStart_frame]
  · rw [gameClockStart_channels, h]
    exact if_neg nofun

theorem gameClockStop_linesKept (s : State) : LinesKept s (gameClockStop s) := by
  refine ⟨?_, ?_, fun c n e h => ?_⟩
  · rw [gameClockStop_frame]
  · rw [gameClockStop_frame]
  · rw [gameClockStop_channels, h]
    exact if_neg nofun

theorem decideRequest_linesKept (q : LineRequest) (s : State) : LinesKept s (decideRequest q s).1 := by
  cases q with
  | start =>
    cases h : s.clock.game.state with
    | stopped => rw [decideRequest, startClock_stopped h]; exact gameClockStart_linesKept s
    | running => rw [decideRequest, startClock_running h]; exact .of_console rfl
    | ended => rw [decideRequest, startClock_ended h]; exact .of_console rfl
  | stop =>
    by_cases h : s.clock.game.state = .running
    · rw [decideRequest, stopClock_running h]
      exact gameClockStop_linesKept s
    · rw [decideRequest, stopClock_other h]
      exact .of_console rfl
  | shotReset => exact .of_console rfl
  | shotToggle =>
    by_cases h : s.clock.shot.state = .running
    · rw [decideRequest, shotToggle, if_pos h, shotStop_running h]
      exact .of_console rfl
    · rw [decideRequest, shotToggle, if_neg h]
      unfold shotStart
      split <;> exact .of_console rfl

theorem makeRequest_linesKept (q : LineRequest) (s : State) : LinesKept s (makeRequest q s) := by
  obtain ⟨hlines, hseeded, hchannel⟩ := decideRequest_linesKept q s
  unfold makeRequest
  dsimp only
  split
  · exact ⟨hlines, hseeded, hchannel⟩
  · exact ⟨hlines, hseeded, hchannel⟩

/-! ### The requests by the clocks' states (R81, R92) -/

theorem makeRequest_taken {q : LineRequest} {s t : State} (h : decideRequest q s = (t, Result.plain .ok)) : makeRequest q s = t := by
  rw [makeRequest, h]
  rfl

theorem makeRequest_refused {q : LineRequest} {s : State} {code : ResultCode} (hcode : code ≠ .ok) (h : decideRequest q s = refuse code s) :
    makeRequest q s = s.raise .consoleRefused := by
  rw [makeRequest, h]
  exact if_neg hcode

theorem makeRequest_start_stopped {s : State} (h : s.clock.game.state = .stopped) : makeRequest .start s = gameClockStart s :=
  makeRequest_taken (startClock_stopped h)

theorem makeRequest_start_ended {s : State} (h : s.clock.game.state = .ended) : makeRequest .start s = s.raise .consoleRefused :=
  makeRequest_refused (code := .wrongState) nofun (startClock_ended h)

theorem makeRequest_stop_running {s : State} (h : s.clock.game.state = .running) : makeRequest .stop s = gameClockStop s :=
  makeRequest_taken (stopClock_running h)

theorem makeRequest_shotReset (s : State) : makeRequest .shotReset s = (shotReset s).1 := makeRequest_taken rfl

theorem makeRequest_shotToggle_refused {s : State} (h : s.clock.shot.state = .blank ∨ s.clock.shot.state = .ended) :
    makeRequest .shotToggle s = s.raise .consoleRefused := by
  refine makeRequest_refused (code := .wrongState) nofun ?_
  have hne : s.clock.shot.state ≠ .running := by obtain h | h := h <;> rw [h] <;> nofun
  rw [decideRequest, shotToggle, if_neg hne, shotStart_refused h]

theorem makeRequest_shotToggle_stopped {s : State} (h : s.clock.shot.state = .stopped) :
    makeRequest .shotToggle s = setShotState .running s := by
  refine makeRequest_taken ?_
  have hne : s.clock.shot.state ≠ .running := by rw [h]; nofun
  rw [decideRequest, shotToggle, if_neg hne, shotStart_stopped h]

theorem makeRequest_shotToggle_running {s : State} (h : s.clock.shot.state = .running) :
    makeRequest .shotToggle s = setShotState .stopped s := by
  refine makeRequest_taken ?_
  rw [decideRequest, shotToggle, if_pos h, shotStop_running h]

theorem gameClockStart_consoleRefused (s : State) : (gameClockStart s).flagged .consoleRefused = s.flagged .consoleRefused := by
  rw [gameClockStart, fireCapture_flagged_other _ consoleRefused_ne_captureFlag]
  unfold cutOnClock
  split
  · rw [State.raise_flagged_other _ (by decide)]
    rfl
  · rfl

/-! ### The tick with one edge -/

/-- The state in which the request of line n's function is made: the edge accepted and its captures taken. -/
structure EdgeAccepted (t : TickInput) (n : Fin 8) (s v : State) : Prop where
  line : v.console.lines[n] = { s.console.lines[n] with accepted := rawLevel t.lines n, diff := 0 }
  captured : ∀ (c : Fin 4) (e : CaptureEdge), (s.console.channels[c]).source = .line n e → e.covers (rawLevel t.lines n) = true →
    (v.console.channels[c]).source = .line n e ∧ (v.console.channels[c]).sequence = (s.console.channels[c]).sequence + 1 ∧
      v.flagged (captureFlag c) = true
  consoleRefused : v.flagged .consoleRefused = s.flagged .consoleRefused

/-- The request of a line's function made, if it makes one. -/
def edgeRequested (l : ConsoleLine) (raw : Bool) (s : State) : State :=
  match edgeRequest l.function (raw == l.activeHigh) with
  | some q => makeRequest q s
  | none => s

theorem edgeRequested_of {l : ConsoleLine} {raw : Bool} {q : LineRequest} (h : edgeRequest l.function (raw == l.activeHigh) = some q)
    (s : State) : edgeRequested l raw s = makeRequest q s := by
  rw [edgeRequested, h]

theorem edgeRequested_none {l : ConsoleLine} {raw : Bool} (h : edgeRequest l.function (raw == l.activeHigh) = none)
    (s : State) : edgeRequested l raw s = s := by
  rw [edgeRequested, h]

theorem edgeRequested_linesKept (l : ConsoleLine) (raw : Bool) (s : State) : LinesKept s (edgeRequested l raw s) := by
  unfold edgeRequested
  split
  · exact makeRequest_linesKept _ _
  · exact .of_console rfl

theorem edgeRequested_flagged (l : ConsoleLine) (raw : Bool) {s : State} {f : Flag} (h : s.flagged f = true) :
    (edgeRequested l raw s).flagged f = true := by
  unfold edgeRequested
  split
  · exact (keptByClock_flagged f).makeRequest _ h
  · exact h

/-- The sample that completes a line's acceptance count. -/
theorem sampleLine_edge {lines : Byte} {n : Fin 8} {s : State} (h : (s.console.lines[n]).accepts (rawLevel lines n) = true) :
    sampleLine lines n s =
      edgeRequested (s.console.lines[n]) (rawLevel lines n)
        (fireCapture (.line n (rawLevel lines n))
          (setLineState n { s.console.lines[n] with accepted := rawLevel lines n, diff := 0 } s)) := by
  have hsampled : (s.console.lines[n]).sampled (rawLevel lines n) =
      { s.console.lines[n] with accepted := rawLevel lines n, diff := 0 } := by
    have hne : rawLevel lines n ≠ (s.console.lines[n]).accepted := by
      intro heq
      rw [ConsoleLine.accepts, heq, bne_self_eq_false, Bool.false_and] at h
      exact Bool.noConfusion h
    rw [ConsoleLine.sampled, if_neg hne, if_pos h]
  unfold sampleLine
  dsimp only
  rw [if_pos h, hsampled, edgeActs, setLineState_line_same]
  rfl

/-- The state after line n's accepted edge, within a tick that has come to the state s. -/
def edgeTaken (t : TickInput) (n : Fin 8) (s : State) : State :=
  fireCapture (.line n (rawLevel t.lines n)) (setLineState n { s.console.lines[n] with accepted := rawLevel t.lines n, diff := 0 } s)

theorem edgeTaken_accepted (t : TickInput) (n : Fin 8) (s : State) : EdgeAccepted t n s (edgeTaken t n s) := by
  refine ⟨?_, fun c e hsource hcovers => ?_, ?_⟩
  · rw [edgeTaken, fireCapture_lines, setLineState_line_same]
  · have hfires : (CaptureSource.line n e).firesOn (.line n (rawLevel t.lines n)) = true := by
      simp [CaptureSource.firesOn, hcovers]
    have hkept : (setLineState n { s.console.lines[n] with accepted := rawLevel t.lines n, diff := 0 } s).console.channels[c] =
        s.console.channels[c] := rfl
    rw [edgeTaken, fireCapture_channels, fireCapture_flagged_channel, hkept, hsource, if_pos hfires, hfires, Bool.or_true]
    exact ⟨hsource, rfl, rfl⟩
  · rw [edgeTaken, fireCapture_flagged_other _ consoleRefused_ne_captureFlag]
    rfl

theorem edgeTaken_clock (t : TickInput) (n : Fin 8) (s : State) : (edgeTaken t n s).clock = s.clock := by
  rw [edgeTaken, fireCapture_clock]
  rfl

/-- What a tick in which one line alone differs, and completes its count, does: with the clock unit's work before the edge or after it. -/
structure EdgeTick (t : TickInput) (n : Fin 8) (s v u : State) : Prop where
  accepted : EdgeAccepted t n s v
  clock :
    (v.clock = s.clock.tick.1 ∧ u.clock = (edgeRequested (s.console.lines[n]) (rawLevel t.lines n) v).clock) ∨
    (v.clock = s.clock ∧ u.clock = (edgeRequested (s.console.lines[n]) (rawLevel t.lines n) v).clock.tick.1)
  line : u.console.lines[n] = { s.console.lines[n] with accepted := rawLevel t.lines n, diff := 0 }
  others : ∀ m : Fin 8, m ≠ n → u.console.lines[m] = { s.console.lines[m] with diff := 0 }
  channel : ∀ (c : Fin 4) (e : CaptureEdge), (v.console.channels[c]).source = .line n e → u.console.channels[c] = v.console.channels[c]
  consoleRefused : u.flagged .consoleRefused = (edgeRequested (s.console.lines[n]) (rawLevel t.lines n) v).flagged .consoleRefused
  flagged : ∀ f : Flag, (edgeRequested (s.console.lines[n]) (rawLevel t.lines n) v).flagged f = true → u.flagged f = true

theorem millisecondTick_edge {t : TickInput} {n : Fin 8} {s : State} (hseeded : s.console.seeded = true)
    (hothers : ∀ m : Fin 8, m ≠ n → rawLevel t.lines m = (s.console.lines[m]).accepted)
    (hedge : (s.console.lines[n]).accepts (rawLevel t.lines n) = true) :
    (millisecondTick t s).2.edges.contains n = true ∧ ∃ v, EdgeTick t n s v (millisecondTick t s).1 := by
  obtain ⟨pre, post, horder⟩ := List.append_of_mem (mem_completeOrder t.order (.line n))
  have hnodup := completeOrder_nodup t.order
  rw [horder] at hnodup
  obtain ⟨hpre, hcons, hdisjoint⟩ := List.nodup_append.mp hnodup
  obtain ⟨hfresh, hpost⟩ := List.nodup_cons.mp hcons
  have hnpre : TickPart.line n ∉ pre := fun h => hdisjoint _ h _ List.mem_cons_self rfl
  have hmem : ∀ p : TickPart, p ≠ .line n → p ∈ pre ∨ p ∈ post := by
    intro p hp
    have h := mem_completeOrder t.order p
    rw [horder, List.mem_append, List.mem_cons] at h
    obtain h | h | h := h
    · exact .inl h
    · exact absurd h hp
    · exact .inr h
  have hnotBoth : ∀ p : TickPart, p ∈ pre → p ∉ post := fun p h h' => hdisjoint p h p (List.mem_cons_of_mem _ h') rfl
  have hne_of : ∀ {l : List TickPart}, TickPart.line n ∉ l → ∀ m : Fin 8, TickPart.line m ∈ l → m ≠ n := by
    rintro l hl m hm rfl
    exact hl hm
  -- The parts before the edge, the edge, and the parts after it.
  obtain ⟨hbefore, hedges⟩ := tickRun_withoutEdge t.lines pre s { clock := ClockEvents.none, edges := [] } hpre hseeded
    fun m hm => hothers m (hne_of hnpre m hm)
  have hlineBefore : ((s.workedIn pre).withLines (cleared pre s.console.lines)).console.lines[n] = s.console.lines[n] := by
    rw [withLines_lines, cleared_get, if_neg hnpre]
  have hsample : tickPart t.lines (.line n) (tickRun t.lines pre (s, { clock := ClockEvents.none, edges := [] })) =
      (edgeRequested (s.console.lines[n]) (rawLevel t.lines n)
        (edgeTaken t n ((s.workedIn pre).withLines (cleared pre s.console.lines))),
        { (tickRun t.lines pre (s, { clock := ClockEvents.none, edges := [] })).2 with edges := [n] }) := by
    have hseededBefore : ((s.workedIn pre).withLines (cleared pre s.console.lines)).console.seeded = true := by
      rw [withLines_seeded, workedIn_seeded, hseeded]
    simp only [tickPart]
    rw [hbefore, if_pos hseededBefore, hlineBefore, if_pos hedge, hedges, sampleLine_edge (by rw [hlineBefore]; exact hedge),
      hlineBefore, edgeTaken, hlineBefore]
    rfl
  generalize hv : edgeTaken t n ((s.workedIn pre).withLines (cleared pre s.console.lines)) = v at hsample
  generalize hw : edgeRequested (s.console.lines[n]) (rawLevel t.lines n) v = w at hsample
  have hwKept := edgeRequested_linesKept (s.console.lines[n]) (rawLevel t.lines n) v
  rw [hw] at hwKept
  have haccepted : EdgeAccepted t n s v := by
    obtain ⟨hline, hcaptured, hrefused⟩ := edgeTaken_accepted t n ((s.workedIn pre).withLines (cleared pre s.console.lines))
    rw [hv] at hline hcaptured hrefused
    refine ⟨by rw [hline, hlineBefore], fun c e hsource hcovers => ?_, hrefused.trans (workedIn_consoleRefused pre s)⟩
    have hkept : ((s.workedIn pre).withLines (cleared pre s.console.lines)).console.channels[c] = s.console.channels[c] :=
      workedIn_channel pre hsource
    have hfired := hcaptured c e (by rw [hkept, hsource]) hcovers
    rw [hkept] at hfired
    exact hfired
  have hlineOther : ∀ m : Fin 8, m ≠ n → w.console.lines[m] = (cleared pre s.console.lines)[m] := by
    intro m hm
    rw [hwKept.lines, ← hv, edgeTaken, fireCapture_lines, setLineState_line_other hm, withLines_lines]
  have hacceptedOther : ∀ m : Fin 8, m ≠ n → rawLevel t.lines m = (w.console.lines[m]).accepted := by
    intro m hm
    rw [hlineOther m hm, hothers m hm, cleared_get]
    split <;> rfl
  have hwSeeded : w.console.seeded = true := by
    rw [hwKept.seeded, ← hv, edgeTaken, fireCapture_seeded]
    exact (workedIn_seeded pre s).trans hseeded
  obtain ⟨hafter, hedgesAfter⟩ := tickRun_withoutEdge t.lines post w
    { (tickRun t.lines pre (s, { clock := ClockEvents.none, edges := [] })).2 with edges := [n] } hpost hwSeeded
    fun m hm => hacceptedOther m (hne_of hfresh m hm)
  have htick : millisecondTick t s = tickRun t.lines post (w,
      { (tickRun t.lines pre (s, { clock := ClockEvents.none, edges := [] })).2 with edges := [n] }) := by
    unfold millisecondTick
    dsimp only
    rw [if_pos hseeded, horder, tickRun_append, tickRun, hsample]
  rw [htick]
  refine ⟨by rw [hedgesAfter]; simp, v, ?_⟩
  rw [hafter]
  have hvClock : v.clock = (s.workedIn pre).clock := by rw [← hv, edgeTaken_clock, withLines_clock]
  refine ⟨haccepted, ?_, ?_, fun m hm => ?_, fun c e hsource => ?_, ?_, fun f hf => ?_⟩
  · rw [hw, hvClock, workedIn_clock, withLines_clock, workedIn_clock]
    obtain hwork | hwork := hmem .clockWork nofun
    · exact .inl ⟨if_pos hwork, if_neg (hnotBoth _ hwork)⟩
    · exact .inr ⟨if_neg fun h => hnotBoth _ h hwork, if_pos hwork⟩
  · rw [withLines_lines, cleared_get, if_neg hfresh, hwKept.lines, haccepted.line]
  · rw [withLines_lines, cleared_get, hlineOther m hm, cleared_get]
    obtain hpart | hpart := hmem (.line m) (by simpa using hm)
    · rw [if_pos hpart]
      split <;> rfl
    · rw [if_pos hpart]
      split <;> rfl
  · have hsourceAfter := hwKept.channel c n e hsource
    rw [← hsourceAfter]
    exact workedIn_channel post (by rw [hsourceAfter, hsource])
  · rw [hw]
    exact workedIn_consoleRefused post w
  · rw [hw] at hf
    exact workedIn_flagged post hf

/-! ### The clocks around the request -/

theorem ClockUnit.tick_game_notRunning {c : ClockUnit} (h : c.game.state ≠ .running) : c.tick.1.game = c.game := by
  obtain ⟨x, d, -, hfst⟩ := c.tick_fst
  rw [hfst, tickStep3_notRunning (c := c.tickTimers) h]
  rfl

theorem ClockUnit.tick_game_onlyMoves {c : ClockUnit}
    (h : c.game.state = .running →
      c.game.moved ≠ c.game.endValue ∧ c.mark0.value ≠ some c.game.moved ∧ c.mark1.value ≠ some c.game.moved) :
    c.tick.1.game.state = c.game.state := by
  obtain ⟨x, d, -, hfst⟩ := c.tick_fst
  rw [hfst, tickStep3_onlyMoves (c := c.tickTimers) h]
  rfl

/-- The third step leaves the shot clock alone or gives it its reaction to a stop or an end. -/
theorem ClockUnit.tickStep3_shot (c : ClockUnit) : c.tickStep3.1.shot = c.shot ∨ c.tickStep3.1.shot = c.shot.onStop := by
  by_cases hrunning : c.game.state = .running
  · by_cases hend : c.game.moved = c.game.endValue
    · obtain ⟨d, -, -, -, -, heq⟩ := tickStep3_ends hrunning hend
      rw [heq]
      exact .inr rfl
    · obtain ⟨d, -, -, -, -, -, ⟨-, heq⟩ | ⟨-, heq⟩⟩ := tickStep3_goesOn hrunning hend
      · rw [heq]
        exact .inr rfl
      · rw [heq]
        exact .inl rfl
  · rw [tickStep3_notRunning hrunning]
    exact .inl rfl

/-- A tick changes no shot clock but a RUNNING one. -/
theorem ClockUnit.tick_shot_notRunning {c : ClockUnit} (h : c.shot.state ≠ .running) : c.tick.1.shot = c.shot := by
  have hkept : c.tickTimers.tickStep3.1.shot = c.shot := by
    obtain heq | heq := c.tickTimers.tickStep3_shot
    · exact heq
    · rw [heq, ShotClock.onStop_eq, if_neg fun hboth => h hboth.2]
      rfl
  have htick : c.tick.1 = c.tickTimers.tickStep3.1.tickShot.1 := rfl
  rw [htick, tickShot_notRunning (by rwa [hkept]), hkept]

/-- A tick changes the value and the state of the shot clock alone. -/
theorem ClockUnit.tick_shot_settings (c : ClockUnit) :
    ∃ v st, c.tick.1.shot = { c.shot with value := v, state := st } := by
  have hstep3 : ∃ st, c.tickTimers.tickStep3.1.shot = { c.shot with state := st } := by
    obtain heq | heq := c.tickTimers.tickStep3_shot
    · exact ⟨_, heq⟩
    · rw [heq, ShotClock.onStop_eq]
      split
      · exact ⟨_, rfl⟩
      · exact ⟨_, rfl⟩
  obtain ⟨st, heq⟩ := hstep3
  have htick : c.tick.1 = c.tickTimers.tickStep3.1.tickShot.1 := rfl
  rw [htick]
  by_cases hrunning : c.tickTimers.tickStep3.1.shot.state = .running
  · by_cases hvalue : 1 < c.tickTimers.tickStep3.1.shot.value
    · rw [tickShot_falls hrunning hvalue, heq]
      exact ⟨_, _, rfl⟩
    · rw [tickShot_ends hrunning (Nat.not_lt.mp hvalue), heq]
      exact ⟨_, _, rfl⟩
  · rw [tickShot_notRunning hrunning, heq]
    exact ⟨_, _, rfl⟩

/-! ### The requests of an edge, before or after the clock unit's work -/

section
variable {t : TickInput} {n : Fin 8} {s v u : State} (hv : EdgeTick t n s v u)
include hv

theorem EdgeTick.captures {c : Fin 4} {e : CaptureEdge} (hsource : (s.console.channels[c]).source = .line n e)
    (hcovers : e.covers (rawLevel t.lines n) = true) :
    (u.console.channels[c]).sequence = (s.console.channels[c]).sequence + 1 ∧ u.flagged (captureFlag c) = true := by
  obtain ⟨hkept, hsequence, hflag⟩ := hv.accepted.captured c e hsource hcovers
  rw [hv.channel c e hkept, hsequence]
  exact ⟨rfl, hv.flagged _ (edgeRequested_flagged _ _ hflag)⟩

theorem EdgeTick.noRequest (h : edgeRequest (s.console.lines[n]).function (rawLevel t.lines n == (s.console.lines[n]).activeHigh) = none) :
    u.flagged .consoleRefused = s.flagged .consoleRefused := by
  rw [hv.consoleRefused, edgeRequested_none h, hv.accepted.consoleRefused]

section
variable (h : edgeRequest (s.console.lines[n]).function (rawLevel t.lines n == (s.console.lines[n]).activeHigh) = some .start)
include h

theorem EdgeTick.start_ended (hgame : s.clock.game.state = .ended) : u.flagged .consoleRefused = true ∧ u.clock.game = s.clock.game := by
  have hnot : s.clock.game.state ≠ .running := by rw [hgame]; nofun
  have hvGame : v.clock.game = s.clock.game := by
    obtain ⟨heq, -⟩ | ⟨heq, -⟩ := hv.clock
    · rw [heq, ClockUnit.tick_game_notRunning hnot]
    · rw [heq]
  have hw := (edgeRequested_of h v).trans (makeRequest_start_ended (hvGame ▸ hgame))
  refine ⟨?_, ?_⟩
  · rw [hv.consoleRefused, hw, State.raise_flagged]
  · obtain ⟨-, heq⟩ | ⟨-, heq⟩ := hv.clock
    · rw [heq, hw]
      exact hvGame
    · rw [heq, hw]
      exact (ClockUnit.tick_game_notRunning (hvGame ▸ hnot)).trans hvGame

theorem EdgeTick.start_stopped (hgame : s.clock.game.state = .stopped)
    (hmove : ClocksOnlyMove { s.clock with game := { s.clock.game with state := .running } }) :
    u.clock.game.state = .running ∧ u.flagged .consoleRefused = s.flagged .consoleRefused := by
  have hnot : s.clock.game.state ≠ .running := by rw [hgame]; nofun
  have hvGame : v.clock.game = s.clock.game := by
    obtain ⟨heq, -⟩ | ⟨heq, -⟩ := hv.clock
    · rw [heq, ClockUnit.tick_game_notRunning hnot]
    · rw [heq]
  have hw := (edgeRequested_of h v).trans (makeRequest_start_stopped (hvGame ▸ hgame))
  refine ⟨?_, ?_⟩
  · obtain ⟨-, heq⟩ | ⟨hvClock, heq⟩ := hv.clock
    · rw [heq, hw, gameClockStart_clock]
      rfl
    · rw [heq, hw, gameClockStart_clock, ClockUnit.tick_game_onlyMoves]
      · rfl
      · rw [hvClock]
        exact hmove.1
  · rw [hv.consoleRefused, hw, gameClockStart_consoleRefused, hv.accepted.consoleRefused]

end

theorem EdgeTick.stop_running
    (h : edgeRequest (s.console.lines[n]).function (rawLevel t.lines n == (s.console.lines[n]).activeHigh) = some .stop)
    (hgame : s.clock.game.state = .running) (hmove : ClocksOnlyMove s.clock) : u.clock.game.state = .stopped := by
  have hvGame : v.clock.game.state = .running := by
    obtain ⟨heq, -⟩ | ⟨heq, -⟩ := hv.clock
    · rw [heq, ClockUnit.tick_game_onlyMoves hmove.1, hgame]
    · rw [heq, hgame]
  have hw := (edgeRequested_of h v).trans (makeRequest_stop_running hvGame)
  obtain ⟨-, heq⟩ | ⟨-, heq⟩ := hv.clock
  · rw [heq, hw, gameClockStop_clock]
    rfl
  · rw [heq, hw, gameClockStop_clock, ClockUnit.tick_game_notRunning]
    · rfl
    · nofun

theorem EdgeTick.shotReset_taken
    (h : edgeRequest (s.console.lines[n]).function (rawLevel t.lines n == (s.console.lines[n]).activeHigh) = some .shotReset)
    (hgame : s.clock.game.state ≠ .running) :
    u.clock.shot = { s.clock.shot with value := s.clock.shot.preset, state := .stopped } := by
  have hvClock : v.clock.game = s.clock.game ∧ ∃ x st, v.clock.shot = { s.clock.shot with value := x, state := st } := by
    obtain ⟨heq, -⟩ | ⟨heq, -⟩ := hv.clock
    · rw [heq]
      exact ⟨ClockUnit.tick_game_notRunning hgame, ClockUnit.tick_shot_settings _⟩
    · rw [heq]
      exact ⟨rfl, _, _, rfl⟩
  obtain ⟨hvGame, x, st, hvShot⟩ := hvClock
  have hw := (edgeRequested_of h v).trans (makeRequest_shotReset v)
  have hshot : (shotReset v).1.clock.shot = { s.clock.shot with value := s.clock.shot.preset, state := .stopped } := by
    rw [shotReset]
    dsimp only
    rw [hvGame, if_neg hgame, hvShot]
  obtain ⟨-, heq⟩ | ⟨-, heq⟩ := hv.clock
  · rw [heq, hw, hshot]
  · rw [heq, hw, ClockUnit.tick_shot_notRunning (by rw [hshot]; nofun), hshot]

theorem EdgeTick.shot_before (hshot : s.clock.shot.state ≠ .running) : v.clock.shot = s.clock.shot := by
  obtain ⟨heq, -⟩ | ⟨heq, -⟩ := hv.clock
  · rw [heq, ClockUnit.tick_shot_notRunning hshot]
  · rw [heq]

section
variable (h : edgeRequest (s.console.lines[n]).function (rawLevel t.lines n == (s.console.lines[n]).activeHigh) = some .shotToggle)
include h

theorem EdgeTick.shotToggle_refused (hshot : s.clock.shot.state = .blank ∨ s.clock.shot.state = .ended) :
    u.flagged .consoleRefused = true := by
  have hnot : s.clock.shot.state ≠ .running := by obtain hshot | hshot := hshot <;> rw [hshot] <;> nofun
  have hw := (edgeRequested_of h v).trans (makeRequest_shotToggle_refused (hv.shot_before hnot ▸ hshot))
  rw [hv.consoleRefused, hw, State.raise_flagged]

theorem EdgeTick.shotToggle_stopped (hshot : s.clock.shot.state = .stopped) (hmove : ClocksOnlyMove s.clock) (hvalue : 1 < s.clock.shot.value) :
    u.clock.shot.state = .running := by
  have hnot : s.clock.shot.state ≠ .running := by rw [hshot]; nofun
  have hw := (edgeRequested_of h v).trans (makeRequest_shotToggle_stopped (hv.shot_before hnot ▸ hshot))
  obtain ⟨-, heq⟩ | ⟨hvClock, heq⟩ := hv.clock
  · rw [heq, hw]
    rfl
  · have hmoves : ClocksOnlyMove (setShotState .running v).clock := by
      rw [setShotState, hvClock]
      exact ⟨hmove.1, fun _ => hvalue⟩
    rw [heq, hw, ClockUnit.tick_onlyMoves hmoves]
    rfl

theorem EdgeTick.shotToggle_running (hshot : s.clock.shot.state = .running) (hmove : ClocksOnlyMove s.clock) :
    u.clock.shot.state = .stopped := by
  have hvShot : v.clock.shot.state = .running := by
    obtain ⟨heq, -⟩ | ⟨heq, -⟩ := hv.clock
    · rw [heq, ClockUnit.tick_onlyMoves hmove]
      exact hshot
    · rw [heq, hshot]
  have hw := (edgeRequested_of h v).trans (makeRequest_shotToggle_running hvShot)
  obtain ⟨-, heq⟩ | ⟨-, heq⟩ := hv.clock
  · rw [heq, hw]
    rfl
  · rw [heq, hw, ClockUnit.tick_shot_notRunning (fun hrun => nomatch (id hrun : ShotState.stopped = .running))]
    rfl

end

end

/-- Settles O12, from the tick with one edge: the request stands before or after the clock unit's work. -/
theorem lineEdgeActs : Obligations.LineEdgeActs := by
  unfold Obligations.LineEdgeActs
  intro t s n hs hseeded hothers hraw hcount
  have hedge : (s.console.lines[n]).accepts (rawLevel t.lines n) = true := by
    rw [ConsoleLine.accepts, acceptance_eq, Bool.and_eq_true, bne_iff_ne, decide_eq_true_iff]
    exact ⟨hraw, by omega⟩
  obtain ⟨hdue, v, hv⟩ := millisecondTick_edge hseeded hothers hedge
  obtain ⟨c, r, k, f, hframe⟩ := millisecondTick_clockFrame t s
  refine ⟨_, congrArg Host.Outcome.next (tickWith_due hs hdue), hv.line, hv.others, ?_, ?_, ?_, ?_, ?_, ?_, by rw [hframe]⟩
  · exact fun c e hsource hcovers => hv.captures hsource hcovers
  · rintro (hfunction | hfunction)
    · exact hv.noRequest (by rw [hfunction]; rfl)
    · exact hv.noRequest (by rw [hfunction]; rfl)
  · intro hfunction hactive
    have hrequest : edgeRequest (s.console.lines[n]).function (rawLevel t.lines n == (s.console.lines[n]).activeHigh) = some .start := by
      rw [hactive, beq_self_eq_true]
      obtain hfunction | hfunction := hfunction
      · rw [hfunction]
        rfl
      · rw [hfunction]
        rfl
    exact ⟨hv.start_ended hrequest, hv.start_stopped hrequest⟩
  · rintro (⟨hfunction, hactive⟩ | ⟨hfunction, hactive⟩)
    · exact hv.stop_running (by rw [hfunction, hactive, beq_self_eq_true]; rfl)
    · exact hv.stop_running (by rw [hfunction, beq_eq_false_iff_ne.mpr hactive]; rfl)
  · intro hfunction hactive
    exact hv.shotReset_taken (by rw [hfunction, hactive, beq_self_eq_true]; rfl)
  · intro hfunction hactive
    have hrequest : edgeRequest (s.console.lines[n]).function (rawLevel t.lines n == (s.console.lines[n]).activeHigh) = some .shotToggle := by
      rw [hfunction, hactive, beq_self_eq_true]
      rfl
    exact ⟨hv.shotToggle_refused hrequest, hv.shotToggle_stopped hrequest, hv.shotToggle_running hrequest⟩

end Sys2Proof.Machine
end

section
/-! PROOFS. The composer's commands: the settings, and STAGE_ZONE by its checks (R3-R10, Table 1.2). -/

namespace Sys2Proof.Machine

/-! ### Checks in order -/

theorem checked_of_first {fails : Bool} {code : ResultCode} {rest : List (Bool × ResultCode)} {s : State} {taken : State × Result}
    (h : fails = true) : checked ((fails, code) :: rest) s taken = refuse code s :=
  checked_of_some (by rw [firstFailing, h]; rfl)

theorem checked_of_rest {fails : Bool} {code : ResultCode} {rest : List (Bool × ResultCode)} {s : State} {taken : State × Result}
    (h : fails = false) : checked ((fails, code) :: rest) s taken = checked rest s taken := by
  rw [checked, checked, firstFailing, h]
  rfl

/-- Two checks in a row with one code are one check. -/
theorem checked_merge {a b : Bool} {code : ResultCode} {rest : List (Bool × ResultCode)} {s : State} {taken : State × Result} :
    checked ((a, code) :: (b, code) :: rest) s taken = checked ((a || b, code) :: rest) s taken := by
  cases a with
  | true => exact (checked_of_first rfl).trans (checked_of_first rfl).symm
  | false => rw [checked_of_rest rfl, Bool.false_or]

theorem checked_congr_rest {c : Bool × ResultCode} {rest rest' : List (Bool × ResultCode)} {s : State} {taken : State × Result}
    (h : checked rest s taken = checked rest' s taken) : checked (c :: rest) s taken = checked (c :: rest') s taken := by
  obtain ⟨fails, code⟩ := c
  cases fails with
  | true => exact (checked_of_first rfl).trans (checked_of_first rfl).symm
  | false => rw [checked_of_rest rfl, checked_of_rest rfl, h]

/-! ### The settings (R7-R10) -/

theorem aligned4K_iff {a : Nat} : aligned4K a = true ↔ a % 4096 = 0 := by rw [aligned4K, beq_iff_eq]

theorem belowControl_iff {s : State} {base bytes : Nat} : s.belowControl base bytes = true ↔ base + bytes ≤ s.controlBase := by
  rw [State.belowControl, decide_eq_true_iff]

theorem imageBytes_eq (w h : Nat) : imageBytes w h = w * h * 4096 := rfl

theorem outputMode_code {b : Byte} {m : OutputMode} (h : b.toNat = m.code) : outputMode b = some m := by
  cases m <;> rw [outputMode, h] <;> rfl

theorem slateTooLarge_eq_false {s : State} {w h : Nat} :
    slateTooLarge s w h = false ↔ ∀ b ∈ s.composer.slate, b.toNat + w * h * 4096 ≤ s.controlBase := by
  unfold slateTooLarge
  cases s.composer.slate with
  | none => simp
  | some b => simpa [imageBytes_eq] using belowControl_iff (s := s) (base := b.toNat) (bytes := w * h * 4096)

theorem ruleSetScreen_taken {w h : Byte} {s : State} (hmode : s.composer.record.mode = .black) (hw : 8 ≤ w.toNat) (hw' : w.toNat ≤ 128)
    (hh : 4 ≤ h.toNat) (hh' : h.toNat ≤ 48)
    (hlive : ∀ z : ZoneIx, (s.composer.live[z]).enable = true → (s.composer.live[z]).onScreen w.toNat h.toNat = true)
    (hstaged : ∀ z : ZoneIx, (s.composer.staged[z]).enable = true → (s.composer.staged[z]).onScreen w.toNat h.toNat = true)
    (hslate : ∀ b ∈ s.composer.slate, b.toNat + w.toNat * h.toNat * 4096 ≤ s.controlBase) :
    ruleSetScreen w h s =
      ({ s with composer := { s.composer with screenW := w.toNat, screenH := h.toNat } }, Result.plain .ok) := by
  refine checked_passed ?_ s _
  simp only [List.forall_mem_cons]
  refine ⟨by rw [hmode]; rfl, ?_, ?_, slateTooLarge_eq_false.mpr hslate, nofun⟩
  · simp only [Bool.or_eq_false_iff, decide_eq_false_iff_not]
    omega
  · rw [Plan.offScreen_eq_false.mpr hlive, Plan.offScreen_eq_false.mpr hstaged]
    rfl

theorem ruleSetScreen_refused (w h : Byte) {s : State} (hmode : s.composer.record.mode ≠ .black) :
    ruleSetScreen w h s = refuse .wrongMode s :=
  checked_of_first (bne_iff_ne.mpr hmode)

theorem ruleSetHouseSlate_declared {base : Word} {s : State} (haligned : base.toNat % 4096 = 0)
    (hbelow : base.toNat + s.composer.screenW * s.composer.screenH * 4096 ≤ s.controlBase) :
    ruleSetHouseSlate 1 base s = ({ s with composer := { s.composer with slate := some base } }, Result.plain .ok) := by
  refine checked_passed ?_ s _
  simp only [List.forall_mem_cons]
  exact ⟨by rw [aligned4K_iff.mpr haligned]; rfl, by rw [Bool.not_eq_false', belowControl_iff]; exact hbelow, nofun⟩

theorem ruleSetFont_declared {base : Word} {s : State} (haligned : base.toNat % 4096 = 0)
    (hbelow : base.toNat + 262144 ≤ s.controlBase) :
    ruleSetFont 1 base s = ({ s with composer := { s.composer with font := some base } }, Result.plain .ok) := by
  refine checked_passed ?_ s _
  simp only [List.forall_mem_cons]
  exact ⟨by rw [aligned4K_iff.mpr haligned]; rfl, by rw [Bool.not_eq_false', belowControl_iff]; exact hbelow, nofun⟩

theorem ruleSetFont_refused {base : Word} {s : State} (h : base.toNat % 4096 ≠ 0 ∨ s.controlBase < base.toNat + 262144) :
    ruleSetFont 1 base s = refuse .outOfRange s := by
  have hfails : (!aligned4K base.toNat || !s.belowControl base.toNat Config.fontBytes) = true := by
    rw [Bool.or_eq_true, Bool.not_eq_true', Bool.not_eq_true', ← Bool.not_eq_true, ← Bool.not_eq_true, aligned4K_iff, belowControl_iff]
    exact h.imp id Nat.not_le_of_gt
  exact checked_merge.trans (checked_of_first hfails)

/-- Settles O22, rule by rule. -/
theorem composerSettingsStored : Obligations.ComposerSettingsStored := by
  unfold Obligations.ComposerSettingsStored
  intro slot s hrun
  refine ⟨?_, ?_, ?_, ?_, ?_, ?_, ?_, ?_, ?_, ?_⟩
  · intro w h hmode hw hw' hh hh' hlive hstaged hslate
    exact answers_of_rule rfl hrun (ruleSetScreen_taken hmode hw hw' hh hh' hlive hstaged hslate)
  · exact fun w h hmode => answers_of_rule rfl hrun (ruleSetScreen_refused w h hmode)
  · intro b m hcode
    have hrule : ruleSetOutputMode b s = ({ s with composer := { s.composer with requestedMode := m } }, Result.plain .ok) := by
      rw [ruleSetOutputMode, outputMode_code hcode]
    exact answers_of_rule rfl hrun hrule
  · exact fun base haligned hbelow => answers_of_rule rfl hrun (ruleSetHouseSlate_declared haligned hbelow)
  · exact fun base => answers_of_rule rfl hrun rfl
  · exact fun base haligned hbelow => answers_of_rule rfl hrun (ruleSetFont_declared haligned hbelow)
  · exact fun base h => answers_of_rule rfl hrun (ruleSetFont_refused h)
  · exact fun base => answers_of_rule rfl hrun rfl
  · exact answers_of_rule rfl hrun rfl
  · exact answers_of_rule rfl hrun rfl

/-! ### Source kinds by their codes (Table 11.3) -/

theorem zoneSource_cases (b : Byte) :
    (b = 0 ∧ zoneSource b = .fill) ∨ (b = 1 ∧ zoneSource b = .slate) ∨ (b = 2 ∧ zoneSource b = .sponsor) ∨
      (b = 3 ∧ zoneSource b = .replay) ∨ (b = 4 ∧ zoneSource b = .scorebug) ∨ (b = 5 ∧ zoneSource b = .ticker) ∨
      (5 < b.toNat ∧ zoneSource b = .unknown b) := by
  have hcode : ∀ n : Nat, n < 256 → b.toNat = n → b = BitVec.ofNat 8 n := fun n hn h =>
    BitVec.eq_of_toNat_eq (by rw [h, BitVec.toNat_ofNat, Nat.mod_eq_of_lt hn])
  unfold zoneSource
  split
  · next h => exact .inl ⟨hcode 0 (by decide) h, rfl⟩
  · next h => exact .inr (.inl ⟨hcode 1 (by decide) h, rfl⟩)
  · next h => exact .inr (.inr (.inl ⟨hcode 2 (by decide) h, rfl⟩))
  · next h => exact .inr (.inr (.inr (.inl ⟨hcode 3 (by decide) h, rfl⟩)))
  · next h => exact .inr (.inr (.inr (.inr (.inl ⟨hcode 4 (by decide) h, rfl⟩))))
  · next h => exact .inr (.inr (.inr (.inr (.inr (.inl ⟨hcode 5 (by decide) h, rfl⟩)))))
  · next h0 h1 h2 h3 h4 h5 =>
    have hbig : 5 < b.toNat := by
      by_contra hle
      have hsmall : b.toNat = 0 ∨ b.toNat = 1 ∨ b.toNat = 2 ∨ b.toNat = 3 ∨ b.toNat = 4 ∨ b.toNat = 5 := by omega
      obtain h | h | h | h | h | h := hsmall
      · exact h0 h
      · exact h1 h
      · exact h2 h
      · exact h3 h
      · exact h4 h
      · exact h5 h
    exact .inr (.inr (.inr (.inr (.inr (.inr ⟨hbig, rfl⟩)))))

/-- The code of a source kind, as given in the payload. -/
def ZoneSource.given : ZoneSource → Byte
  | .fill => 0
  | .slate => 1
  | .sponsor => 2
  | .replay => 3
  | .scorebug => 4
  | .ticker => 5
  | .unknown b => b

theorem zoneSource_given (b : Byte) : (zoneSource b).given = b := by
  obtain ⟨rfl, h⟩ | ⟨rfl, h⟩ | ⟨rfl, h⟩ | ⟨rfl, h⟩ | ⟨rfl, h⟩ | ⟨rfl, h⟩ | ⟨-, h⟩ := zoneSource_cases b <;> rw [h] <;> rfl

/-- A byte reads as the kind of its code and of no other. -/
theorem zoneSource_eq_iff {k : ZoneSource} (h : zoneSource k.given = k) (b : Byte) : zoneSource b = k ↔ b = k.given := by
  refine ⟨fun hb => ?_, fun hb => by rw [hb, h]⟩
  rw [← zoneSource_given b, hb]

/-! ### The checks of STAGE_ZONE (R3, Table 1.2) -/

theorem sourceParam_eq (b : Byte) (w : Word) :
    sourceParam (zoneSource b) w =
      if b = 0 then .colour (wordColour w) else if b = 1 then .base w else if b.toNat ≤ 5 then .absent else .raw w := by
  obtain ⟨rfl, h⟩ | ⟨rfl, h⟩ | ⟨rfl, h⟩ | ⟨rfl, h⟩ | ⟨rfl, h⟩ | ⟨rfl, h⟩ | ⟨hb, h⟩ := zoneSource_cases b
  case inr.inr.inr.inr.inr.inr =>
    have h0 : b ≠ 0 := by rintro rfl; exact absurd hb (by decide)
    have h1 : b ≠ 1 := by rintro rfl; exact absurd hb (by decide)
    rw [h, if_neg h0, if_neg h1, if_neg (Nat.not_le.mpr hb)]
    rfl
  all_goals rw [h]; rfl

section
variable (p : ZonePayload) (s : State) (z : ZoneIx)

theorem zoneDescriptor_isOn {k : ZoneSource} (h : zoneSource k.given = k) :
    (zoneDescriptor true p).isOn k = true ↔ p.source = k.given := by
  rw [ZoneDesc.isOn, Bool.and_eq_true, beq_iff_eq, ← zoneSource_eq_iff h]
  exact and_iff_right rfl

theorem outOfTable_iff (e : Bool) :
    (zoneDescriptor e p).outOfTable = true ↔
      5 < p.source.toNat ∨ 127 < p.x.toNat ∨ 47 < p.y.toNat ∨ p.w.toNat < 1 ∨ 128 < p.w.toNat ∨ p.h.toNat < 1 ∨ 48 < p.h.toNat ∨
        15 < p.level.toNat ∨ 60 < p.leadIn.toNat := by
  obtain ⟨hb, h⟩ | ⟨hb, h⟩ | ⟨hb, h⟩ | ⟨hb, h⟩ | ⟨hb, h⟩ | ⟨hb, h⟩ | ⟨hb, h⟩ := zoneSource_cases p.source
  case inr.inr.inr.inr.inr.inr => simp [ZoneDesc.outOfTable, zoneDescriptor, h, hb]
  all_goals
    have hknown : ¬5 < p.source.toNat := by rw [hb]; decide
    simp [ZoneDesc.outOfTable, zoneDescriptor, h, hknown, or_assoc]

theorem onScreen_iff (d : ZoneDesc) (w h : Nat) : d.onScreen w h = true ↔ d.x.toNat + d.w.toNat ≤ w ∧ d.y.toNat + d.h.toNat ≤ h := by
  rw [ZoneDesc.onScreen, Bool.and_eq_true, decide_eq_true_iff, decide_eq_true_iff]

theorem badSlateImage_iff (e : Bool) :
    badSlateImage s (zoneDescriptor e p) = true ↔
      p.source = 1 ∧ (p.param.toNat % 4096 ≠ 0 ∨ s.controlBase < p.param.toNat + p.w.toNat * p.h.toNat * 4096) := by
  by_cases hslate : p.source = 1
  · have hparam : badSlateImage s (zoneDescriptor e p) =
        (!aligned4K p.param.toNat || !s.belowControl p.param.toNat (imageBytes p.w.toNat p.h.toNat)) := by
      simp only [badSlateImage, zoneDescriptor, hslate]
      rfl
    rw [hparam, Bool.or_eq_true, Bool.not_eq_true', Bool.not_eq_true', ← Bool.not_eq_true, ← Bool.not_eq_true, aligned4K_iff,
      belowControl_iff, imageBytes_eq, Nat.not_le]
    exact (and_iff_right hslate).symm
  · have hother : zoneSource p.source ≠ .slate := fun h => hslate ((zoneSource_eq_iff (k := .slate) rfl _).mp h)
    refine ⟨fun h => ?_, fun h => absurd h.1 hslate⟩
    unfold badSlateImage at h
    split at h
    · next hsource _ => exact absurd hsource hother
    · cases h

theorem hasSize_iff (d : ZoneDesc) (w h : Nat) : d.hasSize w h = true ↔ d.w.toNat = w ∧ d.h.toNat = h := by
  rw [ZoneDesc.hasSize, Bool.and_eq_true, beq_iff_eq, beq_iff_eq]

theorem wrongReplaySize_iff :
    wrongReplaySize s (zoneDescriptor true p) = true ↔
      p.source = 3 ∧ ∃ r, s.intake.ring = some r ∧ ¬(p.w.toNat = r.w ∧ p.h.toNat = r.h) := by
  unfold wrongReplaySize
  cases s.intake.ring with
  | none => simp
  | some r =>
    rw [Bool.and_eq_true, zoneDescriptor_isOn p (k := .replay) rfl, Bool.not_eq_true', ← Bool.not_eq_true, hasSize_iff]
    refine and_congr Iff.rfl ⟨fun h => ⟨r, rfl, h⟩, ?_⟩
    rintro ⟨r', hr, h⟩
    cases hr
    exact h

theorem boundSponsor_iff :
    boundSponsor s z (zoneDescriptor true p) = true ↔
      p.source = 2 ∧ (s.composer.live[z]).enable = true ∧ (s.composer.live[z]).source = .sponsor ∧ (s.rotation.zones[z]).rotation ≠ [] ∧
        ((s.composer.live[z]).w ≠ p.w ∨ (s.composer.live[z]).h ≠ p.h) := by
  have hsize : (!(zoneDescriptor true p).hasSize (s.composer.live[z]).w.toNat (s.composer.live[z]).h.toNat) = true ↔
      (s.composer.live[z]).w ≠ p.w ∨ (s.composer.live[z]).h ≠ p.h := by
    rw [Bool.not_eq_true', ← Bool.not_eq_true, hasSize_iff, not_and_or, BitVec.toNat_inj, BitVec.toNat_inj]
    exact or_congr ne_comm ne_comm
  have hlist : (!(s.rotation.zones[z]).rotation.isEmpty) = true ↔ (s.rotation.zones[z]).rotation ≠ [] := by
    rw [Bool.not_eq_true', ← Bool.not_eq_true, List.isEmpty_iff]
  rw [boundSponsor, Bool.and_eq_true, Bool.and_eq_true, Bool.and_eq_true, zoneDescriptor_isOn p (k := .sponsor) rfl, hlist, hsize,
    ZoneDesc.isOn, Bool.and_eq_true, beq_iff_eq, and_assoc, and_assoc, and_assoc]
  rfl

theorem sharesCell_iff (a b : ZoneDesc) :
    a.sharesCell b = true ↔
      a.x.toNat < b.x.toNat + b.w.toNat ∧ b.x.toNat < a.x.toNat + a.w.toNat ∧ a.y.toNat < b.y.toNat + b.h.toNat ∧
        b.y.toNat < a.y.toNat + a.h.toNat := by
  simp only [ZoneDesc.sharesCell, Bool.and_eq_true, decide_eq_true_iff, and_assoc]

theorem scorebugOverlap_iff :
    scorebugOverlap (s.composer.staged.with z (zoneDescriptor true p)) z (zoneDescriptor true p) = true ↔
      p.source = 4 ∧ ∃ y : ZoneIx, y ≠ z ∧ (s.composer.staged[y]).isOn .scorebug = true ∧
        (zoneDescriptor true p).sharesCell s.composer.staged[y] = true := by
  rw [scorebugOverlap, Bool.and_eq_true, zoneDescriptor_isOn p (k := .scorebug) rfl, List.any_eq_true]
  refine and_congr Iff.rfl ⟨?_, ?_⟩
  · rintro ⟨y, -, h⟩
    rw [Bool.and_eq_true, Bool.and_eq_true, bne_iff_ne] at h
    obtain ⟨⟨hne, hon⟩, hshares⟩ := h
    rw [Plan.with_other hne] at hon hshares
    exact ⟨y, hne, hon, hshares⟩
  · rintro ⟨y, hne, hon, hshares⟩
    refine ⟨y, mem_allZones y, ?_⟩
    rw [Bool.and_eq_true, Bool.and_eq_true, bne_iff_ne, Plan.with_other hne]
    exact ⟨⟨hne, hon⟩, hshares⟩

/-- The checks of STAGE_ZONE, those with one code in a row joined. -/
theorem stageChecks_checked (taken : State × Result) (d : ZoneDesc) :
    checked (stageChecks s z d) s taken =
      checked
        [ (d.outOfTable || !d.onScreen s.composer.screenW s.composer.screenH || badSlateImage s d, .outOfRange),
          (d.isOn .replay && s.intake.ring.isNone, .noZone),
          (decide (1 < (s.composer.staged.with z d).countOn .replay) || decide (1 < (s.composer.staged.with z d).countOn .ticker) ||
            decide (2 < (s.composer.staged.with z d).countOn .scorebug) || decide (4 < (s.composer.staged.with z d).countOn .sponsor), .limit),
          (d.isOn .scorebug && !d.hasSize 16 3 || d.isOn .ticker && (d.h.toNat != 1 || decide (d.w.toNat < 4)) || wrongReplaySize s d,
            .sizeMismatch),
          (scorebugOverlap (s.composer.staged.with z d) z d, .overlap),
          (boundSponsor s z d, .bound) ] s taken := by
  have hsize := fun rest => checked_merge (a := d.isOn .scorebug && !d.hasSize 16 3)
    (b := d.isOn .ticker && (d.h.toNat != 1 || decide (d.w.toNat < 4))) (code := .sizeMismatch) (rest := rest) (s := s) (taken := taken)
  exact checked_merge.trans (checked_merge.trans
    (checked_congr_rest (checked_congr_rest (checked_congr_rest ((hsize _).trans checked_merge)))))

end

/-- The plan with a new descriptor in place, zone by zone. -/
theorem countOn_with (p : Plan) (z : ZoneIx) (d : ZoneDesc) (k : ZoneSource) :
    (p.with z d).countOn k =
      (allZones.filter fun y => (if y = z then d else p[y]).enable && decide ((if y = z then d else p[y]).source = k)).length := by
  have hzone : ∀ y : ZoneIx, (p.with z d)[y] = if y = z then d else p[y] := by
    intro y
    by_cases hy : y = z
    · subst hy
      rw [Plan.with_same, if_pos rfl]
    · rw [Plan.with_other hy, if_neg hy]
  unfold Plan.countOn
  congr 1
  refine List.filter_congr fun y _ => ?_
  rw [hzone y]
  rfl

theorem ruleStageZone_badOperand {index : Byte} {p : ZonePayload} (s : State) (h : 15 < index.toNat ∨ 1 < p.enable.toNat) :
    ruleStageZone index p s = refuse .outOfRange s := by
  unfold ruleStageZone
  obtain hindex | henable := h
  · have hnone : zoneIx index = none := by rw [zoneIx, dif_neg (by omega)]
    rw [hnone]
  · have hnone : onOff p.enable = none := by
      unfold onOff
      split
      · omega
      · omega
      · rfl
    rw [hnone]
    split
    · next h => cases h
    · next h => cases h
    · rfl

theorem ruleStageZone_disabled {index : Byte} {p : ZonePayload} {z : ZoneIx} (s : State) (hindex : zoneIx index = some z)
    (henable : p.enable = 0) : ruleStageZone index p s = (stageDescriptor z (zoneDescriptor false p) s, Result.plain .ok) := by
  have hoff : onOff p.enable = some false := by rw [henable]; rfl
  rw [ruleStageZone, hindex, hoff]

theorem ruleStageZone_enabled {index : Byte} {p : ZonePayload} {z : ZoneIx} (s : State) (hindex : zoneIx index = some z)
    (henable : p.enable = 1) :
    ruleStageZone index p s =
      checked (stageChecks s z (zoneDescriptor true p)) s (stageDescriptor z (zoneDescriptor true p) s, Result.plain .ok) := by
  have hon : onOff p.enable = some true := by rw [henable]; rfl
  rw [ruleStageZone, hindex, hon]

theorem zoneIx_of_val_eq {b : Byte} {z : ZoneIx} (h : b.toNat = z.val) : zoneIx b = some z := by
  have hlt : b.toNat < 16 := by omega
  rw [zoneIx, dif_pos hlt]
  exact congrArg some (Fin.ext h)

/-- Settles O23, from the checks of STAGE_ZONE in order, each in the words of Table 1.2. -/
theorem stageZoneByItsChecks : Obligations.StageZoneByItsChecks := by
  unfold Obligations.StageZoneByItsChecks
  intro slot index p s hrun refused
  refine ⟨fun hbad => answers_of_rule rfl hrun (ruleStageZone_badOperand s hbad), fun z hz => ?_⟩
  intro d w h live plan count stored range noRing limit size overlap bound
  have hindex := zoneIx_of_val_eq hz
  have hd : ∀ e, zoneDescriptor e p = d e := fun e => by rw [zoneDescriptor, sourceParam_eq]
  have hcount : ∀ k, (s.composer.staged.with z (zoneDescriptor true p)).countOn k = count k := by
    intro k
    rw [countOn_with, hd]
  have hstored : ∀ e, ruleStageZone index p s = (stageDescriptor z (zoneDescriptor e p) s, Result.plain .ok) → stored e := by
    intro e hrule
    refine ⟨_, answers_of_rule rfl hrun hrule, ?_, fun y hy => Plan.with_other hy _ _, rfl⟩
    exact (Plan.with_same _ _ _).trans (hd e)
  have hrange : (((zoneDescriptor true p).outOfTable || !(zoneDescriptor true p).onScreen s.composer.screenW s.composer.screenH) ||
      badSlateImage s (zoneDescriptor true p)) = true ↔ range := by
    rw [Bool.or_eq_true, Bool.or_eq_true, outOfTable_iff, badSlateImage_iff, Bool.not_eq_true', ← Bool.not_eq_true, onScreen_iff,
      not_and_or, Nat.not_le, Nat.not_le, or_assoc]
    exact Iff.rfl
  have hnoRing : ((zoneDescriptor true p).isOn .replay && s.intake.ring.isNone) = true ↔ noRing := by
    rw [Bool.and_eq_true, zoneDescriptor_isOn p (k := .replay) rfl, Option.isNone_iff_eq_none]
    exact Iff.rfl
  have hlimit : (decide (1 < (s.composer.staged.with z (zoneDescriptor true p)).countOn .replay) ||
      decide (1 < (s.composer.staged.with z (zoneDescriptor true p)).countOn .ticker) ||
      decide (2 < (s.composer.staged.with z (zoneDescriptor true p)).countOn .scorebug) ||
      decide (4 < (s.composer.staged.with z (zoneDescriptor true p)).countOn .sponsor)) = true ↔ limit := by
    rw [Bool.or_eq_true, Bool.or_eq_true, Bool.or_eq_true, decide_eq_true_iff, decide_eq_true_iff, decide_eq_true_iff,
      decide_eq_true_iff, hcount, hcount, hcount, hcount, or_assoc, or_assoc]
  have hsize : ((zoneDescriptor true p).isOn .scorebug && !(zoneDescriptor true p).hasSize 16 3 ||
      (zoneDescriptor true p).isOn .ticker && ((zoneDescriptor true p).h.toNat != 1 || decide ((zoneDescriptor true p).w.toNat < 4)) ||
      wrongReplaySize s (zoneDescriptor true p)) = true ↔ size := by
    rw [Bool.or_eq_true, Bool.or_eq_true, Bool.and_eq_true, Bool.and_eq_true, Bool.or_eq_true, zoneDescriptor_isOn p (k := .scorebug) rfl,
      zoneDescriptor_isOn p (k := .ticker) rfl, Bool.not_eq_true', ← Bool.not_eq_true, hasSize_iff, bne_iff_ne, decide_eq_true_iff,
      wrongReplaySize_iff, or_assoc]
    exact Iff.rfl
  have hoverlap : scorebugOverlap (s.composer.staged.with z (zoneDescriptor true p)) z (zoneDescriptor true p) = true ↔ overlap := by
    rw [scorebugOverlap_iff]
    refine and_congr Iff.rfl (exists_congr fun y => and_congr_right fun hy => ?_)
    have hplan : plan y = s.composer.staged[y] := if_neg hy
    rw [hplan, sharesCell_iff, ZoneDesc.isOn, Bool.and_eq_true, beq_iff_eq, and_assoc]
    rfl
  have hbound : boundSponsor s z (zoneDescriptor true p) = true ↔ bound := boundSponsor_iff p s z
  have hfalse : ∀ {b : Bool} {q : Prop}, (b = true ↔ q) → ¬q → b = false := fun hiff hnot => Bool.eq_false_iff.mpr fun hb => hnot (hiff.mp hb)
  have hrule := fun henable : p.enable = 1 => (ruleStageZone_enabled s hindex henable).trans (stageChecks_checked s z _ _)
  have hpassed : p.enable = 1 → ¬range → ¬noRing → ¬limit → ¬size → ¬overlap → ¬bound → stored true := by
    intro henable h1 h2 h3 h4 h5 h6
    refine hstored true ((hrule henable).trans (checked_passed ?_ s _))
    simp only [List.forall_mem_cons]
    exact ⟨hfalse hrange h1, hfalse hnoRing h2, hfalse hlimit h3, hfalse hsize h4, hfalse hoverlap h5, hfalse hbound h6, nofun⟩
  refine ⟨fun henable => hstored false (ruleStageZone_disabled s hindex henable), fun henable => ⟨?_, ?_, ?_, ?_, ?_, ?_, hpassed henable⟩, ?_⟩
  · intro h1
    refine answers_of_rule rfl hrun ((hrule henable).trans ?_)
    exact checked_of_first (hrange.mpr h1)
  · intro h1 h2
    refine answers_of_rule rfl hrun ((hrule henable).trans ?_)
    rw [checked_of_rest (hfalse hrange h1)]
    exact checked_of_first (hnoRing.mpr h2)
  · intro h1 h2 h3
    refine answers_of_rule rfl hrun ((hrule henable).trans ?_)
    rw [checked_of_rest (hfalse hrange h1), checked_of_rest (hfalse hnoRing h2)]
    exact checked_of_first (hlimit.mpr h3)
  · intro h1 h2 h3 h4
    refine answers_of_rule rfl hrun ((hrule henable).trans ?_)
    rw [checked_of_rest (hfalse hrange h1), checked_of_rest (hfalse hnoRing h2), checked_of_rest (hfalse hlimit h3)]
    exact checked_of_first (hsize.mpr h4)
  · intro h1 h2 h3 h4 h5
    refine answers_of_rule rfl hrun ((hrule henable).trans ?_)
    rw [checked_of_rest (hfalse hrange h1), checked_of_rest (hfalse hnoRing h2), checked_of_rest (hfalse hlimit h3),
      checked_of_rest (hfalse hsize h4)]
    exact checked_of_first (hoverlap.mpr h5)
  · intro h1 h2 h3 h4 h5 h6
    refine answers_of_rule rfl hrun ((hrule henable).trans ?_)
    rw [checked_of_rest (hfalse hrange h1), checked_of_rest (hfalse hnoRing h2), checked_of_rest (hfalse hlimit h3),
      checked_of_rest (hfalse hsize h4), checked_of_rest (hfalse hoverlap h5)]
    exact checked_of_first (hbound.mpr h6)
  · intro henable hfill hx hy hw hw' hh hh' hlevel hlead hright hbottom hplaceable
    obtain ⟨-, hreplay, hticker, hscorebug, hsponsor, -, -, -⟩ := hplaceable
    have hother : ∀ k : ZoneSource, k ≠ .fill → count k ≤ s.composer.staged.countOn k := by
      intro k hk
      rw [← hcount]
      refine Plan.countOn_with_le ?_ _ _
      rw [ZoneDesc.isOn, zoneDescriptor, hfill]
      exact beq_eq_false_iff_ne.mpr hk.symm
    have hkind : ∀ n : Byte, n ≠ 0 → p.source ≠ n := fun n hn heq => hn (heq.symm.trans hfill)
    refine hpassed henable ?_ ?_ ?_ ?_ ?_ ?_
    · have hzero : p.source.toNat = 0 := by rw [hfill]; rfl
      rintro (htable | hscreen | ⟨hslate, -⟩)
      · omega
      · omega
      · exact hkind 1 (by decide) hslate
    · exact fun h => hkind 3 (by decide) h.1
    · have h1 := hother .replay nofun
      have h2 := hother .ticker nofun
      have h3 := hother .scorebug nofun
      have h4 := hother .sponsor nofun
      omega
    · rintro (h | h | h)
      · exact hkind 4 (by decide) h.1
      · exact hkind 5 (by decide) h.1
      · exact hkind 3 (by decide) h.1
    · exact fun h => hkind 4 (by decide) h.1
    · exact fun h => hkind 2 (by decide) h.1

end Sys2Proof.Machine
end

section
/-! PROOFS. The frame record: lead-ins, owners of cells and visible counts (R14, R15). -/

namespace Sys2Proof.Machine

theorem inBlanking_of {s : State} (hrun : s.phase = .running) (hblank : s.timing.blanking = true) : s.inBlanking = true := by
  rw [State.inBlanking, hrun, hblank]
  rfl

theorem frameStartIf_due {due : Bool} {s : State} (hrun : s.phase = .running) (hblank : s.timing.blanking = true) (hdue : due = true) :
    frameStartIf due s = frameStart s := by
  rw [frameStartIf, inBlanking_of hrun hblank, hdue]
  rfl

theorem exec_frameStart {s : State} (hrun : s.phase = .running) (hblank : s.timing.blanking = true) :
    exec .frameStart s = .next (frameStart s) :=
  congrArg Host.Outcome.next (frameStartIf_due hrun hblank rfl)

theorem frameStart_composer (s : State) : (frameStart s).composer = composerNext s (buildRecord s) := by
  obtain ⟨_, _, _, _, _, e⟩ := frameStart_frame s
  rw [e]

theorem frameStart_record (s : State) : (frameStart s).composer.record = buildRecord s := by
  rw [frameStart_composer, composerNext]

theorem frameStart_live (s : State) : (frameStart s).composer.live = s.composer.planNext := by
  rw [frameStart_composer, composerNext]

theorem activity_zone (s : State) (z : ZoneIx) : (activity s)[z] = zoneActive s s.composer.planNext[z] := by
  simp [activity]

theorem frameStart_leadIn (s : State) (z : ZoneIx) :
    (frameStart s).composer.leadIn[z] = nextLeadIn s.composer z (zoneActive s s.composer.planNext[z]) := by
  rw [frameStart_composer, ← activity_zone]
  simp [composerNext]

theorem frameStart_zone (s : State) (z : ZoneIx) :
    (frameStart s).composer.record.zones[z] = zoneRecord s
      (visibleCounts s.composer.requestedMode s.composer.planNext (activity s) s.composer.screenW s.composer.screenH) z := by
  rw [frameStart_record, buildRecord_zones]

/-! ### Lead-ins (R14) -/

theorem returnsToNormal_iff (c : Composer) : c.returnsToNormal = true ↔ c.record.mode ≠ .normal ∧ c.requestedMode = .normal := by
  rw [Composer.returnsToNormal, Bool.and_eq_true, bne_iff_ne, beq_iff_eq]

/-- Settles O25, from the counter's rule for a zone that stays active and unchanged. -/
theorem leadInEndsAtZero : Obligations.LeadInEndsAtZero := by
  unfold Obligations.LeadInEndsAtZero
  intro s z hrun hblank hbefore hactive hchanged hmode
  have hreturns : s.composer.returnsToNormal = false := by
    refine Bool.eq_false_iff.mpr fun h => ?_
    obtain ⟨hother, hnormal⟩ := (returnsToNormal_iff _).mp h
    obtain hmode | hmode := hmode
    · exact hother hmode
    · exact hmode hnormal
  have hnext : nextLeadIn s.composer z (zoneActive s s.composer.planNext[z]) = s.composer.leadIn[z] - 1 := by
    rw [nextLeadIn, hactive, hbefore, hchanged, hreturns]
    rfl
  have hcounter : (frameStart s).composer.leadIn[z] = s.composer.leadIn[z] - 1 := by rw [frameStart_leadIn, hnext]
  refine ⟨⟨_, exec_frameStart hrun hblank, hcounter⟩, fun hone => ?_⟩
  have hends : z ∈ leadInEnds s := by
    refine List.mem_filter.mpr ⟨mem_allZones z, ?_⟩
    rw [activity_zone, hnext, hactive, hone]
    rfl
  have hdue : (leadInEnds s).contains z = true := List.contains_iff_mem.mpr hends
  refine ⟨_, congrArg Host.Outcome.next (frameStartIf_due hrun hblank hdue), exec_frameStart hrun hblank, ?_, ?_, ?_⟩
  · rw [hcounter, hone]
  · rw [frameStart_zone]
    exact hactive
  · rw [frameStart_zone]
    exact (congrArg (fun n => decide (0 < n)) hnext).trans (by rw [hone]; rfl)

/-! ### Owners (R15) -/

theorem drawRank_injective (p : Plan) {y z : ZoneIx} (h : drawRank p[y] y = drawRank p[z] z) : y = z := by
  unfold drawRank at h
  have hy := (p[y]).level.isLt
  have hz := (p[z]).level.isLt
  refine Fin.ext ?_
  split at h <;> split at h <;> omega

/-- What stands before z in draw order, in the words of R15. -/
theorem drawRank_lt_iff (p : Plan) (y z : ZoneIx) :
    drawRank p[y] y < drawRank p[z] z ↔
      ((p[z]).source = .scorebug ∧ (p[y]).source ≠ .scorebug) ∨
      ((p[z]).source = .scorebug ∧ (p[y]).source = .scorebug ∧ y < z) ∨
      ((p[z]).source ≠ .scorebug ∧ (p[y]).source ≠ .scorebug ∧
        ((p[y]).level < (p[z]).level ∨ ((p[y]).level = (p[z]).level ∧ y < z))) := by
  unfold drawRank
  have hy := (p[y]).level.isLt
  have hz := (p[z]).level.isLt
  have hlevel : (p[y]).level < (p[z]).level ↔ (p[y]).level.toNat < (p[z]).level.toNat := BitVec.lt_def
  have hequal : (p[y]).level = (p[z]).level ↔ (p[y]).level.toNat = (p[z]).level.toNat := BitVec.toNat_inj.symm
  rw [hlevel, hequal, Fin.lt_def]
  by_cases hys : (p[y]).source = .scorebug <;> by_cases hzs : (p[z]).source = .scorebug
  · rw [if_pos hys, if_pos hzs]
    simp only [hys, hzs, ne_eq, not_true_eq_false, and_false, false_and, true_and, false_or, or_false]
    omega
  · rw [if_pos hys, if_neg hzs]
    simp only [hys, hzs, ne_eq, not_true_eq_false, and_false, false_and, or_false, iff_false]
    omega
  · rw [if_neg hys, if_pos hzs]
    simp only [hys, hzs, ne_eq, not_false_eq_true, and_true, true_and, true_or, iff_true]
    omega
  · rw [if_neg hys, if_neg hzs]
    simp only [hys, hzs, ne_eq, not_false_eq_true, false_and, true_and, false_or]
    omega

/-- The last of the zones in draw order. -/
theorem foldl_laterDrawn (p : Plan) : ∀ (l : List ZoneIx) (b : ZoneIx),
    ∃ z, l.foldl (laterDrawn p) (some b) = some z ∧ (z = b ∨ z ∈ l) ∧ drawRank p[b] b ≤ drawRank p[z] z ∧
      ∀ y ∈ l, drawRank p[y] y ≤ drawRank p[z] z
  | [], b => ⟨b, rfl, .inl rfl, Nat.le_refl _, nofun⟩
  | c :: rest, b => by
    rw [List.foldl_cons, laterDrawn]
    by_cases hlater : drawRank p[b] b < drawRank p[c] c
    · rw [if_pos hlater]
      obtain ⟨z, heq, hmem, hle, hrest⟩ := foldl_laterDrawn p rest c
      refine ⟨z, heq, .inr ?_, Nat.le_trans (Nat.le_of_lt hlater) hle, List.forall_mem_cons.mpr ⟨hle, hrest⟩⟩
      obtain rfl | hmem := hmem
      · exact List.mem_cons_self
      · exact List.mem_cons_of_mem _ hmem
    · rw [if_neg hlater]
      obtain ⟨z, heq, hmem, hle, hrest⟩ := foldl_laterDrawn p rest b
      refine ⟨z, heq, hmem.imp id (List.mem_cons_of_mem _), hle, List.forall_mem_cons.mpr ⟨?_, hrest⟩⟩
      exact Nat.le_trans (Nat.not_lt.mp hlater) hle

theorem cellOwner_eq_none (p : Plan) (zones : List ZoneIx) (cx cy : Nat) :
    cellOwner p zones cx cy = none ↔ ∀ z ∈ zones, (p[z]).contains cx cy = false := by
  rw [cellOwner]
  cases hfilter : zones.filter fun z => (p[z]).contains cx cy with
  | nil =>
    rw [List.foldl_nil, List.filter_eq_nil_iff] at *
    simpa using hfilter
  | cons b rest =>
    obtain ⟨z, heq, -, -, -⟩ := foldl_laterDrawn p rest b
    have hb : b ∈ zones.filter fun z => (p[z]).contains cx cy := by rw [hfilter]; exact List.mem_cons_self
    obtain ⟨hmem, hcontains⟩ := List.mem_filter.mp hb
    have hsome : (b :: rest).foldl (laterDrawn p) none = some z := heq
    rw [hsome]
    exact ⟨nofun, fun hnone => Bool.noConfusion ((hnone b hmem).symm.trans hcontains)⟩

theorem cellOwner_eq_some {p : Plan} {zones : List ZoneIx} {cx cy : Nat} {z : ZoneIx} (h : cellOwner p zones cx cy = some z) :
    z ∈ zones ∧ (p[z]).contains cx cy = true ∧
      ∀ y ∈ zones, (p[y]).contains cx cy = true → y ≠ z → drawRank p[y] y < drawRank p[z] z := by
  rw [cellOwner] at h
  have hmax : z ∈ (zones.filter fun z => (p[z]).contains cx cy) ∧
      ∀ y ∈ (zones.filter fun z => (p[z]).contains cx cy), drawRank p[y] y ≤ drawRank p[z] z := by
    cases hfilter : zones.filter fun z => (p[z]).contains cx cy with
    | nil =>
      rw [hfilter] at h
      cases h
    | cons b rest =>
      rw [hfilter] at h
      obtain ⟨z', heq, hmem, hle, hrest⟩ := foldl_laterDrawn p rest b
      obtain rfl : z' = z := Option.some.inj (heq.symm.trans h)
      exact ⟨List.mem_cons.mpr hmem, List.forall_mem_cons.mpr ⟨hle, hrest⟩⟩
  obtain ⟨hmem, hall⟩ := hmax
  obtain ⟨hzone, hcontains⟩ := List.mem_filter.mp hmem
  refine ⟨hzone, hcontains, fun y hy hyContains hne => ?_⟩
  exact Nat.lt_of_le_of_ne (hall y (List.mem_filter.mpr ⟨hy, hyContains⟩)) fun heq => hne (drawRank_injective p heq)

/-! ### Visible counts (R15) -/

/-- How many of the first numbers lie in an interval. -/
theorem length_filter_interval_le (a n m : Nat) : ((List.range m).filter fun i => decide (a ≤ i) && decide (i < a + n)).length ≤ n := by
  have hnodup : ((List.range m).filter fun i => decide (a ≤ i) && decide (i < a + n)).Nodup := List.nodup_range.filter _
  rw [← List.toFinset_card_of_nodup hnodup]
  refine (Finset.card_le_card (t := Finset.Ico a (a + n)) fun i hi => ?_).trans (by simp)
  simpa using (List.mem_filter.mp (List.mem_toFinset.mp hi)).2

theorem count_wallOwners (plan : Plan) (zones : List ZoneIx) (w h : Nat) (z : ZoneIx) :
    (wallOwners plan zones w h).count (some z) =
      ((List.range h).flatMap fun cy => (List.range w).filter fun cx => decide (cellOwner plan zones cx cy = some z)).length := by
  rw [wallOwners, List.count_flatMap, List.length_flatMap]
  congr 1
  refine List.map_congr_left fun cy _ => ?_
  rw [Function.comp_apply, rowOwners, List.count, List.countP_map, List.countP_eq_length_filter]
  congr 1
  refine List.filter_congr fun cx _ => ?_
  rw [Function.comp_apply, Bool.eq_iff_iff, beq_iff_eq, decide_eq_true_iff]

theorem length_wallOwners (plan : Plan) (zones : List ZoneIx) (w h : Nat) : (wallOwners plan zones w h).length = w * h := by
  simp [wallOwners, rowOwners, Nat.mul_comm]

/-- A sum whose terms are bounded, and 0 where a condition fails. -/
theorem sum_map_le_mul {f : Nat → Nat} {b : Nat → Bool} {n : Nat} (l : List Nat) (h : ∀ i ∈ l, f i ≤ if b i = true then n else 0) :
    (l.map f).sum ≤ n * (l.filter b).length := by
  induction l with
  | nil => simp
  | cons i rest ih =>
    obtain ⟨hi, hrest⟩ := List.forall_mem_cons.mp h
    have hsum := ih hrest
    rw [List.map_cons, List.sum_cons, List.filter_cons]
    split at hi
    · next hb =>
      rw [if_pos hb, List.length_cons, Nat.mul_succ]
      omega
    · next hb =>
      rw [if_neg hb]
      omega

theorem contains_iff (d : ZoneDesc) (cx cy : Nat) :
    d.contains cx cy = ((decide (d.x.toNat ≤ cx) && decide (cx < d.x.toNat + d.w.toNat)) &&
      (decide (d.y.toNat ≤ cy) && decide (cy < d.y.toNat + d.h.toNat))) := by
  rw [ZoneDesc.contains, Bool.and_assoc]

/-- A zone owns no cell outside its rectangle. -/
theorem count_wallOwners_le (plan : Plan) (zones : List ZoneIx) (w h : Nat) (z : ZoneIx) :
    (wallOwners plan zones w h).count (some z) ≤ (plan[z]).w.toNat * (plan[z]).h.toNat := by
  rw [count_wallOwners, List.length_flatMap]
  refine (sum_map_le_mul (b := fun cy => decide ((plan[z]).y.toNat ≤ cy) && decide (cy < (plan[z]).y.toNat + (plan[z]).h.toNat)) _
    fun cy _ => ?_).trans (Nat.mul_le_mul_left _ (length_filter_interval_le _ _ _))
  have hcontains : ∀ cx, cellOwner plan zones cx cy = some z → (plan[z]).contains cx cy = true :=
    fun cx h => (cellOwner_eq_some h).2.1
  by_cases hrow : (decide ((plan[z]).y.toNat ≤ cy) && decide (cy < (plan[z]).y.toNat + (plan[z]).h.toNat)) = true
  · rw [if_pos hrow]
    refine Nat.le_trans (List.Sublist.length_le (List.monotone_filter_right _ fun cx hcx => ?_))
      (length_filter_interval_le (plan[z]).x.toNat (plan[z]).w.toNat w)
    have hcell := hcontains cx (decide_eq_true_iff.mp hcx)
    rw [contains_iff, Bool.and_eq_true] at hcell
    exact hcell.1
  · rw [if_neg hrow, Nat.le_zero, List.length_eq_zero_iff, List.filter_eq_nil_iff]
    intro cx _ hcx
    have hcell := hcontains cx (decide_eq_true_iff.mp hcx)
    rw [contains_iff, Bool.and_eq_true] at hcell
    exact hrow hcell.2

theorem count_wallOwners_of_not_mem (plan : Plan) {zones : List ZoneIx} (w h : Nat) {z : ZoneIx} (hz : z ∉ zones) :
    (wallOwners plan zones w h).count (some z) = 0 := by
  refine List.count_eq_zero.mpr fun hmem => hz ?_
  obtain ⟨cy, -, hrow⟩ := List.mem_flatMap.mp hmem
  obtain ⟨cx, -, hcell⟩ := List.mem_map.mp hrow
  exact (cellOwner_eq_some hcell).1

theorem sum_map_indicator (o : Option ZoneIx) {zones : List ZoneIx} (hnodup : zones.Nodup) :
    (zones.map fun z => if (o == some z) = true then 1 else 0).sum ≤ 1 := by
  induction zones with
  | nil => simp
  | cons z rest ih =>
    obtain ⟨hfresh, hrest⟩ := List.nodup_cons.mp hnodup
    rw [List.map_cons, List.sum_cons]
    by_cases ho : o = some z
    · have hzero : (rest.map fun y => if (o == some y) = true then 1 else 0).sum = 0 := by
        refine List.sum_eq_zero fun n hn => ?_
        obtain ⟨y, hy, rfl⟩ := List.mem_map.mp hn
        have hne : z ≠ y := by
          rintro rfl
          exact hfresh hy
        simp [ho, hne]
      rw [hzero, if_pos (beq_iff_eq.mpr ho)]
    · rw [if_neg fun h => ho (beq_iff_eq.mp h), Nat.zero_add]
      exact ih hrest

/-- The cells the zones own are at most all cells. -/
theorem sum_count_le {zones : List ZoneIx} (hnodup : zones.Nodup) (l : List (Option ZoneIx)) :
    (zones.map fun z => l.count (some z)).sum ≤ l.length := by
  induction l with
  | nil => simp
  | cons o rest ih =>
    simp only [List.count_cons, List.sum_map_add, List.length_cons]
    exact Nat.add_le_add ih (sum_map_indicator o hnodup)

theorem visibleCounts_zone (mode : OutputMode) (plan : Plan) (active : Vector Bool 16) (w h : Nat) (z : ZoneIx) :
    (visibleCounts mode plan active w h)[z] = if mode = .normal then (wallOwners plan (activeZones active) w h).count (some z) else 0 := by
  unfold visibleCounts
  split
  · simp
  · simp

/-- What a FRAME_START records as the visible count of a zone. -/
theorem frameStart_visible (s : State) (z : ZoneIx) :
    ((frameStart s).composer.record.zones[z]).visible =
      if s.composer.requestedMode = .normal then
        (wallOwners s.composer.planNext (activeZones (activity s)) s.composer.screenW s.composer.screenH).count (some z)
      else 0 := by
  rw [frameStart_zone]
  exact visibleCounts_zone ..

theorem frameStart_active (s : State) (z : ZoneIx) : ((frameStart s).composer.record.zones[z]).active = (activity s)[z] := by
  rw [frameStart_zone, activity_zone]
  rfl

theorem allZones_nodup : allZones.Nodup := by decide

/-- Settles O26, from the maximum in draw order and the counts of the wall's owners. -/
theorem ownershipAndVisibleCounts : Obligations.OwnershipAndVisibleCounts := by
  unfold Obligations.OwnershipAndVisibleCounts
  refine ⟨fun p zones cx cy => ⟨cellOwner_eq_none p zones cx cy, fun z h => ?_⟩, fun s hrun hblank =>
    ⟨_, exec_frameStart hrun hblank, fun z => ⟨?_, ?_, fun hinactive => ?_⟩, ?_, fun hmode z => ?_⟩⟩
  · obtain ⟨hmem, hcontains, hlast⟩ := cellOwner_eq_some h
    exact ⟨hmem, hcontains, fun y hy hyContains hne => (drawRank_lt_iff p y z).mp (hlast y hy hyContains hne)⟩
  · have hzones : (allZones.filter fun y => ((frameStart s).composer.record.zones[y]).active) = activeZones (activity s) :=
      List.filter_congr fun y _ => frameStart_active s y
    rw [frameStart_visible, frameStart_live, hzones]
    by_cases hmode : s.composer.requestedMode = .normal
    · simp only [hmode, decide_true, Bool.true_and]
      rw [if_pos trivial, count_wallOwners]
    · simp [hmode]
  · rw [frameStart_visible, frameStart_live]
    split
    · exact count_wallOwners_le _ _ _ _ _
    · exact Nat.zero_le _
  · rw [frameStart_active] at hinactive
    rw [frameStart_visible]
    split
    · refine count_wallOwners_of_not_mem _ _ _ fun hmem => ?_
      exact Bool.noConfusion (hinactive.symm.trans (List.mem_filter.mp hmem).2)
    · rfl
  · simp only [frameStart_visible]
    split
    · exact (sum_count_le allZones_nodup _).trans (by rw [length_wallOwners])
    · simp
  · rw [frameStart_visible, if_neg hmode]

end Sys2Proof.Machine
end

section
/-! PROOFS. The ring commands SET_RING, RELEASE_FRAMES and DISCARD_FRAMES (R26-R28, R38-R41). -/

namespace Sys2Proof.Machine

/-! ### SET_RING -/

theorem rangesOverlap_eq_false_left {a la b lb : Nat} (h : a + la ≤ b) : rangesOverlap a la b lb = false := by
  rw [rangesOverlap, Bool.and_eq_false_iff, decide_eq_false_iff_not, decide_eq_false_iff_not]
  omega

theorem rangesOverlap_eq_false_right {a la b lb : Nat} (h : b + lb ≤ a) : rangesOverlap a la b lb = false := by
  rw [rangesOverlap, Bool.and_eq_false_iff, decide_eq_false_iff_not, decide_eq_false_iff_not]
  omega

theorem controlBase_le_memSize (s : State) : s.controlBase ≤ s.memSize := Nat.sub_le _ _

theorem slotBytes_ringOf (ringBase aliasBase : Word) (w h count : Byte) :
    (ringOf ringBase aliasBase w h count).slotBytes = (w.toNat * h.toNat + 1) * 4096 := rfl

theorem ringBytes_ringOf (ringBase aliasBase : Word) (w h count : Byte) :
    (ringOf ringBase aliasBase w h count).ringBytes = count.toNat * ((w.toNat * h.toNat + 1) * 4096) := rfl

/-- Settles O28, check by check. -/
theorem setRingDeclares : Obligations.SetRingDeclares := by
  unfold Obligations.SetRingDeclares
  intro slot ringBase aliasBase w h count s hrun size hw hw' hh hh' harea hcount hcount' hring halias hringTop haliasTop happart hidle hpins
  refine answers_of_rule rfl hrun (checked_passed ?_ s _)
  have hmem := controlBase_le_memSize s
  have hringFits : ringBase.toNat + count.toNat * ((w.toNat * h.toNat + 1) * 4096) ≤ s.controlBase := hringTop
  have haliasFits : aliasBase.toNat + (w.toNat * h.toNat + 1) * 4096 ≤ s.controlBase := haliasTop
  simp only [ringChecks, List.forall_mem_cons]
  rw [slotBytes_ringOf, ringBytes_ringOf]
  refine ⟨?_, ?_, ?_, ?_, ?_, ?_, nofun⟩
  · simp only [Bool.or_eq_false_iff, decide_eq_false_iff_not]
    dsimp only [ringOf]
    omega
  · simp only [ringOf]
    rw [aligned4K_iff.mpr hring, aligned4K_iff.mpr halias]
    rfl
  · simp only [Bool.or_eq_false_iff, decide_eq_false_iff_not]
    dsimp only [ringOf]
    omega
  · simp only [ringOf]
    rw [rangesOverlap_eq_false_left hringTop, rangesOverlap_eq_false_left haliasTop]
    rfl
  · exact happart.elim rangesOverlap_eq_false_left rangesOverlap_eq_false_right
  · have hunpinned : (s.intake.slots.any fun x => decide (0 < x.pins)) = false := by
      rw [List.any_eq_false]
      intro x hx
      rw [hpins x hx]
      decide
    rw [hidle, hunpinned]
    rfl

/-! ### The range of a command (R38) -/

theorem frameInRange_iff {first last f : Word} : frameInRange first last f = true ↔ first.toNat ≤ f.toNat ∧ f.toNat ≤ last.toNat := by
  rw [frameInRange, Bool.and_eq_true, decide_eq_true_iff, decide_eq_true_iff]

theorem rangeChecks_passed {s : State} {first last : Word} (hring : s.intake.ring.isSome = true) (hrange : first.toNat ≤ last.toNat)
    (taken : State × Result) : checked (rangeChecks s first last) s taken = taken := by
  refine checked_passed ?_ s _
  simp only [rangeChecks, List.forall_mem_cons, decide_eq_false_iff_not, Nat.not_lt]
  exact ⟨by rw [Option.isNone_eq_false_iff]; exact hring, hrange, nofun⟩

theorem rangeChecks_noRing {s : State} (first last : Word) (hring : s.intake.ring = none) (taken : State × Result) :
    checked (rangeChecks s first last) s taken = refuse .noZone s :=
  checked_of_first (by rw [hring]; rfl)

theorem rangeChecks_badRange {s : State} {first last : Word} (hring : s.intake.ring.isSome = true) (hrange : last.toNat < first.toNat)
    (taken : State × Result) : checked (rangeChecks s first last) s taken = refuse .outOfRange s :=
  (checked_of_rest (by rw [Option.isNone_eq_false_iff]; exact hring)).trans (checked_of_first (decide_eq_true hrange))

/-- A count taken apart by a test that holds within it. -/
theorem countP_eq_add {α : Type} {p q r : α → Bool} (l : List α)
    (h : ∀ x ∈ l, (if p x = true then 1 else 0) = (if q x = true then 1 else 0) + if r x = true then 1 else 0) :
    l.countP p = l.countP q + l.countP r := by
  induction l with
  | nil => rfl
  | cons x rest ih =>
    obtain ⟨hx, hrest⟩ := List.forall_mem_cons.mp h
    rw [List.countP_cons, List.countP_cons, List.countP_cons, ih hrest, hx]
    omega

/-! ### RELEASE_FRAMES (R40) -/

theorem heldInRange_iff {first last : Word} {r : SlotRecord} :
    heldInRange first last r = true ↔ ∃ f q, r.state = .held f q ∧ first.toNat ≤ f.toNat ∧ f.toNat ≤ last.toNat := by
  unfold heldInRange
  cases r.state with
  | held f q =>
    rw [frameInRange_iff]
    constructor
    · exact fun h => ⟨f, q, rfl, h⟩
    · rintro ⟨f', q', heq, h⟩
      cases heq
      exact h
  | free => simp
  | filling => simp
  | ready f q => simp

/-- The slot table with every HELD slot in a range READY. -/
def Intake.released (first last : Word) (n : Intake) : Intake :=
  { n with slots := n.slots.map fun r => if heldInRange first last r = true then { r with state := r.state.release } else r }

theorem released_slots {first last : Word} {n : Intake} {k : Nat} {r : SlotRecord} (hk : n.slots[k]? = some r) :
    (n.released first last).slots[k]? = some (if heldInRange first last r = true then { r with state := r.state.release } else r) := by
  rw [Intake.released, List.getElem?_map, hk]
  rfl

theorem released_heldCount (first last : Word) (n : Intake) :
    (n.released first last).heldCount + (n.slots.filter (heldInRange first last)).length = n.heldCount := by
  rw [heldCount_eq, heldCount_eq, ← List.countP_eq_length_filter, Intake.released, List.countP_map]
  refine (countP_eq_add n.slots fun r _ => ?_).symm
  rw [Function.comp_apply]
  by_cases hin : heldInRange first last r = true
  · obtain ⟨f, q, hstate, -⟩ := heldInRange_iff.mp hin
    rw [if_pos hin, if_pos hin, hstate]
    rfl
  · rw [if_neg hin, if_neg hin]
    rfl

/-- Settles O30, slot by slot. -/
theorem releaseFramesMakesReady : Obligations.ReleaseFramesMakesReady := by
  unfold Obligations.ReleaseFramesMakesReady
  refine fun slot first last s hrun => ⟨fun hring => answers_of_rule rfl hrun (rangeChecks_noRing first last hring _),
    fun hring hrange => answers_of_rule rfl hrun (rangeChecks_badRange hring hrange _), fun hring hrange => ?_⟩
  refine ⟨{ s with intake := s.intake.released first last }, _, answers_of_rule rfl hrun (rangeChecks_passed hring hrange _),
    released_heldCount first last s.intake, List.length_map _, fun k r hk => ⟨?_, ?_⟩, rfl⟩
  · intro f q hstate hlow hhigh
    refine (released_slots hk).trans ?_
    rw [if_pos (heldInRange_iff.mpr ⟨f, q, hstate, hlow, hhigh⟩), hstate]
    rfl
  · intro hother
    refine (released_slots hk).trans ?_
    rw [if_neg]
    intro hin
    obtain ⟨f, q, hstate, hlow, hhigh⟩ := heldInRange_iff.mp hin
    have := hother f q hstate
    omega

/-! ### DISCARD_FRAMES (R41) -/

theorem names_eq_false_iff {r : Roller} {f : Word} : r.names f = false ↔ ∀ p ∈ r.showPlan, p.a ≠ f ∧ p.b ≠ some f := by
  rw [← Bool.not_eq_true, Roller.names_iff]
  constructor
  · intro h p hp
    exact ⟨fun ha => h ⟨p, hp, .inl ha⟩, fun hb => h ⟨p, hp, .inr hb⟩⟩
  · rintro h ⟨p, hp, ha | hb⟩
    · exact (h p hp).1 ha
    · exact (h p hp).2 hb

theorem discardable_iff {r : Roller} {first last : Word} {x : SlotRecord} :
    discardable r first last x = true ↔
      ∃ f, x.state.frame = some f ∧ first.toNat ≤ f.toNat ∧ f.toNat ≤ last.toNat ∧ x.pins = 0 ∧
        ∀ p ∈ r.showPlan, p.a ≠ f ∧ p.b ≠ some f := by
  constructor
  · intro h
    obtain ⟨f, hf, hrange, hpins, hnames⟩ := discardable_spec h
    obtain ⟨hlow, hhigh⟩ := frameInRange_iff.mp hrange
    exact ⟨f, hf, hlow, hhigh, hpins, names_eq_false_iff.mp hnames⟩
  · rintro ⟨f, hf, hlow, hhigh, hpins, hnames⟩
    rw [discardable, hf]
    dsimp only
    rw [frameInRange_iff.mpr ⟨hlow, hhigh⟩, hpins, names_eq_false_iff.mpr hnames]
    rfl

/-- The slot table with every slot of a range freed that may be. -/
def Intake.discarded (r : Roller) (first last : Word) (n : Intake) : Intake :=
  { n with slots := n.slots.map fun x => if discardable r first last x = true then { x with state := .free } else x }

theorem discarded_slots {r : Roller} {first last : Word} {n : Intake} {k : Nat} {x : SlotRecord} (hk : n.slots[k]? = some x) :
    (n.discarded r first last).slots[k]? = some (if discardable r first last x = true then { x with state := .free } else x) := by
  rw [Intake.discarded, List.getElem?_map, hk]
  rfl

theorem length_frames (n : Intake) : n.frames.length = n.slots.countP fun r => r.state.frame.isSome := by
  rw [Intake.frames, List.length_filterMap_eq_countP]

theorem discarded_frames (r : Roller) (first last : Word) (n : Intake) :
    (n.discarded r first last).frames.length + (n.slots.filter (discardable r first last)).length = n.frames.length := by
  rw [length_frames, length_frames, ← List.countP_eq_length_filter, Intake.discarded, List.countP_map]
  refine (countP_eq_add n.slots fun x _ => ?_).symm
  rw [Function.comp_apply]
  by_cases hfreed : discardable r first last x = true
  · obtain ⟨f, hf, -⟩ := discardable_iff.mp hfreed
    rw [if_pos hfreed, if_pos hfreed, hf]
    rfl
  · rw [if_neg hfreed, if_neg hfreed]
    rfl

/-- Settles O31, slot by slot. -/
theorem discardFramesSparesPinnedAndNamed : Obligations.DiscardFramesSparesPinnedAndNamed := by
  unfold Obligations.DiscardFramesSparesPinnedAndNamed
  intro slot first last s hrun hring hrange freed
  refine ⟨{ s with intake := s.intake.discarded s.roller first last }, _, answers_of_rule rfl hrun (rangeChecks_passed hring hrange _),
    discarded_frames s.roller first last s.intake, List.length_map _, fun k r hk => ⟨fun hfreed => ?_, fun hkept => ?_⟩, rfl⟩
  · refine (discarded_slots hk).trans ?_
    rw [if_pos (discardable_iff.mpr hfreed)]
  · refine (discarded_slots hk).trans ?_
    rw [if_neg fun h => hkept (discardable_iff.mp h)]

end Sys2Proof.Machine
end

section
/-! PROOFS. Which slot the intake takes, at a retry and after a completion (R33-R36). -/

namespace Sys2Proof.Machine

/-! ### Spare slots and their ages (R34, R35) -/

/-- A slot that may be reclaimed: READY, not pinned, and not named by the show plan. -/
def Intake.Spare (n : Intake) (r : Roller) (i : Nat) : Prop :=
  ∃ y, n.slots[i]? = some y ∧ y.state.readySeq.isSome = true ∧ y.pins = 0 ∧ r.namesSlot y.state = false

/-- The age of a READY slot, and 0 for any other. -/
def Intake.ageAt (n : Intake) (i : Nat) : Nat :=
  (n.slots[i]?).elim 0 fun y => y.state.readySeq.elim 0 fun q => (n.completions - q).toNat

/-- The older of two slots, and of equal ages the lower, comes first. -/
def Intake.Before (n : Intake) (k i : Nat) : Prop := n.ageAt i < n.ageAt k ∨ (n.ageAt i = n.ageAt k ∧ k < i)

section
variable {n : Intake} {r : Roller} {excluded : Option Nat} {i k : Nat} {q : Word}

theorem spare_of_mem_reclaims (h : (i, q) ∈ n.reclaims r excluded) : n.Spare r i ∧ excluded ≠ some i ∧ n.age q = n.ageAt i := by
  obtain ⟨y, hy, hseq, hpins, hnames, hexcluded⟩ := mem_reclaims.mp h
  refine ⟨⟨y, hy, by rw [hseq]; rfl, hpins, hnames⟩, hexcluded, ?_⟩
  rw [Intake.ageAt, hy, Option.elim_some, hseq]
  rfl

theorem mem_reclaims_of_spare (h : n.Spare r i) (hexcluded : excluded ≠ some i) : ∃ q, (i, q) ∈ n.reclaims r excluded := by
  obtain ⟨y, hy, hready, hpins, hnames⟩ := h
  obtain ⟨q, hq⟩ := Option.isSome_iff_exists.mp hready
  exact ⟨q, mem_reclaims.mpr ⟨y, hy, hq, hpins, hnames, hexcluded⟩⟩

theorem oldestReclaimable_none_iff : n.oldestReclaimable r excluded = none ↔ ∀ i, n.Spare r i → excluded = some i := by
  rw [oldestReclaimable_eq_none]
  constructor
  · intro h i hi
    by_contra hexcluded
    obtain ⟨q, hq⟩ := mem_reclaims_of_spare hi hexcluded
    exact h i q hq
  · intro h i q hq
    obtain ⟨hi, hexcluded, -⟩ := spare_of_mem_reclaims hq
    exact hexcluded (h i hi)

theorem oldestReclaimable_spec (h : n.oldestReclaimable r excluded = some k) :
    n.Spare r k ∧ excluded ≠ some k ∧ ∀ i, n.Spare r i → excluded ≠ some i → i ≠ k → n.Before k i := by
  obtain ⟨q, hq, hfirst⟩ := oldestReclaimable_eq_some h
  obtain ⟨hk, hexcluded, hage⟩ := spare_of_mem_reclaims hq
  refine ⟨hk, hexcluded, fun i hi hiExcluded hne => ?_⟩
  obtain ⟨q', hq'⟩ := mem_reclaims_of_spare hi hiExcluded
  have hbefore := hfirst (i, q') hq' fun heq => hne (congrArg Prod.fst heq)
  rw [reclaimedBefore, hage, (spare_of_mem_reclaims hq').2.2] at hbefore
  exact hbefore

/-- The slot that comes before every other that may be reclaimed is the one that is. -/
theorem oldestReclaimable_of_before (hk : n.Spare r k) (hexcluded : excluded ≠ some k)
    (hfirst : ∀ i, n.Spare r i → excluded ≠ some i → i ≠ k → n.Before k i) : n.oldestReclaimable r excluded = some k := by
  cases hold : n.oldestReclaimable r excluded with
  | none => exact absurd (oldestReclaimable_none_iff.mp hold k hk) hexcluded
  | some j =>
    obtain ⟨hj, hjExcluded, hjFirst⟩ := oldestReclaimable_spec hold
    by_contra hne
    have hjk : j ≠ k := fun heq => hne (congrArg some heq)
    have h1 := hfirst j hj hjExcluded hjk
    have h2 := hjFirst k hk hexcluded hjk.symm
    unfold Intake.Before at h1 h2
    omega

theorem takeSlot_of_free (h : n.freeSlot = some k) : n.takeSlot r excluded = n.startFilling k := by rw [Intake.takeSlot, h]

theorem takeSlot_of_oldest (hfree : n.freeSlot = none) (h : n.oldestReclaimable r excluded = some k) :
    n.takeSlot r excluded = n.startFilling k := by
  rw [Intake.takeSlot, hfree, h]

theorem takeSlot_of_none (hfree : n.freeSlot = none) (h : n.oldestReclaimable r excluded = none) :
    n.takeSlot r excluded = { n with intakeSlot := none } := by
  rw [Intake.takeSlot, hfree, h]

theorem startFilling_same {y : SlotRecord} (hy : n.slots[k]? = some y) : (n.startFilling k).slots[k]? = some { y with state := .filling } := by
  rw [startFilling_slots, if_pos rfl, hy]
  rfl

theorem startFilling_other (h : i ≠ k) : (n.startFilling k).slots[i]? = n.slots[i]? := by
  rw [startFilling_slots, if_neg h]

/-- A taken slot changes the slots, the intake slot and the trailer shadow alone. -/
theorem takeSlot_frame (n : Intake) (r : Roller) (excluded : Option Nat) :
    n.takeSlot r excluded =
      { n with
        slots := (n.takeSlot r excluded).slots
        intakeSlot := (n.takeSlot r excluded).intakeSlot
        trailer := (n.takeSlot r excluded).trailer } := by
  obtain ⟨k, -, heq⟩ | heq := takeSlot_cases r excluded n
  · rw [heq]
    rfl
  · rw [heq]

/-- No slot may be reclaimed, said slot by slot. -/
theorem notSpare_iff : ¬n.Spare r i ↔
    ∀ y, n.slots[i]? = some y → y.state.readySeq.isSome = true → 0 < y.pins ∨ r.namesSlot y.state = true := by
  constructor
  · intro h y hy hready
    by_contra hnot
    rw [not_or, Bool.not_eq_true] at hnot
    exact h ⟨y, hy, hready, by omega, hnot.2⟩
  · rintro h ⟨y, hy, hready, hpins, hnames⟩
    obtain hpos | hnamed := h y hy hready
    · omega
    · exact Bool.noConfusion (hnames.symm.trans hnamed)

end

/-- Everything that can come of taking a slot: the lowest FREE one, with none FREE the oldest that may be reclaimed, or none. -/
theorem takeSlot_spec (n : Intake) (r : Roller) (excluded : Option Nat) :
    (∃ k y, n.slots[k]? = some y ∧ y.state = .free ∧ (∀ i < k, ∀ v, n.slots[i]? = some v → v.state ≠ .free) ∧
      n.takeSlot r excluded = n.startFilling k) ∨
    (n.freeSlot = none ∧ ∃ k, n.Spare r k ∧ excluded ≠ some k ∧
      (∀ i, n.Spare r i → excluded ≠ some i → i ≠ k → n.Before k i) ∧ n.takeSlot r excluded = n.startFilling k) ∨
    (n.freeSlot = none ∧ (∀ i, n.Spare r i → excluded = some i) ∧ n.takeSlot r excluded = { n with intakeSlot := none }) := by
  cases hfree : n.freeSlot with
  | some k =>
    obtain ⟨⟨y, hy, hstate⟩, hfirst⟩ := freeSlot_eq_some.mp hfree
    exact .inl ⟨k, y, hy, hstate, hfirst, takeSlot_of_free hfree⟩
  | none =>
    cases hold : n.oldestReclaimable r excluded with
    | some k =>
      obtain ⟨hk, hexcluded, hfirst⟩ := oldestReclaimable_spec hold
      exact .inr (.inl ⟨rfl, k, hk, hexcluded, hfirst, takeSlot_of_oldest hfree hold⟩)
    | none => exact .inr (.inr ⟨rfl, oldestReclaimable_none_iff.mp hold, takeSlot_of_none hfree hold⟩)

/-! ### INTAKE_RETRY (R36) -/

theorem blocked_iff (n : Intake) : n.blocked = true ↔ n.ring.isSome = true ∧ n.intakeSlot = none := by
  rw [Intake.blocked, Bool.and_eq_true, Option.isNone_iff_eq_none]

theorem exec_intakeRetry {s : State} (hrun : s.phase = .running) : exec .intakeRetry s = .next (retryIntake s) := if_pos hrun

/-- Settles O33, by what the slot table offers: a FREE slot, one that may be reclaimed, or none. -/
theorem retryTakesASlot : Obligations.RetryTakesASlot := by
  unfold Obligations.RetryTakesASlot
  intro s r hrun hring
  have hblocked : s.intake.intakeSlot = none → s.intake.blocked = true := fun hnone => (blocked_iff _).mpr ⟨by rw [hring]; rfl, hnone⟩
  refine ⟨fun hsome => ?_, fun hnone hwrite => ?_, fun hnone hwrite => ?_⟩
  · rw [exec_intakeRetry hrun, retryIntake, if_neg]
    intro hb
    rw [((blocked_iff _).mp hb).2] at hsome
    cases hsome
  · rw [exec_intakeRetry hrun, retryIntake, if_pos (hblocked hnone), if_pos hwrite]
  · have hretry : retryIntake s = { s with intake := { s.intake.takeSlot s.roller none with retryDue := false } } := by
      rw [retryIntake, if_pos (hblocked hnone), if_neg (by rw [hwrite]; exact Bool.false_ne_true), retryNow, if_pos (hblocked hnone)]
    intro spare age
    refine ⟨_, exec_intakeRetry hrun, ?_⟩
    rw [hretry]
    dsimp only
    have hnotFree : (∀ (i : Nat) (y : SlotRecord), s.intake.slots[i]? = some y →
        y.state ≠ .free ∧ (y.state.readySeq.isSome = true → 0 < y.pins ∨ s.roller.namesSlot y.state = true)) ↔
        s.intake.freeSlot = none ∧ ∀ i, ¬s.intake.Spare s.roller i := by
      rw [freeSlot_eq_none]
      simp only [notSpare_iff]
      exact ⟨fun h => ⟨fun i y hy => (h i y hy).1, fun i y hy => (h i y hy).2⟩, fun h i y hy => ⟨h.1 i y hy, h.2 i y hy⟩⟩
    rw [hnotFree]
    refine ⟨rfl, ?_⟩
    obtain ⟨k, y, hy, hstate, hfirst, heq⟩ | ⟨hfree, k, hspare, -, hfirst, heq⟩ | ⟨hfree, hspare, heq⟩ :=
      takeSlot_spec s.intake s.roller none
    · rw [heq]
      refine ⟨⟨nofun, fun h => absurd hstate (freeSlot_eq_none.mp h.1 k y hy)⟩, nofun, ?_, rfl⟩
      rintro _ ⟨⟩
      exact ⟨rfl, ⟨y, hy, startFilling_same hy, .inl ⟨hstate, fun i v hi hv => hfirst i hi v hv⟩⟩, fun j hj => startFilling_other hj⟩
    · rw [heq]
      refine ⟨⟨nofun, fun h => absurd hspare (h.2 k)⟩, nofun, ?_, rfl⟩
      rintro _ ⟨⟩
      obtain ⟨y, hy, hrest⟩ := id hspare
      exact ⟨rfl, ⟨y, hy, startFilling_same hy, .inr ⟨freeSlot_eq_none.mp hfree, hspare, fun i hi hne => hfirst i hi nofun hne⟩⟩,
        fun j hj => startFilling_other hj⟩
    · rw [heq]
      refine ⟨⟨fun _ => ⟨hfree, fun i hi => nomatch hspare i hi⟩, fun _ => rfl⟩, fun _ => ⟨rfl, rfl⟩, nofun, rfl⟩

/-! ### COMPLETION (R33-R35) -/

theorem exec_completion {s : State} (hrun : s.phase = .running) : exec .completion s = .next (examineTrailer s) := if_pos hrun

theorem readySeq_filling : SlotState.filling.readySeq = none := rfl

/-- While one slot is FILLING, giving that slot a frame leaves the other slots, and what may be reclaimed of them, as they are. -/
theorem afterCompletion_other {n : Intake} {k i : Nat} (h : i ≠ k) : (n.afterCompletion k).slots[i]? = n.slots[i]? := by
  rw [afterCompletion_slots, if_neg h]

theorem afterCompletion_same {n : Intake} {k : Nat} {x : SlotRecord} (hx : n.slots[k]? = some x) :
    (n.afterCompletion k).slots[k]? = some { x with state := n.completed } := by
  rw [afterCompletion_slots, if_pos rfl, hx]
  rfl

theorem afterCompletion_spare {n : Intake} {r : Roller} {k i : Nat} (hne : i ≠ k) : (n.afterCompletion k).Spare r i ↔ n.Spare r i := by
  rw [Intake.Spare, Intake.Spare, afterCompletion_other hne]

theorem completed_ne_free (n : Intake) : n.completed ≠ .free := by
  intro h
  have hframe := completed_frame n
  rw [h] at hframe
  cases hframe

theorem completed_eq {n : Intake} {d : RingDecl} (hring : n.ring = some d) :
    n.completed =
      if n.trailer[8] = 1 ∧ n.heldCount < d.count - 3 then .held n.trailerFrame (n.completions + 1)
      else .ready n.trailerFrame (n.completions + 1) := by
  have hlimit : n.holdLimit = d.count - 3 := by
    rw [Intake.holdLimit, hring]
    rfl
  rw [Intake.completed, hlimit, Intake.keeps]
  simp only [Bool.and_eq_true, beq_iff_eq, decide_eq_true_iff]

section
variable {n : Intake} {r : Roller} {k : Nat} {x : SlotRecord} (hx : n.slots[k]? = some x) (hfilling : x.state = .filling)
include hx hfilling

theorem Spare.ne_filling {i : Nat} (h : n.Spare r i) : i ≠ k := by
  rintro rfl
  obtain ⟨y, hy, hready, -⟩ := h
  obtain rfl := Option.some.inj (hx.symm.trans hy)
  rw [hfilling] at hready
  cases hready

theorem afterCompletion_notFree (i : Nat) :
    (∀ y, (n.afterCompletion k).slots[i]? = some y → y.state ≠ .free) ↔ ∀ y, n.slots[i]? = some y → y.state ≠ .free := by
  by_cases hik : i = k
  · subst hik
    constructor
    · intro _ y hy
      obtain rfl := Option.some.inj (hx.symm.trans hy)
      rw [hfilling]
      nofun
    · intro _ y hy
      obtain rfl := Option.some.inj ((afterCompletion_same hx).symm.trans hy)
      exact completed_ne_free n
  · rw [afterCompletion_other hik]

theorem afterCompletion_freeSlot_none :
    (n.afterCompletion k).freeSlot = none ↔ ∀ (i : Nat) (y : SlotRecord), n.slots[i]? = some y → y.state ≠ .free := by
  rw [freeSlot_eq_none]
  exact forall_congr' (afterCompletion_notFree hx hfilling)

omit hfilling in
/-- The slot just completed keeps its frame: no step of the choice takes it. -/
theorem complete_slot : (n.complete r k).slots[k]? = some { x with state := n.completed } := by
  rw [complete_eq]
  obtain ⟨j, y, hy, hstate, -, heq⟩ | ⟨-, j, -, hexcluded, -, heq⟩ | ⟨-, -, heq⟩ := takeSlot_spec (n.afterCompletion k) r (some k)
  · have hne : k ≠ j := by
      rintro rfl
      obtain rfl := Option.some.inj ((afterCompletion_same hx).symm.trans hy)
      exact completed_ne_free n hstate
    rw [heq, startFilling_other hne, afterCompletion_same hx]
  · rw [heq, startFilling_other fun h => hexcluded (congrArg some h), afterCompletion_same hx]
  · rw [heq]
    exact afterCompletion_same hx

theorem complete_of_free {j : Nat} (hfirst : ∀ i < j, ∀ y, n.slots[i]? = some y → y.state ≠ .free)
    (hfree : ∃ y, n.slots[j]? = some y ∧ y.state = .free) :
    n.complete r k = (n.afterCompletion k).startFilling j ∧ ∃ y, (n.afterCompletion k).slots[j]? = some y := by
  obtain ⟨y, hy, hstate⟩ := hfree
  have hjk : j ≠ k := by
    rintro rfl
    obtain rfl := Option.some.inj (hx.symm.trans hy)
    exact nomatch hfilling.symm.trans hstate
  have hslot : (n.afterCompletion k).slots[j]? = some y := (afterCompletion_other hjk).trans hy
  refine ⟨takeSlot_of_free (freeSlot_eq_some.mpr ⟨⟨y, hslot, hstate⟩, fun i hi => ?_⟩), y, hslot⟩
  exact (afterCompletion_notFree hx hfilling i).mpr (hfirst i hi)

theorem complete_of_oldest {j : Nat} (hnotFree : ∀ (i : Nat) (y : SlotRecord), n.slots[i]? = some y → y.state ≠ .free)
    (hspare : n.Spare r j) (hfirst : ∀ i, n.Spare r i → i ≠ j → (n.afterCompletion k).Before j i) :
    n.complete r k = (n.afterCompletion k).startFilling j := by
  have hjk := Spare.ne_filling hx hfilling hspare
  refine takeSlot_of_oldest ((afterCompletion_freeSlot_none hx hfilling).mpr hnotFree)
    (oldestReclaimable_of_before ((afterCompletion_spare hjk).mpr hspare) (fun h => hjk (Option.some.inj h).symm) ?_)
  intro i hi hexcluded hne
  have hik : i ≠ k := fun h => hexcluded (congrArg some h.symm)
  exact hfirst i ((afterCompletion_spare hik).mp hi) hne

theorem complete_of_none
    (hnone : ∀ (i : Nat) (y : SlotRecord), n.slots[i]? = some y →
      y.state ≠ .free ∧ (y.state.readySeq.isSome = true → 0 < y.pins ∨ r.namesSlot y.state = true)) :
    (n.complete r k).intakeSlot = none := by
  have hfree := (afterCompletion_freeSlot_none hx hfilling).mpr fun i y hy => (hnone i y hy).1
  have hold : (n.afterCompletion k).oldestReclaimable r (some k) = none := by
    refine oldestReclaimable_none_iff.mpr fun i hi => ?_
    by_contra hexcluded
    have hik : i ≠ k := fun h => hexcluded (congrArg some h.symm)
    exact notSpare_iff.mpr (fun y hy => (hnone i y hy).2) ((afterCompletion_spare hik).mp hi)
  rw [complete_eq, takeSlot_of_none hfree hold]

end

theorem complete_other {n : Intake} {r : Roller} {k i : Nat} (hik : i ≠ k) (hi : (n.complete r k).intakeSlot ≠ some i) :
    (n.complete r k).slots[i]? = n.slots[i]? := by
  rw [complete_eq] at hi ⊢
  refine Eq.trans ?_ (afterCompletion_other hik)
  obtain ⟨j, -, heq⟩ | heq := takeSlot_cases r (some k) (n.afterCompletion k)
  · rw [heq] at hi ⊢
    exact startFilling_other fun h => hi (congrArg some h.symm)
  · rw [heq]

theorem complete_frame (n : Intake) (r : Roller) (k : Nat) :
    n.complete r k =
      { n with
        slots := (n.complete r k).slots
        intakeSlot := (n.complete r k).intakeSlot
        completions := (n.complete r k).completions
        trailer := (n.complete r k).trailer } := by
  rw [complete_eq, takeSlot_frame]
  rfl

theorem complete_completions (n : Intake) (r : Roller) (k : Nat) : (n.complete r k).completions = n.completions + 1 := by
  rw [complete_eq, takeSlot_frame]
  rfl

/-- The age of a slot counted one completion on. -/
theorem afterCompletion_ageAt {n : Intake} {k i : Nat} (hik : i ≠ k) :
    (n.afterCompletion k).ageAt i =
      (n.slots[i]?).elim 0 fun y => y.state.readySeq.elim 0 fun q => (n.completions + 1 - q).toNat := by
  rw [Intake.ageAt, afterCompletion_other hik]
  rfl

theorem examineTrailer_bad {s : State} {d : RingDecl} {k : Nat} (hring : s.intake.ring = some d) (hslot : s.intake.intakeSlot = some k)
    (h : s.intake.completionWord ≠ ~~~s.intake.trailerFrame) : examineTrailer s = s.raise .trailerBad := by
  rw [examineTrailer, hring, hslot]
  exact if_pos (bne_iff_ne.mpr h)

theorem examineTrailer_duplicate {s : State} {d : RingDecl} {k : Nat} (hring : s.intake.ring = some d) (hslot : s.intake.intakeSlot = some k)
    (h : s.intake.completionWord = ~~~s.intake.trailerFrame) (hpresent : s.intake.trailerFrame ∈ s.intake.frames) :
    examineTrailer s = { s with intake := { s.intake with trailer := trailerZero } }.raise .frameDuplicate := by
  rw [examineTrailer, hring, hslot]
  dsimp only
  rw [if_neg (by rw [h, bne_self_eq_false]; exact Bool.false_ne_true), if_pos (present_iff_mem.mpr hpresent)]

theorem examineTrailer_good {s : State} {d : RingDecl} {k : Nat} (hring : s.intake.ring = some d) (hslot : s.intake.intakeSlot = some k)
    (h : s.intake.completionWord = ~~~s.intake.trailerFrame) (hnew : s.intake.trailerFrame ∉ s.intake.frames) :
    examineTrailer s = { s with intake := s.intake.complete s.roller k } := by
  rw [examineTrailer, hring, hslot]
  dsimp only
  rw [if_neg (by rw [h, bne_self_eq_false]; exact Bool.false_ne_true), if_neg fun hp => hnew (present_iff_mem.mp hp)]

/-- Settles O32, outcome by outcome. -/
theorem completionOutcomes : Obligations.CompletionOutcomes := by
  unfold Obligations.CompletionOutcomes
  intro s d k x hrun hring hslot hx hfilling f
  refine ⟨fun hbad => ?_, fun hword hpresent => ?_, fun hword hnew => ?_⟩
  · refine ⟨_, exec_completion hrun, ?_⟩
    rw [examineTrailer_bad hring hslot hbad]
    exact ⟨State.raise_flagged .., rfl⟩
  · refine ⟨_, exec_completion hrun, ?_⟩
    rw [examineTrailer_duplicate hring hslot hword hpresent]
    exact ⟨State.raise_flagged .., rfl⟩
  · intro spare age
    refine ⟨_, exec_completion hrun, ?_⟩
    rw [examineTrailer_good hring hslot hword hnew]
    dsimp only
    have hframe := complete_frame s.intake s.roller k
    have hage : ∀ i, i ≠ k → (s.intake.afterCompletion k).ageAt i = age i := fun i => afterCompletion_ageAt
    refine ⟨complete_completions .., ?_, fun j hfirst hfree => ?_, fun hnotFree j hspare hbefore => ?_, complete_of_none hx hfilling,
      fun i hik hi => complete_other hik hi, ?_⟩
    · rw [complete_slot hx, completed_eq hring]
    · obtain ⟨heq, y, hy⟩ := complete_of_free (r := s.roller) hx hfilling hfirst hfree
      rw [heq]
      exact ⟨rfl, rfl, _, startFilling_same hy, rfl⟩
    · have hjk := Spare.ne_filling hx hfilling hspare
      have heq : s.intake.complete s.roller k = (s.intake.afterCompletion k).startFilling j := by
        refine complete_of_oldest hx hfilling hnotFree hspare fun i hi hne => ?_
        rw [Intake.Before, hage i (Spare.ne_filling hx hfilling hi), hage j hjk]
        exact hbefore i hi hne
      obtain ⟨y, hy, -⟩ := id hspare
      rw [heq]
      exact ⟨rfl, rfl, y, hy, startFilling_same ((afterCompletion_other hjk).trans hy)⟩
    · exact congrArg (fun n => { s with intake := n }) hframe

end Sys2Proof.Machine
end

section
/-! PROOFS. HOLD_FRAMES (R38, R39). -/

namespace Sys2Proof.Machine

/-! ### The READY slots of a range in order of frame number -/

theorem insertByFrame_perm (p : Word × Nat) (l : List (Word × Nat)) : (insertByFrame p l).Perm (p :: l) := by
  induction l with
  | nil => exact .refl _
  | cons q rest ih =>
    rw [insertByFrame]
    split
    · exact .refl _
    · exact (ih.cons q).trans (.swap ..)

/-- A list of frames with their slots, in ascending order of frame number. -/
def FrameOrdered (l : List (Word × Nat)) : Prop := l.Pairwise fun p q => p.1.toNat ≤ q.1.toNat

theorem insertByFrame_ordered (p : Word × Nat) {l : List (Word × Nat)} (h : FrameOrdered l) : FrameOrdered (insertByFrame p l) := by
  induction l with
  | nil => exact List.pairwise_singleton _ _
  | cons q rest ih =>
    obtain ⟨hq, hrest⟩ := List.pairwise_cons.mp h
    rw [insertByFrame]
    split
    · next hlt =>
      refine List.pairwise_cons.mpr ⟨List.forall_mem_cons.mpr ⟨Nat.le_of_lt hlt, fun y hy => ?_⟩, h⟩
      exact Nat.le_trans (Nat.le_of_lt hlt) (hq y hy)
    · next hle =>
      refine List.pairwise_cons.mpr ⟨fun y hy => ?_, ih hrest⟩
      obtain rfl | hy := List.mem_cons.mp ((insertByFrame_perm p rest).mem_iff.mp hy)
      · exact Nat.not_lt.mp hle
      · exact hq y hy

/-- The entry HOLD_FRAMES makes of a slot: its frame with its index, if it is READY in the range. -/
def readyEntry (first last : Word) (p : Nat × SlotRecord) : Option (Word × Nat) :=
  match p.2.state with
  | .ready f _ => if frameInRange first last f then some (f, p.1) else none
  | .free => none
  | .filling => none
  | .held _ _ => none

theorem readyEntry_eq_some {first last : Word} {k : Nat} {r : SlotRecord} {e : Word × Nat} :
    readyEntry first last (k, r) = some e ↔ (∃ f q, r.state = .ready f q ∧ frameInRange first last f = true ∧ e = (f, k)) := by
  unfold readyEntry
  dsimp only
  cases r.state with
  | ready f q =>
    dsimp only
    split
    · next hin =>
      constructor
      · rintro ⟨⟩
        exact ⟨f, q, rfl, hin, rfl⟩
      · rintro ⟨f', q', heq, -, rfl⟩
        cases heq
        rfl
    · next hin =>
      refine ⟨nofun, ?_⟩
      rintro ⟨f', q', heq, hin', -⟩
      cases heq
      exact absurd hin' hin
  | free => simp
  | filling => simp
  | held f q => simp

theorem readyInRange_eq (n : Intake) (first last : Word) :
    n.readyInRange first last = (n.indexed.filterMap (readyEntry first last)).foldl (fun acc p => insertByFrame p acc) [] := by
  rw [Intake.readyInRange, List.foldl_filterMap]
  congr 1
  funext acc p
  unfold readyEntry
  cases p.2.state with
  | ready f q =>
    dsimp only
    split <;> rfl
  | free => rfl
  | filling => rfl
  | held f q => rfl

theorem foldl_insertByFrame (l : List (Word × Nat)) : ∀ acc : List (Word × Nat), FrameOrdered acc →
    (l.foldl (fun acc p => insertByFrame p acc) acc).Perm (l ++ acc) ∧
      FrameOrdered (l.foldl (fun acc p => insertByFrame p acc) acc) := by
  induction l with
  | nil => exact fun acc hacc => ⟨.refl _, hacc⟩
  | cons p rest ih =>
    intro acc hacc
    obtain ⟨hperm, hordered⟩ := ih (insertByFrame p acc) (insertByFrame_ordered p hacc)
    refine ⟨hperm.trans ?_, hordered⟩
    exact ((insertByFrame_perm p acc).append_left rest).trans List.perm_middle

theorem readyInRange_perm (n : Intake) (first last : Word) :
    (n.readyInRange first last).Perm (n.indexed.filterMap (readyEntry first last)) := by
  have h := (foldl_insertByFrame (n.indexed.filterMap (readyEntry first last)) [] .nil).1
  rwa [List.append_nil, ← readyInRange_eq] at h

theorem readyInRange_ordered (n : Intake) (first last : Word) : FrameOrdered (n.readyInRange first last) := by
  rw [readyInRange_eq]
  exact (foldl_insertByFrame _ [] .nil).2

theorem mem_readyInRange {n : Intake} {first last : Word} {f : Word} {k : Nat} :
    (f, k) ∈ n.readyInRange first last ↔
      ∃ r q, n.slots[k]? = some r ∧ r.state = .ready f q ∧ frameInRange first last f = true := by
  rw [(readyInRange_perm n first last).mem_iff, List.mem_filterMap]
  constructor
  · rintro ⟨⟨i, r⟩, hmem, hentry⟩
    obtain ⟨f', q, hstate, hin, heq⟩ := readyEntry_eq_some.mp hentry
    cases heq
    exact ⟨r, q, mem_indexed.mp hmem, hstate, hin⟩
  · rintro ⟨r, q, hr, hstate, hin⟩
    exact ⟨(k, r), mem_indexed.mpr hr, readyEntry_eq_some.mpr ⟨f, q, hstate, hin, rfl⟩⟩

theorem readyInRange_slots_nodup (n : Intake) (first last : Word) : ((n.readyInRange first last).map Prod.snd).Nodup := by
  refine ((readyInRange_perm n first last).map Prod.snd).nodup_iff.mpr ?_
  have hlt : (n.indexed.filterMap (readyEntry first last)).Pairwise fun p q => p.2 < q.2 := by
    rw [List.pairwise_filterMap]
    refine (indexed_pairwise n).imp fun {p q} hpq b hb c hc => ?_
    obtain ⟨f, _, -, -, rfl⟩ := readyEntry_eq_some.mp hb
    obtain ⟨g, _, -, -, rfl⟩ := readyEntry_eq_some.mp hc
    exact hpq
  exact List.pairwise_map.mpr (hlt.imp Nat.ne_of_lt)

/-! ### The slots held -/

theorem hold_hold (st : SlotState) : st.hold.hold = st.hold := by cases st <;> rfl

theorem holdSlots_slots (l : List (Word × Nat)) : ∀ (n : Intake) (i : Nat),
    (n.holdSlots l).slots[i]? = n.slots[i]?.map fun r => if i ∈ l.map Prod.snd then { r with state := r.state.hold } else r := by
  induction l with
  | nil =>
    intro n i
    simp [Intake.holdSlots]
  | cons p rest ih =>
    intro n i
    rw [holdSlots_cons, ih, holdAt_slots, Option.map_map]
    congr 1
    funext r
    rw [Function.comp_apply, List.map_cons]
    simp only [List.mem_cons]
    by_cases hp : p.2 = i
    · subst hp
      by_cases hrest : p.2 ∈ rest.map Prod.snd
      · simp [hrest, hold_hold]
      · simp [hrest]
    · have hp' : i ≠ p.2 := fun h => hp h.symm
      simp [hp, hp']

theorem holdSlots_heldCount (l : List (Word × Nat)) : ∀ n : Intake, (l.map Prod.snd).Nodup →
    (∀ p ∈ l, ∃ r f q, n.slots[p.2]? = some r ∧ r.state = .ready f q) →
    (n.holdSlots l).heldCount = n.heldCount + l.length := by
  induction l with
  | nil => exact fun n _ _ => rfl
  | cons p rest ih =>
    intro n hnodup hready
    obtain ⟨hfresh, hrest⟩ := List.nodup_cons.mp hnodup
    obtain ⟨⟨r, f, q, hr, hstate⟩, hreadyRest⟩ := List.forall_mem_cons.mp hready
    have hheld : (n.holdAt p.2).heldCount = n.heldCount + 1 := by
      have h := heldCount_setState hr r.state.hold
      rw [← holdAt_eq hr, hstate] at h
      exact h
    rw [holdSlots_cons, ih _ hrest, hheld, List.length_cons]
    · omega
    · intro p' hp'
      obtain ⟨r', f', q', hr', hstate'⟩ := hreadyRest p' hp'
      refine ⟨r', f', q', ?_, hstate'⟩
      have hne : p.2 ≠ p'.2 := fun h => hfresh (h ▸ List.mem_map_of_mem hp')
      rw [holdAt_slots, hr', Option.map_some, if_neg hne]

theorem holdSlots_length (l : List (Word × Nat)) : ∀ n : Intake, (n.holdSlots l).slots.length = n.slots.length := by
  induction l with
  | nil => exact fun _ => rfl
  | cons p rest ih =>
    intro n
    rw [holdSlots_cons, ih]
    exact List.length_modify ..

theorem holdSlots_frame (l : List (Word × Nat)) : ∀ n : Intake, n.holdSlots l = { n with slots := (n.holdSlots l).slots } := by
  induction l with
  | nil => exact fun _ => rfl
  | cons p rest ih =>
    intro n
    rw [holdSlots_cons, ih (n.holdAt p.2)]
    rfl

/-! ### The command -/

/-- Whether a slot holds a frame of the range. -/
def slotInRange (first last : Word) (r : SlotRecord) : Bool :=
  r.state.frame.elim false fun f => decide (first.toNat ≤ f.toNat ∧ f.toNat ≤ last.toNat)

theorem slotInRange_ready {first last : Word} {r : SlotRecord} :
    slotInRange first last r = true ∧ r.state.isHeld = false ↔
      ∃ f q, r.state = .ready f q ∧ frameInRange first last f = true := by
  unfold slotInRange
  cases r.state with
  | ready f q =>
    simp only [SlotState.frame, Option.elim_some, decide_eq_true_iff, SlotState.isHeld, and_true]
    rw [← frameInRange_iff]
    constructor
    · exact fun h => ⟨f, q, rfl, h⟩
    · rintro ⟨f', q', heq, h⟩
      cases heq
      exact h
  | free => simp [SlotState.frame]
  | filling => simp [SlotState.frame]
  | held f q => simp [SlotState.isHeld]

theorem length_readyInRange (n : Intake) (first last : Word) :
    (n.readyInRange first last).length = (n.slots.filter fun r => slotInRange first last r && !r.state.isHeld).length := by
  have hslots : n.slots = n.indexed.map Prod.snd := by
    rw [Intake.indexed, indexedFrom_eq, List.map_map]
    exact (List.zipIdx_map_fst 0 n.slots).symm
  have hentry : ∀ p : Nat × SlotRecord,
      (readyEntry first last p).isSome = (slotInRange first last p.2 && !p.2.state.isHeld) := by
    rintro ⟨k, r⟩
    rw [Bool.eq_iff_iff, Option.isSome_iff_exists, Bool.and_eq_true, Bool.not_eq_true', slotInRange_ready]
    simp only [readyEntry_eq_some]
    constructor
    · rintro ⟨e, f, q, hstate, hin, -⟩
      exact ⟨f, q, hstate, hin⟩
    · rintro ⟨f, q, hstate, hin⟩
      exact ⟨_, f, q, hstate, hin, rfl⟩
  rw [(readyInRange_perm n first last).length_eq, List.length_filterMap_eq_countP, hslots, ← List.countP_eq_length_filter, List.countP_map]
  exact List.countP_congr fun p _ => by rw [Function.comp_apply, hentry]

/-- Settles O29, by the order in which the READY slots of the range are taken. -/
theorem holdFramesUpToLimit : Obligations.HoldFramesUpToLimit := by
  unfold Obligations.HoldFramesUpToLimit
  intro slot first last s hrun hring hrange _ hheld inRange ready room
  have hlength : (s.intake.readyInRange first last).length = ready := length_readyInRange s.intake first last
  have hchosen : ((s.intake.readyInRange first last).take room).length = min ready room := by
    rw [List.length_take, hlength, Nat.min_comm]
  have hcode : (if ((s.intake.readyInRange first last).take room).length < (s.intake.readyInRange first last).length then ResultCode.clamped
      else .ok) = if ready ≤ room then .ok else .clamped := by
    rw [hchosen, hlength]
    by_cases hle : ready ≤ room
    · rw [if_pos hle, if_neg (by omega)]
    · rw [if_neg hle, if_pos (by omega)]
  have hcount : (s.intake.holdSlots ((s.intake.readyInRange first last).take room)).heldCount = s.intake.heldCount + min ready room := by
    rw [holdSlots_heldCount _ _ ((readyInRange_slots_nodup s.intake first last).sublist ((List.take_sublist _ _).map _)), hchosen]
    rintro ⟨f, k⟩ hp
    obtain ⟨r, q, hr, hstate, -⟩ := mem_readyInRange.mp (List.mem_of_mem_take hp)
    exact ⟨r, f, q, hr, hstate⟩
  have hlimit : (s.intake.holdSlots ((s.intake.readyInRange first last).take room)).holdLimit = s.intake.holdLimit := by
    rw [holdSlots_frame]
    rfl
  refine ⟨{ s with intake := s.intake.holdSlots ((s.intake.readyInRange first last).take room) }, ?_, hcount, ?_, holdSlots_length _ _, ?_, ?_⟩
  · rw [← hcode, ← hchosen]
    exact answers_of_rule rfl hrun (rangeChecks_passed hring hrange _)
  · dsimp only
    rw [hcount, hlimit]
    omega
  · intro k r hk
    have hslot : ∀ {j : Nat} {q : SlotRecord}, s.intake.slots[j]? = some q →
        j ∈ ((s.intake.readyInRange first last).take room).map Prod.snd →
        (s.intake.holdSlots ((s.intake.readyInRange first last).take room)).slots[j]? = some { q with state := q.state.hold } := by
      intro j q hj hmem
      rw [holdSlots_slots, hj, Option.map_some, if_pos hmem]
    by_cases hmem : k ∈ ((s.intake.readyInRange first last).take room).map Prod.snd
    · obtain ⟨⟨f, _⟩, hp, rfl⟩ := List.mem_map.mp hmem
      obtain ⟨r', q, hr', hstate, hin⟩ := mem_readyInRange.mp (List.mem_of_mem_take hp)
      obtain rfl := Option.some.inj (hk.symm.trans hr')
      obtain ⟨hrIn, hrHeld⟩ := slotInRange_ready.mpr ⟨f, q, hstate, hin⟩
      refine .inr ⟨hrIn, hrHeld, hslot hk hmem, fun j v hj hvIn hvHeld hlt => hslot hj ?_⟩
      obtain ⟨g, q', hvState, hgIn⟩ := slotInRange_ready.mp ⟨hvIn, hvHeld⟩
      have hall : (g, j) ∈ s.intake.readyInRange first last := mem_readyInRange.mpr ⟨v, q', hj, hvState, hgIn⟩
      refine List.mem_map.mpr ⟨(g, j), ?_, rfl⟩
      have hsplit := List.take_append_drop room (s.intake.readyInRange first last)
      have hordered := readyInRange_ordered s.intake first last
      rw [← hsplit] at hall
      rw [FrameOrdered, ← hsplit, List.pairwise_append] at hordered
      obtain htaken | hleft := List.mem_append.mp hall
      · exact htaken
      · have hle := hordered.2.2 (f, _) hp (g, j) hleft
        rw [hvState, hstate] at hlt
        exact absurd hlt (Nat.not_lt.mpr hle)
    · left
      refine (holdSlots_slots _ _ _).trans ?_
      rw [hk, Option.map_some, if_neg hmem]
  · exact congrArg (fun n => { s with intake := n }) (holdSlots_frame _ _)

end Sys2Proof.Machine
end

section
/-! PROOFS. ROLL, SET_SPEED and STOP_REPLAY (R48, R49, R58, R59). -/

namespace Sys2Proof.Machine

theorem hasOn_of_zone {p : Plan} {k : ZoneSource} {z : ZoneIx} (henable : (p[z]).enable = true) (hsource : (p[z]).source = k) :
    p.hasOn k = true := by
  refine List.any_eq_true.mpr ⟨z, mem_allZones z, ?_⟩
  rw [ZoneDesc.isOn, henable, hsource, beq_self_eq_true]
  rfl

theorem speedResult_eq (v : Half) : speedResult v = { code := if 1024 < v.toNat then .clamped else .ok } := rfl

theorem ruleRoll_taken {p : RollPayload} {o b c : Bool} {d : RollDirection} {e : EndMode} {s : State}
    (hchoices : rollChoices p = some (o, d, e, b, c)) (hlow : 1 ≤ p.rs.toNat) (hhigh : p.rs.toNat ≤ 300)
    (hring : s.intake.ring.isSome = true) (hzone : s.composer.live.hasOn .replay = true)
    (hforward : o = true → d = .forward → p.fIn.toNat ≤ p.fOut.toNat) (hreverse : o = true → d = .reverse → p.fOut.toNat ≤ p.fIn.toNat) :
    ruleRoll p s = (startRoll p o d e b c s, speedResult p.speed) := by
  rw [ruleRoll, hchoices]
  refine checked_passed ?_ s _
  simp only [List.forall_mem_cons]
  refine ⟨?_, by rw [Option.isNone_eq_false_iff]; exact hring, by rw [hzone]; rfl, ?_, nofun⟩
  · simp only [Bool.or_eq_false_iff, decide_eq_false_iff_not]
    omega
  · cases ho : o with
    | false => rfl
    | true =>
      cases d with
      | forward => exact decide_eq_false (Nat.not_lt.mpr (hforward ho rfl))
      | reverse => exact decide_eq_false (Nat.not_lt.mpr (hreverse ho rfl))

theorem startRoll_frame (p : RollPayload) (o : Bool) (d : RollDirection) (e : EndMode) (b c : Bool) (s : State) :
    startRoll p o d e b c s =
      { s with
        roller := (startRoll p o d e b c s).roller
        command := { s.command with flags := (startRoll p o d e b c s).command.flags } } := by
  unfold startRoll
  dsimp only
  split
  · rfl
  · rfl

theorem startRoll_flagged (p : RollPayload) (o : Bool) (d : RollDirection) (e : EndMode) (b c : Bool) (s : State) :
    (startRoll p o d e b c s).flagged .replayStarved = (s.flagged .replayStarved || decide (p.fIn ∉ s.intake.frames)) := by
  unfold startRoll
  dsimp only
  by_cases hpresent : s.intake.present p.fIn = true
  · rw [if_pos hpresent, decide_eq_false (not_not_intro (present_iff_mem.mp hpresent)), Bool.or_false]
    rfl
  · have habsent : p.fIn ∉ s.intake.frames := fun h => hpresent (present_iff_mem.mpr h)
    rw [if_neg hpresent, decide_eq_true habsent, Bool.or_true]
    exact State.raise_flagged ..

theorem startRoll_roller (p : RollPayload) (o : Bool) (d : RollDirection) (e : EndMode) (b c : Bool) (s : State) :
    (startRoll p o d e b c s).roller =
      { s.roller.loaded p o d e b c with
        state := if p.fIn ∈ s.intake.frames then .rolling else .starved
        showPlan := if p.fIn ∈ s.intake.frames then some { a := p.fIn, b := none, w16 := 0 } else none } := by
  unfold startRoll
  dsimp only
  by_cases hpresent : s.intake.present p.fIn = true
  · rw [if_pos hpresent, if_pos (present_iff_mem.mp hpresent), if_pos (present_iff_mem.mp hpresent)]
  · rw [if_neg hpresent, if_neg fun h => hpresent (present_iff_mem.mpr h), if_neg fun h => hpresent (present_iff_mem.mpr h)]
    rfl

theorem ruleSetSpeed_taken {speed : Half} {direction : Byte} {d : RollDirection} {s : State} (hd : rollDirection direction = some d)
    (hstate : s.roller.state = .rolling ∨ s.roller.state = .starved) :
    ruleSetSpeed speed direction s = ({ s with roller := s.roller.setSpeed (clampSpeed speed) d }, speedResult speed) := by
  rw [ruleSetSpeed, hd]
  exact if_pos hstate

theorem ruleSetSpeed_wrongState {speed : Half} {direction : Byte} {s : State} (hd : (rollDirection direction).isSome = true)
    (hstate : s.roller.state = .idle ∨ s.roller.state = .holding) : ruleSetSpeed speed direction s = refuse .wrongState s := by
  obtain ⟨d, hd⟩ := Option.isSome_iff_exists.mp hd
  rw [ruleSetSpeed, hd]
  refine if_neg ?_
  obtain hstate | hstate := hstate <;> rw [hstate] <;> simp

theorem setSpeed_same (speed : Nat) (r : Roller) :
    r.setSpeed speed r.direction = { r with speed := speed, rem := if r.speed = speed then r.rem else 0 } := by
  rw [Roller.setSpeed, if_neg (by simp)]
  by_cases h : r.speed = speed
  · rw [if_neg (by simp [h]), if_pos h, ← h]
  · rw [if_pos (bne_iff_ne.mpr h), if_neg h]

theorem setSpeed_turned {speed : Nat} {d : RollDirection} {r : Roller} (h : d ≠ r.direction) :
    r.setSpeed speed d =
      { r with
        speed := speed
        direction := d
        pInt := 0
        pFrac := 0
        rem := 0
        outPoint := none
        fIn := r.showPlan.elim r.fIn ShowPlan.a
        showPlan := r.showPlan.map fun p => { a := p.a, b := none, w16 := 0 } } := by
  rw [Roller.setSpeed, if_pos (bne_iff_ne.mpr h.symm), Roller.rebase]
  cases hplan : r.showPlan with
  | none => rfl
  | some p => rfl

/-- Settles O34, command by command. -/
theorem rollerCommands : Obligations.RollerCommands := by
  unfold Obligations.RollerCommands
  refine fun slot s hrun => ⟨?_, ?_, ?_, fun hidle => ?_, fun hbusy => ?_⟩
  · rintro p o b c d e hchoices hlow hhigh hring ⟨z, henable, hsource⟩ hforward hreverse
    refine ⟨startRoll p o d e b c s, answers_of_rule rfl hrun
      (ruleRoll_taken hchoices hlow hhigh hring (hasOn_of_zone henable hsource) hforward hreverse), ?_,
      startRoll_flagged p o d e b c s, startRoll_frame p o d e b c s⟩
    rw [startRoll_roller]
    rfl
  · intro speed direction d hd hstate
    refine ⟨_, answers_of_rule rfl hrun (ruleSetSpeed_taken hd hstate), ?_, fun hne => setSpeed_turned hne, rfl⟩
    rintro rfl
    exact setSpeed_same _ _
  · exact fun speed direction hd hstate => answers_of_rule rfl hrun (ruleSetSpeed_wrongState hd hstate)
  · exact answers_of_rule rfl hrun (if_pos hidle)
  · exact answers_of_rule rfl hrun (if_neg hbusy)

end Sys2Proof.Machine
end

section
/-! PROOFS. The parts of a FRAME_END: which state each source works from, and that no flag falls (R11, R50, R121, R156). -/

namespace Sys2Proof.Machine

/-! ### Raised flags stay raised -/

/-- No flag raised in one state is lowered in the other. -/
structure FlagsRise (s t : State) : Prop where
  flagged : ∀ f : Flag, s.flagged f = true → t.flagged f = true

theorem FlagsRise.refl (s : State) : FlagsRise s s := ⟨fun _ h => h⟩

theorem FlagsRise.trans {s t u : State} (h : FlagsRise s t) (h' : FlagsRise t u) : FlagsRise s u :=
  ⟨fun f hf => h'.flagged f (h.flagged f hf)⟩

theorem FlagsRise.of_flags {s t : State} (h : t.command.flags = s.command.flags) : FlagsRise s t := by
  refine ⟨fun f hf => ?_⟩
  rw [State.flagged] at hf ⊢
  rwa [h]

theorem raise_flagsRise (g : Flag) (s : State) : FlagsRise s (s.raise g) :=
  ⟨fun f hf => by rw [State.raise_flagged_eq, hf, Bool.true_or]⟩

theorem raiseIf_flagsRise (c : Bool) (g : Flag) (s : State) : FlagsRise s (s.raiseIf c g) :=
  ⟨fun f hf => by rw [State.raiseIf_flagged, hf, Bool.true_or]⟩

theorem offerRecord_flagsRise (z : ZoneIx) (reason : ShowingEnd) (saturated : Bool) (h : Showing) (s : State) :
    FlagsRise s (offerRecord z reason saturated h s) := by
  unfold offerRecord
  split
  · exact .of_flags rfl
  · refine .trans ?_ (raise_flagsRise .logFull _)
    exact .of_flags rfl

theorem keptByRecords_flagged (f : Flag) : KeptByRecords fun t => t.flagged f = true where
  rotation := by
    rintro s t ⟨_, rfl⟩ h
    exact h
  flag c g s h := (raiseIf_flagsRise c g s).flagged f h
  record z reason saturated h s hs := (offerRecord_flagsRise z reason saturated h s).flagged f hs

theorem rotationFrameWork_flagsRise (s : State) : FlagsRise s (rotationFrameWork s).1 :=
  ⟨fun f hf => (keptByRecords_flagged f).rotationFrameWork hf⟩

theorem noteRemoval_flagsRise (e : TickerEntry) (reason : RemovalReason) (s : State) : FlagsRise s (noteRemoval e reason s) := by
  refine .trans ?_ (raise_flagsRise .messageDone _)
  exact .of_flags rfl

theorem noteRemovals_flagsRise (reason : RemovalReason) : ∀ (l : List TickerEntry) (s : State), FlagsRise s (noteRemovals reason l s)
  | [], s => .refl s
  | e :: rest, s => (noteRemoval_flagsRise e reason s).trans (noteRemovals_flagsRise reason rest _)

theorem setShowing_flagsRise (x : Option ShowingEntry) (s : State) : FlagsRise s (setShowing x s) := .of_flags rfl

theorem returnShowing_flagsRise (x : ShowingEntry) (s : State) : FlagsRise s (returnShowing x s) := .of_flags rfl

theorem removeShowing_flagsRise (reason : RemovalReason) (s : State) : FlagsRise s (removeShowing reason s) := by
  unfold removeShowing
  split
  · exact (setShowing_flagsRise none s).trans (noteRemoval_flagsRise ..)
  · exact .refl s

theorem removeWaiting_flagsRise (test : TickerEntry → Bool) (reason : RemovalReason) (s : State) :
    FlagsRise s (removeWaiting test reason s) := by
  refine .trans ?_ (noteRemovals_flagsRise ..)
  exact .of_flags rfl

theorem tickerCancels_flagsRise (s : State) : FlagsRise s (tickerCancels s) := by
  unfold tickerCancels
  split
  · split
    · exact removeShowing_flagsRise _ s
    · exact .refl s
  · exact .refl s

theorem expireShowing_flagsRise (s : State) : FlagsRise s (expireShowing s) := by
  unfold expireShowing
  split
  · dsimp only
    split
    · exact (setShowing_flagsRise _ s).trans (removeShowing_flagsRise ..)
    · exact setShowing_flagsRise _ s
  · exact .refl s

theorem tickerExpiry_flagsRise (s : State) : FlagsRise s (tickerExpiry s) :=
  (removeWaiting_flagsRise ..).trans (expireShowing_flagsRise _)

theorem passEnd_flagsRise (x : ShowingEntry) (w : Nat) (s : State) : FlagsRise s (passEnd x w s) := by
  unfold passEnd
  dsimp only
  split
  · exact (setShowing_flagsRise _ s).trans (removeShowing_flagsRise ..)
  · split
    · exact (setShowing_flagsRise _ s).trans (removeShowing_flagsRise ..)
    · split
      · exact (setShowing_flagsRise _ s).trans (returnShowing_flagsRise ..)
      · exact (setShowing_flagsRise _ s).trans (setShowing_flagsRise ..)

theorem tickerAdvance_flagsRise (s : State) : FlagsRise s (tickerAdvance s).1 := by
  unfold tickerAdvance
  split
  · split
    · dsimp only
      split
      · exact (setShowing_flagsRise _ s).trans (passEnd_flagsRise ..)
      · exact setShowing_flagsRise _ s
    · exact .refl s
  · exact .refl s

theorem tickerCuts_flagsRise (s : State) : FlagsRise s (tickerCuts s) := by
  unfold tickerCuts
  split
  · split
    · exact returnShowing_flagsRise ..
    · exact .refl s
  · exact .refl s

theorem tickerTaking_flagsRise (s : State) : FlagsRise s (tickerTaking s) := by
  unfold tickerTaking
  split
  · split
    · exact .of_flags rfl
    · exact .refl s
  · exact .refl s

theorem tickerFrameWork_flagsRise (s : State) : FlagsRise s (tickerFrameWork s).1 :=
  ((((tickerCancels_flagsRise s).trans (tickerExpiry_flagsRise _)).trans (tickerAdvance_flagsRise _)).trans
    (tickerCuts_flagsRise _)).trans (tickerTaking_flagsRise _)

/-! ### The step as its parts -/

theorem scanning_of {s : State} (hrun : s.phase = .running) (hscan : s.timing.blanking = false) : s.scanning = true := by
  rw [State.scanning, hrun, hscan]
  rfl

/-- A row named after an event of a FRAME_END is the whole step, in a state in which the event comes about. -/
theorem frameEndWith_due {due : FrameEndEvents → Bool} {b : Bool} {s : State} (hrun : s.phase = .running)
    (hscan : s.timing.blanking = false) (hdue : due (frameEnd b s).2 = true) : frameEndWith due b s = (frameEnd b s).1 := by
  rw [frameEndWith, if_pos (scanning_of hrun hscan)]
  dsimp only
  rw [if_pos hdue]

theorem exec_frameEnd (b : Bool) {s : State} (hrun : s.phase = .running) (hscan : s.timing.blanking = false) :
    exec (.frameEnd b) s = .next (frameEnd b s).1 :=
  congrArg Host.Outcome.next (frameEndWith_due hrun hscan rfl)

/-- The state the rotation unit leaves to the ticker. -/
def rotationWorked (b : Bool) (s : State) : State := (rotationFrameWork (replayFrameWork b s)).1

theorem sourcesWork_eq (b : Bool) (s : State) : sourcesWork b s = (tickerFrameWork (rotationWorked b s)).1 := by
  rw [sourcesWork, rotationWorked]

theorem rotationWorked_showingFrame (b : Bool) (s : State) : ShowingFrame (replayFrameWork b s) (rotationWorked b s) :=
  rotationFrameWork_showingFrame _

theorem tickerFrameWork_roller (s : State) : (tickerFrameWork s).1.roller = s.roller := by
  obtain ⟨_, _, h⟩ := tickerFrameWork_tickerFrame s
  rw [h]

theorem tickerFrameWork_rotation (s : State) : (tickerFrameWork s).1.rotation = s.rotation := by
  obtain ⟨_, _, h⟩ := tickerFrameWork_tickerFrame s
  rw [h]

theorem closeScan_flagsRise (s : State) : FlagsRise s (closeScan s) := .of_flags rfl

theorem ShowingFrame.roller {s t : State} (h : ShowingFrame s t) : t.roller = s.roller := by
  obtain ⟨_, _, _, _, _, rfl⟩ := h
  rfl

theorem frameEnd_roller (b : Bool) (s : State) : (frameEnd b s).1.roller = (replayFrameWork b s).roller := by
  rw [frameEnd_fst, sourcesWork_eq, closeScan_roller, tickerFrameWork_roller, (rotationWorked_showingFrame b s).roller]

theorem frameEnd_rotation (b : Bool) (s : State) : (frameEnd b s).1.rotation = (rotationWorked b s).rotation := by
  rw [frameEnd_fst, sourcesWork_eq, closeScan_rotation, tickerFrameWork_rotation]

theorem frameEnd_ticker (b : Bool) (s : State) : (frameEnd b s).1.ticker = (tickerFrameWork (rotationWorked b s)).1.ticker := by
  rw [frameEnd_fst, sourcesWork_eq, closeScan_ticker]

theorem frameEnd_flagsRise (b : Bool) (s : State) : FlagsRise (rotationWorked b s) (frameEnd b s).1 := by
  rw [frameEnd_fst, sourcesWork_eq]
  exact (tickerFrameWork_flagsRise _).trans (closeScan_flagsRise _)

theorem frameEnd_flagsRise_replay (b : Bool) (s : State) : FlagsRise (replayFrameWork b s) (frameEnd b s).1 :=
  (rotationFrameWork_flagsRise _).trans (frameEnd_flagsRise b s)

end Sys2Proof.Machine
end

section
/-! PROOFS. The cadence: the roller's work at a FRAME_END, and that its arithmetic keeps no rounding (R50-R56, R61). -/

namespace Sys2Proof.Machine

/-! ### No drift (R51) -/

/-- The position with its remainder, in parts of 1/(4,096 Ro) of a frame. -/
def Roller.parts (ro : Nat) (r : Roller) : Nat := (r.pInt * 4096 + r.pFrac) * ro + r.rem

theorem keep_advance_parts (ro : Nat) (r : Roller) : (r.keep (r.advance ro)).parts ro = r.parts ro + r.speed * r.rs * 16 := by
  have hwhole := Nat.div_add_mod (r.pFrac + (r.speed * r.rs * 16 + r.rem) / ro) 4096
  have hrem := Nat.div_add_mod (r.speed * r.rs * 16 + r.rem) ro
  simp only [Roller.parts, Roller.keep, Roller.advance]
  generalize hq : (r.speed * r.rs * 16 + r.rem) / ro = q at *
  generalize hm : (r.speed * r.rs * 16 + r.rem) % ro = m at *
  generalize (r.pFrac + q) / 4096 = w at *
  generalize (r.pFrac + q) % 4096 = v at *
  have hposition : (r.pInt + w) * 4096 + v = r.pInt * 4096 + r.pFrac + q := by omega
  rw [hposition, Nat.add_mul, Nat.mul_comm q ro]
  omega

theorem keep_advance_bounds {ro : Nat} (hro : 0 < ro) (r : Roller) :
    (r.keep (r.advance ro)).pFrac < 4096 ∧ (r.keep (r.advance ro)).rem < ro := ⟨Nat.mod_lt _ (by decide), Nat.mod_lt _ hro⟩

theorem keep_advance_iterate {ro : Nat} (hro : 0 < ro) {r : Roller} (hfrac : r.pFrac < 4096) (hrem : r.rem < ro) (n : Nat) :
    let r' := (fun x : Roller => x.keep (x.advance ro))^[n] r
    r'.parts ro = r.parts ro + n * (r.speed * r.rs * 16) ∧ r'.pFrac < 4096 ∧ r'.rem < ro ∧ r'.speed = r.speed ∧ r'.rs = r.rs ∧
      r'.fIn = r.fIn := by
  induction n with
  | zero => exact ⟨by simp, hfrac, hrem, rfl, rfl, rfl⟩
  | succ n ih =>
    obtain ⟨hparts, -, -, hspeed, hrs, hfIn⟩ := ih
    rw [Function.iterate_succ_apply']
    generalize (fun x : Roller => x.keep (x.advance ro))^[n] r = x at *
    obtain ⟨hfrac', hrem'⟩ := keep_advance_bounds hro x
    refine ⟨?_, hfrac', hrem', hspeed, hrs, hfIn⟩
    rw [keep_advance_parts, hparts, hspeed, hrs, Nat.succ_mul, Nat.add_assoc]

/-! ### Targets (R47, R52) -/

theorem frameNumber_iff {t : Int} {f : Word} : frameNumber t = some f ↔ (f.toNat : Int) = t := by
  refine ⟨fun h => (frameNumber_eq_some h).1, ?_⟩
  rintro rfl
  have hlt := f.isLt
  rw [frameNumber, if_pos (by omega)]
  refine congrArg some (BitVec.eq_of_toNat_eq ?_)
  rw [BitVec.toNat_ofInt]
  omega

theorem presentAt_iff_mem {n : Intake} {t : Int} : n.presentAt t = true ↔ ∃ g ∈ n.frames, (g.toNat : Int) = t := by
  rw [presentAt_iff]
  simp only [frameNumber_iff, present_iff_mem]
  exact exists_congr fun _ => and_comm

theorem presentBeyond_iff {n : Intake} {d : RollDirection} {t : Int} :
    n.presentBeyond d t = true ↔
      (0 ≤ t ∧ t < 4294967296) ∧ ∃ g ∈ n.frames, (d = .forward ∧ t < g.toNat) ∨ (d = .reverse ∧ (g.toNat : Int) < t) := by
  have hnumber : (frameNumber t).isSome = true ↔ 0 ≤ t ∧ t < 4294967296 := by
    unfold frameNumber
    split
    · next h => exact ⟨fun _ => h, fun _ => rfl⟩
    · next h => exact ⟨nofun, fun h' => absurd h' h⟩
  have hbeyond : ∀ g : Word, beyond d t g = true ↔ (d = .forward ∧ t < g.toNat) ∨ (d = .reverse ∧ (g.toNat : Int) < t) := by
    intro g
    cases d <;> simp [beyond]
  rw [Intake.presentBeyond, Bool.and_eq_true, hnumber, List.any_eq_true]
  refine and_congr Iff.rfl ⟨?_, ?_⟩
  · rintro ⟨r, hr, h⟩
    split at h
    · next f hf =>
      refine ⟨f, List.mem_filterMap.mpr ⟨r, hr, hf⟩, (hbeyond f).mp h⟩
    · cases h
  · rintro ⟨g, hg, h⟩
    obtain ⟨r, hr, hf⟩ := List.mem_filterMap.mp hg
    refine ⟨r, hr, ?_⟩
    rw [hf]
    exact (hbeyond g).mpr h

theorem outPassed_iff {r : Roller} {t : Int} :
    r.outPassed t = true ↔
      ∃ o, r.outPoint = some o ∧ ((r.direction = .forward ∧ (o.toNat : Int) < t) ∨ (r.direction = .reverse ∧ t < o.toNat)) := by
  unfold Roller.outPassed
  cases r.outPoint with
  | none => simp
  | some o => cases hd : r.direction <;> simp [passed]

theorem outPassed_eq_false_iff {r : Roller} {t : Int} :
    r.outPassed t = false ↔
      ∀ o ∈ r.outPoint, (r.direction = .forward → t ≤ o.toNat) ∧ (r.direction = .reverse → (o.toNat : Int) ≤ t) := by
  rw [← Bool.not_eq_true, outPassed_iff]
  constructor
  · intro h o ho
    refine ⟨fun hd => ?_, fun hd => ?_⟩
    · exact Int.not_lt.mp fun hlt => h ⟨o, ho, .inl ⟨hd, hlt⟩⟩
    · exact Int.not_lt.mp fun hlt => h ⟨o, ho, .inr ⟨hd, hlt⟩⟩
  · rintro h ⟨o, ho, ⟨hd, hlt⟩ | ⟨hd, hlt⟩⟩
    · exact absurd ((h o ho).1 hd) (Int.not_le.mpr hlt)
    · exact absurd ((h o ho).2 hd) (Int.not_le.mpr hlt)

theorem partner_eq (r : Roller) (t : Int) : r.partner t = if r.direction = .forward then t + 1 else t - 1 := by
  unfold Roller.partner
  cases r.direction <;> rfl

theorem targetOf_eq (r : Roller) (p : Nat) :
    r.targetOf p = if r.direction = .forward then (r.fIn.toNat : Int) + p else (r.fIn.toNat : Int) - p := by
  unfold Roller.targetOf
  cases r.direction <;> rfl

theorem blendPartner_iff {n : Intake} {r : Roller} {t : Int} {w16 : Nat} {g : Word} :
    r.blendPartner n t w16 = some g ↔
      r.blend = true ∧ 0 < w16 ∧ g ∈ n.frames ∧ (g.toNat : Int) = r.partner t ∧ r.outPassed (r.partner t) = false := by
  unfold Roller.blendPartner
  split
  · next h =>
    simp only [Bool.and_eq_true, decide_eq_true_iff, Bool.not_eq_true'] at h
    obtain ⟨⟨⟨hblend, hw⟩, hpresent⟩, hout⟩ := h
    rw [frameNumber_iff]
    constructor
    · intro hg
      obtain ⟨g', hg', hnumber⟩ := presentAt_iff_mem.mp hpresent
      have hsame : g' = g := BitVec.eq_of_toNat_eq (by omega)
      exact ⟨hblend, hw, hsame ▸ hg', hg, hout⟩
    · exact fun h => h.2.2.2.1
  · next h =>
    refine ⟨nofun, ?_⟩
    rintro ⟨hblend, hw, hg, hnumber, hout⟩
    refine absurd ?_ h
    rw [hblend, decide_eq_true hw, presentAt_iff_mem.mpr ⟨g, hg, hnumber⟩, hout]
    rfl

/-! ### The counted step (R51-R55) -/

section
variable {s : State}

theorem countedStep_passed (h : s.roller.outPassed (s.roller.advance s.outputRate).target = true) :
    countedStep s = { s with roller := s.roller.endByMode s.intake .outPoint }.raise .replayEnded := if_pos h

theorem countedStep_present (hout : s.roller.outPassed (s.roller.advance s.outputRate).target = false)
    (h : s.intake.presentAt (s.roller.advance s.outputRate).target = true) :
    countedStep s =
      { s with
        roller := s.roller.stepPresent s.intake (s.roller.advance s.outputRate)
          (BitVec.ofInt 32 (s.roller.advance s.outputRate).target) } := by
  rw [countedStep]
  rw [if_neg (by rw [hout]; exact Bool.false_ne_true), if_pos h]

theorem countedStep_gap (hout : s.roller.outPassed (s.roller.advance s.outputRate).target = false)
    (habsent : s.intake.presentAt (s.roller.advance s.outputRate).target = false)
    (h : s.intake.presentBeyond s.roller.direction (s.roller.advance s.outputRate).target = true) :
    countedStep s = { s with roller := s.roller.stepGap (s.roller.advance s.outputRate) } := by
  rw [countedStep]
  rw [if_neg (by rw [hout]; exact Bool.false_ne_true), if_neg (by rw [habsent]; exact Bool.false_ne_true), if_pos h]

theorem countedStep_none (hout : s.roller.outPassed (s.roller.advance s.outputRate).target = false)
    (habsent : s.intake.presentAt (s.roller.advance s.outputRate).target = false)
    (h : s.intake.presentBeyond s.roller.direction (s.roller.advance s.outputRate).target = false) :
    (s.roller.direction = .forward →
      countedStep s = { s with roller := s.roller.stepStarved }.raiseIf (s.roller.state == RollerState.rolling) .replayStarved) ∧
    (s.roller.direction = .reverse →
      countedStep s = { s with roller := s.roller.endByMode s.intake .frameGone }.raise .replayEnded) := by
  rw [countedStep]
  rw [if_neg (by rw [hout]; exact Bool.false_ne_true), if_neg (by rw [habsent]; exact Bool.false_ne_true),
    if_neg (by rw [h]; exact Bool.false_ne_true)]
  exact ⟨fun hd => by rw [hd], fun hd => by rw [hd]⟩

theorem rollerFrameWork_counted {z : ZoneRecord} (hzone : s.composer.record.zoneOn .replay = some z) (hactive : z.active = true)
    (hlead : z.inLeadIn = false) (hstate : s.roller.state = .rolling ∨ s.roller.state = .starved) :
    rollerFrameWork s = countedStep s := by
  rw [rollerFrameWork, hzone]
  exact if_pos ⟨hstate, hactive, hlead⟩

theorem rollerFrameWork_idleZone (hzone : s.composer.record.zoneOn .replay = none) (hidle : s.roller.state = .idle) :
    rollerFrameWork s = s := by
  rw [rollerFrameWork, hzone]
  exact if_pos hidle

theorem rollerFrameWork_removed (hzone : s.composer.record.zoneOn .replay = none) (hbusy : s.roller.state ≠ .idle) :
    rollerFrameWork s = { s with roller := s.roller.endIdle .zoneRemoved }.raise .replayEnded := by
  rw [rollerFrameWork, hzone]
  exact if_neg hbusy

theorem rollerFrameWork_still {z : ZoneRecord} (hzone : s.composer.record.zoneOn .replay = some z)
    (h : z.active = false ∨ z.inLeadIn = true ∨ s.roller.state = .idle ∨ s.roller.state = .holding) : rollerFrameWork s = s := by
  rw [rollerFrameWork, hzone]
  refine if_neg ?_
  rintro ⟨hstate, hactive, hlead⟩
  obtain h | h | h | h := h
  · exact Bool.noConfusion (h.symm.trans hactive)
  · exact Bool.noConfusion (h.symm.trans hlead)
  · obtain hs | hs := hstate <;> exact nomatch h.symm.trans hs
  · obtain hs | hs := hstate <;> exact nomatch h.symm.trans hs

end

/-! ### The step within a FRAME_END -/

theorem retryIntake_unblocked {s : State} (h : s.intake.blocked = false) : retryIntake s = s := by
  rw [retryIntake, if_neg (by rw [h]; exact Bool.false_ne_true)]

theorem IntakeFrame.flagsRise {s t : State} (h : IntakeFrame s t) : FlagsRise s t := by
  obtain ⟨_, rfl⟩ := h
  exact .of_flags rfl

theorem IntakeFrame.roller {s t : State} (h : IntakeFrame s t) : t.roller = s.roller := by
  obtain ⟨_, rfl⟩ := h
  rfl

/-- Where no retry comes before it, the roller's step is made from the state as it stands. -/
theorem frameEnd_rollerStep {b : Bool} {s : State} (h : s.intake.blocked = false ∨ b = false) :
    (frameEnd b s).1.roller = (rollerFrameWork s).roller ∧ FlagsRise (rollerFrameWork s) (frameEnd b s).1 := by
  have hreplay : (replayFrameWork b s).roller = (rollerFrameWork s).roller ∧ FlagsRise (rollerFrameWork s) (replayFrameWork b s) := by
    cases b with
    | false => exact ⟨(retryIntake_intakeFrame _).roller, (retryIntake_intakeFrame _).flagsRise⟩
    | true =>
      obtain h | h := h
      · rw [replayFrameWork, if_pos rfl, retryIntake_unblocked h]
        exact ⟨rfl, .refl _⟩
      · cases h
  rw [frameEnd_roller]
  exact ⟨hreplay.1, hreplay.2.trans (frameEnd_flagsRise_replay b s)⟩

/-- Where the roller's work does not depend on the intake, the retry may come before it or after. -/
theorem frameEnd_roller_of {b : Bool} {s : State} {r : Roller} (h : ∀ t, IntakeFrame s t → (rollerFrameWork t).roller = r) :
    (frameEnd b s).1.roller = r := by
  rw [frameEnd_roller]
  cases b with
  | false => exact ((retryIntake_intakeFrame _).roller).trans (h s ⟨s.intake, rfl⟩)
  | true => exact h _ (retryIntake_intakeFrame s)

theorem frameEnd_flagged_of {b : Bool} {s : State} {f : Flag} (h : ∀ t, IntakeFrame s t → (rollerFrameWork t).flagged f = true) :
    (frameEnd b s).1.flagged f = true := by
  refine (frameEnd_flagsRise_replay b s).flagged f ?_
  cases b with
  | false => exact (retryIntake_intakeFrame _).flagsRise.flagged f (h s ⟨s.intake, rfl⟩)
  | true => exact h _ (retryIntake_intakeFrame s)

theorem endByMode_release {r : Roller} {n : Intake} {reason : RollEnd} (h : r.endMode = .release) :
    r.endByMode n reason = { r with state := .idle, showPlan := none, lastEnd := reason } := by
  unfold Roller.endByMode
  split
  case h_1 hold => exact nomatch hold.symm.trans h
  case h_2 => rfl

theorem endByMode_hold {r : Roller} {n : Intake} {reason : RollEnd} (h : r.endMode = .hold) :
    r.endByMode n reason =
      { r with
        state := .holding
        showPlan := (match r.outPoint with
          | some o => if o ∈ n.frames then some { a := o, b := none, w16 := 0 }
              else r.showPlan.map fun p => { a := p.a, b := none, w16 := 0 }
          | none => r.showPlan.map fun p => { a := p.a, b := none, w16 := 0 })
        lastEnd := reason } := by
  unfold Roller.endByMode
  split
  case h_2 release => exact nomatch release.symm.trans h
  rw [Roller.holdPlan]
  cases r.outPoint with
  | none => rfl
  | some o =>
    dsimp only
    by_cases ho : n.present o = true
    · rw [if_pos ho, if_pos (present_iff_mem.mp ho)]
    · rw [if_neg ho, if_neg fun h => ho (present_iff_mem.mpr h)]
      rfl

/-- Settles O36, from the counted step's four cases and the exactness of its arithmetic. -/
theorem cadenceStepsTheRoll : Obligations.CadenceStepsTheRoll := by
  unfold Obligations.CadenceStepsTheRoll
  refine ⟨?_, ?_, ?_, ?_⟩
  · intro b s z f hrun hscan hzone hactive hlead hstate hblocked a
    refine ⟨targetOf_eq _ _, fun htarget hmem hout => ?_⟩
    obtain ⟨hroller, -⟩ := frameEnd_rollerStep hblocked
    have hpassed : s.roller.outPassed a.target = false := outPassed_eq_false_iff.mpr hout
    have hpresent : s.intake.presentAt a.target = true := presentAt_iff_mem.mpr ⟨f, hmem, htarget.symm⟩
    rw [rollerFrameWork_counted hzone hactive hlead hstate, countedStep_present hpassed hpresent] at hroller
    have hf : BitVec.ofInt 32 a.target = f := ((frameNumber_eq_some (frameNumber_iff.mpr htarget.symm)).2).symm
    refine ⟨_, exec_frameEnd b hrun hscan, ?_⟩
    rw [hroller]
    refine ⟨rfl, rfl, rfl, rfl, _, rfl, hf, rfl, fun g => ?_⟩
    refine blendPartner_iff.trans (and_congr Iff.rfl (and_congr Iff.rfl (and_congr Iff.rfl ?_)))
    rw [← partner_eq]
    refine and_congr_right fun hg => ?_
    rw [← hg, outPassed_eq_false_iff]
    simp only [Int.ofNat_le]
  · intro b s z hrun hscan hzone hactive hlead hstate hblocked r a passed inNumbers beyond absent alone ended
    obtain ⟨hroller, hflags⟩ := frameEnd_rollerStep hblocked
    rw [rollerFrameWork_counted hzone hactive hlead hstate] at hroller hflags
    have hnotPassed : ¬passed → s.roller.outPassed a.target = false := fun h => Bool.eq_false_iff.mpr fun hp => h (outPassed_iff.mp hp)
    have habsent : absent → s.intake.presentAt a.target = false := by
      refine fun h => Bool.eq_false_iff.mpr fun hp => ?_
      obtain ⟨g, hg, heq⟩ := presentAt_iff_mem.mp hp
      exact h g hg heq
    have hnotBeyond : ¬beyond → s.intake.presentBeyond s.roller.direction a.target = false :=
      fun h => Bool.eq_false_iff.mpr fun hp => h (presentBeyond_iff.mp hp)
    have hended : ∀ reason, countedStep s = { s with roller := s.roller.endByMode s.intake reason }.raise .replayEnded →
        ended reason (frameEnd b s).1 := by
      intro reason heq
      rw [heq] at hroller hflags
      refine ⟨hflags.flagged _ (State.raise_flagged ..), fun hmode => ?_, fun hmode => ?_⟩
      · exact hroller.trans (endByMode_release hmode)
      · exact hroller.trans (endByMode_hold hmode)
    refine ⟨_, exec_frameEnd b hrun hscan, fun hp => ?_, fun hp ha hb => ?_, fun hp ha hb hd => ?_, fun hp ha hb hd => ?_⟩
    · exact hended .outPoint (countedStep_passed (outPassed_iff.mpr hp))
    · rw [hroller, countedStep_gap (hnotPassed hp) (habsent ha) (presentBeyond_iff.mpr hb)]
      rfl
    · have hstep := (countedStep_none (hnotPassed hp) (habsent ha) (hnotBeyond hb)).1 hd
      rw [hstep] at hroller hflags
      refine ⟨?_, fun hrolling => hflags.flagged _ ?_⟩
      · rw [hroller]
        obtain ⟨_, heq⟩ := State.raiseIf_frame (s.roller.state == RollerState.rolling) .replayStarved
          { s with roller := s.roller.stepStarved }
        rw [heq]
        rfl
      · have hstateRolling : s.roller.state = .rolling := hrolling
        rw [State.raiseIf_flagged, hstateRolling]
        simp
    · exact hended .frameGone ((countedStep_none (hnotPassed hp) (habsent ha) (hnotBeyond hb)).2 hd)
  · intro b s hrun hscan
    refine ⟨_, exec_frameEnd b hrun hscan, fun hzone hidle => ?_, fun hzone hbusy => ⟨?_, ?_⟩, fun z hzone hstill => ?_⟩
    · refine frameEnd_roller_of ?_
      rintro t ⟨n, rfl⟩
      rw [rollerFrameWork_idleZone (s := { s with intake := n }) hzone hidle]
    · refine frameEnd_roller_of ?_
      rintro t ⟨n, rfl⟩
      rw [rollerFrameWork_removed (s := { s with intake := n }) hzone hbusy]
      rfl
    · refine frameEnd_flagged_of ?_
      rintro t ⟨n, rfl⟩
      rw [rollerFrameWork_removed (s := { s with intake := n }) hzone hbusy]
      exact State.raise_flagged ..
    · refine frameEnd_roller_of ?_
      rintro t ⟨n, rfl⟩
      rw [rollerFrameWork_still (s := { s with intake := n }) hzone hstill]
  · intro ro n r hro hfrac hrem
    obtain ⟨hparts, hfrac', hrem', hspeed, -, hfIn⟩ := keep_advance_iterate hro hfrac hrem n
    exact ⟨hparts, hfrac', hrem', hspeed, hfIn⟩

end Sys2Proof.Machine
end

section
/-! PROOFS. The commands of the rotation unit (R111-R118, R137): DEFINE_SPOT, WITHDRAW_SPOT, SET_CONTRACT, RESET_TOTALS, SET_ROTATION
and SET_STING, each an operation on the spot table and the sponsor zones. -/

namespace Sys2Proof.Machine

/-! ### DEFINE_SPOT (R110-R112) -/

theorem insertSpot_length (p : Spot) : ∀ l : List Spot, (insertSpot p l).length = l.length + 1
  | [] => rfl
  | q :: rest => by
    unfold insertSpot
    split
    · rfl
    · rw [List.length_cons, insertSpot_length p rest, List.length_cons]

theorem mem_insertSpot {p q : Spot} : ∀ {l : List Spot}, q ∈ insertSpot p l ↔ q = p ∨ q ∈ l
  | [] => by simp [insertSpot]
  | x :: rest => by
    unfold insertSpot
    split
    · exact List.mem_cons
    · rw [List.mem_cons, mem_insertSpot (l := rest), List.mem_cons]
      exact or_left_comm

/-- A spot with a new id put in its place keeps the table in ascending order of id. -/
theorem insertSpot_pairwise {p : Spot} : ∀ {l : List Spot}, (∀ q ∈ l, q.id ≠ p.id) → l.Pairwise (fun x y => x.id < y.id) →
    (insertSpot p l).Pairwise fun x y => x.id < y.id
  | [], _, _ => List.pairwise_singleton ..
  | q :: rest, hnew, hsorted => by
    obtain ⟨hq, hrest⟩ := List.forall_mem_cons.mp hnew
    obtain ⟨hbelow, hsorted'⟩ := List.pairwise_cons.mp hsorted
    unfold insertSpot
    split
    · next hlt =>
      refine List.pairwise_cons.mpr ⟨List.forall_mem_cons.mpr ⟨hlt, fun x hx => ?_⟩, hsorted⟩
      exact Nat.lt_trans hlt (hbelow x hx)
    · next hge =>
      refine List.pairwise_cons.mpr ⟨fun x hx => ?_, insertSpot_pairwise hrest hsorted'⟩
      rcases mem_insertSpot.mp hx with rfl | hx
      · omega
      · exact hbelow x hx

/-- The ranges of Table 7.1, as DEFINE_SPOT checks them. -/
structure SpotInRange (p : SpotPayload) (s : State) : Prop where
  id : p.id ≠ 0
  width_pos : 1 ≤ p.artW.toNat
  width_le : p.artW.toNat ≤ 128
  height_pos : 1 ≤ p.artH.toNat
  height_le : p.artH.toNat ≤ 48
  contract : p.contract.toNat ≤ 50000
  dwell_ge : 30 ≤ p.dwell.toNat
  dwell_le : p.dwell.toNat ≤ 3000
  minVisible : p.minVisible.toNat ≤ 100
  aligned : p.artBase.toNat % 4096 = 0
  below : p.artBase.toNat + p.artW.toNat * p.artH.toNat * 4096 ≤ s.controlBase

theorem byte_toNat_pos {b : Byte} (h : b ≠ 0) : 0 < b.toNat := by
  have hne : b.toNat ≠ 0 := fun h0 => h (BitVec.eq_of_toNat_eq h0)
  omega

/-- With the fields in range the checks of Table 7.2 come down to the last three. -/
theorem spotChecks_inRange {p : SpotPayload} {s : State} (h : SpotInRange p s) (taken : State × Result) :
    checked (spotChecks s p) s taken =
      checked
        [ ((s.rotation.spot p.id.toNat).isSome &&
            (s.rotation.onAir p.id.toNat || (s.rotation.spot p.id.toNat).elim false Spot.withdrawing), .wrongState),
          ((s.rotation.spot p.id.toNat).isSome && wrongArtSize s p.id.toNat p.artW.toNat p.artH.toNat, .sizeMismatch),
          ((s.rotation.spot p.id.toNat).isNone && decide (Config.spotPlaces ≤ s.rotation.spots.length), .full) ] s taken := by
  have hid := byte_toNat_pos h.id
  rw [spotChecks]
  refine (checked_of_rest ?_).trans (checked_of_rest ?_)
  · simp only [Bool.or_eq_false_iff, decide_eq_false_iff_not, Nat.not_lt]
    exact ⟨⟨⟨⟨⟨⟨⟨⟨hid, h.width_pos⟩, h.width_le⟩, h.height_pos⟩, h.height_le⟩, h.contract⟩, h.dwell_ge⟩, h.dwell_le⟩, h.minVisible⟩
  · rw [aligned4K_iff.mpr h.aligned, belowControl_iff.mpr (by rw [imageBytes_eq]; exact h.below)]
    rfl

theorem wrongArtSize_eq_false {s : State} {id w h : Nat}
    (hsize : ∀ z : ZoneIx, (s.rotation.zones[z]).names id = true → (s.composer.live[z]).w.toNat = w ∧ (s.composer.live[z]).h.toNat = h) :
    wrongArtSize s id w h = false := by
  refine List.any_eq_false.mpr fun z _ hz => ?_
  rw [Bool.and_eq_true, Bool.not_eq_true'] at hz
  obtain ⟨hnames, hno⟩ := hz
  exact Bool.noConfusion (((hasSize_iff _ w h).mpr (hsize z hnames)).symm.trans hno)

theorem ruleDefineSpot_new {p : SpotPayload} {c : SpotClass} {s : State} (hclass : spotClass p.spotClass = some c) (h : SpotInRange p s)
    (hnone : s.rotation.spot p.id.toNat = none) (hroom : s.rotation.spots.length < 48) :
    ruleDefineSpot p s =
      ({ s with rotation := { s.rotation with spots := insertSpot (newSpot p c) s.rotation.spots } }, { code := .ok }) := by
  have hfull : decide (Config.spotPlaces ≤ s.rotation.spots.length) = false := decide_eq_false (Nat.not_le.mpr hroom)
  simp only [ruleDefineSpot, hclass, spotChecks_inRange h, hnone]
  refine checked_passed ?_ s _
  rw [hfull]
  exact List.forall_mem_cons.mpr ⟨rfl, List.forall_mem_cons.mpr ⟨rfl, List.forall_mem_cons.mpr ⟨rfl, nofun⟩⟩⟩

theorem ruleDefineSpot_full {p : SpotPayload} {c : SpotClass} {s : State} (hclass : spotClass p.spotClass = some c) (h : SpotInRange p s)
    (hnone : s.rotation.spot p.id.toNat = none) (hfull : 48 ≤ s.rotation.spots.length) : ruleDefineSpot p s = refuse .full s := by
  simp only [ruleDefineSpot, hclass, spotChecks_inRange h, hnone]
  refine (checked_of_rest rfl).trans ((checked_of_rest rfl).trans (checked_of_first ?_))
  exact Bool.and_eq_true_iff.mpr ⟨rfl, decide_eq_true hfull⟩

theorem ruleDefineSpot_old {p : SpotPayload} {c : SpotClass} {s : State} {old : Spot} (hclass : spotClass p.spotClass = some c)
    (h : SpotInRange p s) (hold : s.rotation.spot p.id.toNat = some old) (hstays : old.withdrawing = false)
    (hoff : s.rotation.onAir p.id.toNat = false) (hsize : wrongArtSize s p.id.toNat p.artW.toNat p.artH.toNat = false) :
    ruleDefineSpot p s =
      ({ s with rotation := s.rotation.mapSpot p.id.toNat (Spot.redefined p c) }, { code := .ok, detail := 1 }) := by
  simp only [ruleDefineSpot, hclass, spotChecks_inRange h, hold]
  refine checked_passed ?_ s _
  rw [hoff, hsize, Option.elim_some, hstays]
  exact List.forall_mem_cons.mpr ⟨rfl, List.forall_mem_cons.mpr ⟨rfl, List.forall_mem_cons.mpr ⟨rfl, nofun⟩⟩⟩

/-- Settles O39, from what the spot table answers after an insertion and after a change of one spot. -/
theorem defineSpotCreatesOrRedefines : Obligations.DefineSpotCreatesOrRedefines := by
  unfold Obligations.DefineSpotCreatesOrRedefines
  intro slot p c s hrun hclass hid hw hw' hh hh' hcontract hdwell hdwell' hvisible haligned hbelow fresh
  have hrange : SpotInRange p s := ⟨hid, hw, hw', hh, hh', hcontract, hdwell, hdwell', hvisible, haligned, hbelow⟩
  refine ⟨fun hnone hroom => ?_, fun hnone hfull => answers_of_rule rfl hrun (ruleDefineSpot_full hclass hrange hnone hfull),
    fun old hold hstays hoff hsize => ?_⟩
  · have hnew : ∀ q ∈ s.rotation.spots, q.id ≠ (newSpot p c).id := RotationUnit.forall_id_ne_of_spot_none hnone
    refine ⟨_, answers_of_rule rfl hrun (ruleDefineSpot_new hclass hrange hnone hroom), ?_, fun id hne => ?_,
      insertSpot_pairwise hnew, insertSpot_length _ _, rfl⟩
    · exact (find_id_insertSpot (newSpot p c) p.id.toNat hnew).trans (if_pos rfl)
    · exact (find_id_insertSpot (newSpot p c) id hnew).trans (if_neg hne)
  · have hspot := RotationUnit.mapSpot_spot (id := p.id.toNat) (f := Spot.redefined p c) (fun _ _ => rfl) s.rotation
    refine ⟨_, answers_of_rule rfl hrun (ruleDefineSpot_old hclass hrange hold hstays hoff (wrongArtSize_eq_false hsize)), ?_,
      fun id hne => (hspot id).trans (if_neg hne), rfl⟩
    refine (hspot p.id.toNat).trans ?_
    rw [if_pos rfl, hold, Option.map_some, Spot.redefined, hstays]
    rfl

/-! ### WITHDRAW_SPOT (R113, R117) -/

theorem ruleWithdrawSpot_of {id : Byte} {s : State} {p : Spot} (hp : s.rotation.spot id.toNat = some p) (hstays : p.withdrawing = false) :
    ruleWithdrawSpot id s =
      ({ s with
          rotation :=
            if s.rotation.onAir id.toNat = true then
              (s.rotation.mapZones (SponsorZone.without id.toNat)).mapSpot id.toNat fun x => { x with withdrawing := true }
            else (s.rotation.mapZones (SponsorZone.without id.toNat)).deleteSpot id.toNat },
        { code := .ok, detail := if s.rotation.onAir id.toNat = true then 1 else 0 }) := by
  simp only [ruleWithdrawSpot, hp, hstays]
  cases s.rotation.onAir id.toNat <;> rfl

theorem SponsorZone.without_cursor_unlisted {id : Nat} {x : SponsorZone} (h : id ∉ x.rotation) : (x.without id).cursor = x.cursor := by
  have hno : x.rotation.contains id = false := by simpa using h
  rw [SponsorZone.without, hno]
  rfl

theorem SponsorZone.without_cursor_none {id : Nat} {x : SponsorZone} (h : x.cursor = -1) : (x.without id).cursor = -1 := by
  rw [SponsorZone.without]
  dsimp only
  rw [closedCursor, h]
  rw [if_pos (by decide : (-1 : Int) < 0), ite_self]

theorem SponsorZone.without_cursor_listed {id : Nat} {x : SponsorZone} (hcursor : 0 ≤ x.cursor) (h : id ∈ x.rotation) :
    (x.without id).cursor + 1 = ((x.rotation.take (x.cursor.toNat + 1)).filter fun x => x != id).length := by
  have hyes : x.rotation.contains id = true := by simpa using h
  rw [SponsorZone.without, closedCursor]
  dsimp only
  rw [if_pos hyes, if_neg (by omega)]
  omega

/-- Settles O40, zone by zone and spot by spot. -/
theorem withdrawSpotLeavesNoTrace : Obligations.WithdrawSpotLeavesNoTrace := by
  unfold Obligations.WithdrawSpotLeavesNoTrace
  intro slot id s hrun
  refine ⟨fun hnone => answers_of_rule rfl hrun ?_, fun p hp => ⟨fun hgoing => answers_of_rule rfl hrun ?_, fun hstays => ?_⟩⟩
  · simp only [ruleWithdrawSpot, hnone, refuse, Result.plain]
  · simp only [ruleWithdrawSpot, hp, hgoing, Result.plain, if_true]
  refine ⟨_, answers_of_rule rfl hrun (ruleWithdrawSpot_of hp hstays), fun z => ?_, ?_, fun other hne => ?_, rfl⟩
  · have hzone : ∀ f : Spot → Spot,
        ((if s.rotation.onAir id.toNat = true then
            (s.rotation.mapZones (SponsorZone.without id.toNat)).mapSpot id.toNat f
          else (s.rotation.mapZones (SponsorZone.without id.toNat)).deleteSpot id.toNat : RotationUnit).zones[z]) =
          (s.rotation.zones[z]).without id.toNat := by
      intro f
      have hboth := RotationUnit.mapZones_zones z (SponsorZone.without id.toNat) s.rotation
      split
      · exact hboth
      · exact hboth
    dsimp only
    rw [hzone]
    exact ⟨rfl, rfl, rfl, fun h => if_pos h, fun h => if_neg h, SponsorZone.without_cursor_unlisted,
      SponsorZone.without_cursor_none, SponsorZone.without_cursor_listed⟩
  · dsimp only
    split
    · rw [RotationUnit.mapSpot_spot (f := fun x => { x with withdrawing := true }) (fun _ h => h), if_pos rfl, RotationUnit.mapZones_spot, hp]
      rfl
    · rw [RotationUnit.deleteSpot_spot, if_pos rfl]
  · dsimp only
    split
    · rw [RotationUnit.mapSpot_spot (f := fun x => { x with withdrawing := true }) (fun _ h => h), if_neg hne, RotationUnit.mapZones_spot]
    · rw [RotationUnit.deleteSpot_spot, if_neg hne, RotationUnit.mapZones_spot]

/-! ### SET_CONTRACT and RESET_TOTALS (R114, R137) -/

theorem byte_toNat_beq_zero (b : Byte) : (b.toNat == 0) = (b == 0) := by
  refine Bool.eq_iff_iff.mpr ?_
  rw [beq_iff_eq, beq_iff_eq]
  exact ⟨fun h => BitVec.eq_of_toNat_eq h, fun h => by rw [h]; rfl⟩

/-- The spots that RESET_TOTALS reaches. -/
theorem reach_iff (id : Byte) (other : Nat) : (id == 0 || other == id.toNat) = true ↔ id = 0 ∨ other = id.toNat := by
  rw [Bool.or_eq_true, beq_iff_eq, beq_iff_eq]

/-- The rotation unit with the totals of the spots reached cleared. -/
def RotationUnit.totalsCleared (reach : Nat → Bool) (u : RotationUnit) : RotationUnit :=
  { u.mapZones (SponsorZone.clearedCredit reach) with
    spots := u.spots.map fun p => if reach p.id = true then p.cleared else p }

theorem ruleResetTotals_of {id : Byte} {s : State} (h : id = 0 ∨ s.rotation.spot id.toNat ≠ none) :
    ruleResetTotals id s =
      ({ s with rotation := s.rotation.totalsCleared fun x => id == 0 || x == id.toNat },
        { code := .ok, detail := (s.rotation.spots.filter fun p => id == 0 || p.id == id.toNat).length }) := by
  rw [ruleResetTotals, byte_toNat_beq_zero]
  refine checked_passed (List.forall_mem_singleton.mpr ?_) s _
  rcases h with rfl | h
  · rfl
  · rw [Bool.and_eq_false_iff, Option.isNone_eq_false_iff]
    exact Or.inr (Option.isSome_iff_ne_none.mpr h)

/-- A spot read after RESET_TOTALS. -/
theorem find_id_cleared (reach : Nat → Bool) (i : Nat) (l : List Spot) :
    (l.map fun p => if reach p.id = true then p.cleared else p).find? (fun p => p.id == i) =
      (l.find? fun p => p.id == i).map fun p => if reach i = true then p.cleared else p := by
  have hid : ∀ p : Spot, (if reach p.id = true then p.cleared else p).id = p.id := fun p => by split <;> rfl
  rw [find_id_map hid]
  cases h : l.find? fun p => p.id == i with
  | none => rfl
  | some p =>
    have hp : p.id = i := by simpa using List.find?_some h
    rw [Option.map_some, Option.map_some, hp]

/-- Settles O41, from what the spot table answers after a change of one spot and of every spot reached. -/
theorem contractAndTotalsCommands : Obligations.ContractAndTotalsCommands := by
  unfold Obligations.ContractAndTotalsCommands
  refine ⟨fun slot id seconds s hrun => ⟨fun hnone => ?_, fun hsome hlarge => ?_, fun p hp hle => ?_⟩,
    fun slot id s hrun => ⟨fun hid hnone => ?_, fun hreach => ?_⟩⟩
  · exact answers_of_rule rfl hrun (checked_of_first (by rw [hnone]; rfl))
  · refine answers_of_rule rfl hrun ((checked_of_rest ?_).trans (checked_of_first (decide_eq_true hlarge)))
    rw [Option.isNone_eq_false_iff]
    exact Option.isSome_iff_ne_none.mpr hsome
  · have hspot := RotationUnit.mapSpot_spot (id := id.toNat)
      (f := fun p => { p with contract := seconds.toNat, contractMet := false }) (fun _ h => h) s.rotation
    refine ⟨_, answers_of_rule rfl hrun (checked_passed ?_ s _), ?_, fun other hne => (hspot other).trans (if_neg hne), rfl⟩
    · rw [hp]
      exact List.forall_mem_cons.mpr ⟨rfl, List.forall_mem_cons.mpr ⟨decide_eq_false (Nat.not_lt.mpr hle), nofun⟩⟩
    · refine (hspot id.toNat).trans ?_
      rw [if_pos rfl, hp]
      rfl
  · refine answers_of_rule rfl hrun (checked_of_first ?_)
    have hpos := byte_toNat_pos hid
    rw [hnone, Bool.and_eq_true, bne_iff_ne]
    exact ⟨by omega, rfl⟩
  · refine ⟨{ s with rotation := s.rotation.totalsCleared fun x => id == 0 || x == id.toNat },
      answers_of_rule rfl hrun (ruleResetTotals_of hreach), fun other => ?_, fun z => ?_, rfl⟩
    · refine (find_id_cleared (fun x => id == 0 || x == id.toNat) other s.rotation.spots).trans ?_
      simp only [reach_iff]
      rfl
    · refine (RotationUnit.mapZones_zones z _ _).trans ?_
      simp only [SponsorZone.clearedCredit, reach_iff]

/-! ### SET_ROTATION and SET_STING (R116, R118) -/

theorem payloadTake_eq : ∀ {l : List Byte} {n : Nat}, n ≤ l.length → payloadTake l n = l.take n
  | _, 0, _ => rfl
  | b :: _, _ + 1, h => congrArg (b :: ·) (payloadTake_eq (Nat.le_of_succ_le_succ h))

/-- The spots that a zone's list or sting may name: defined, not withdrawing, of the zone's size. -/
theorem usable_spec {s : State} {z : ZoneIx} {id : Nat}
    (h : ∃ p, s.rotation.spot id = some p ∧ p.withdrawing = false ∧ (s.composer.live[z]).w.toNat = p.artW ∧
      (s.composer.live[z]).h.toNat = p.artH) :
    unusable s id = false ∧ unfitting s z id = false := by
  obtain ⟨p, hp, hstays, hw, hh⟩ := h
  have hsize : (s.composer.live[z]).hasSize p.artW p.artH = true := (hasSize_iff _ _ _).mpr ⟨hw, hh⟩
  rw [unusable, unfitting, hp, Option.elim_some, Option.elim_some, hstays, hsize]
  exact ⟨rfl, rfl⟩

theorem isOn_sponsor {d : ZoneDesc} (hon : d.enable = true) (hsource : d.source = .sponsor) : d.isOn .sponsor = true := by
  rw [ZoneDesc.isOn, hon, hsource]
  rfl

/-- Settles O42: with the checks met both commands are a change of one zone. -/
theorem rotationAndStingStored : Obligations.RotationAndStingStored := by
  unfold Obligations.RotationAndStingStored
  intro slot zone z s hrun hzone hon hsource usable
  have hz := zoneIx_of_val_eq hzone
  have hsponsor := isOn_sponsor hon hsource
  refine ⟨fun count ids hcount hlen husable => ?_, fun id hid => ?_⟩
  · have hlist := payloadTake_eq hlen
    have hrule : ruleSetRotation zone count ids s =
        ({ s with rotation := s.rotation.mapZone z fun x =>
            { x with rotation := (ids.take count.toNat).map BitVec.toNat, cursor := -1 } },
          { code := .ok, detail := count.toNat }) := by
      simp only [ruleSetRotation, hz, hlist]
      refine checked_passed ?_ s _
      have hany : ∀ test : Nat → Bool, (∀ x ∈ ids.take count.toNat, test x.toNat = false) →
          ((ids.take count.toNat).map BitVec.toNat).any test = false := by
        refine fun test htest => List.any_eq_false.mpr fun x hx => ?_
        obtain ⟨b, hb, rfl⟩ := List.mem_map.mp hx
        exact Bool.eq_false_iff.mp (htest b hb)
      rw [hsponsor, hany _ fun x hx => (usable_spec (husable x hx)).1, hany _ fun x hx => (usable_spec (husable x hx)).2,
        decide_eq_false (Nat.not_lt.mpr hcount)]
      simp
    exact ⟨_, answers_of_rule rfl hrun hrule, RotationUnit.mapZone_zones_same _ _ _,
      fun y hy => RotationUnit.mapZone_zones_other hy _ _, rfl⟩
  · have hrule : ruleSetSting zone id s =
        ({ s with rotation := s.rotation.mapZone z fun x =>
            if id.toNat = 0 then { x with sting := none, stingPending := false } else { x with sting := some id.toNat } },
          Result.plain .ok) := by
      simp only [ruleSetSting, hz]
      refine checked_passed ?_ s _
      rcases hid with rfl | husable
      · rw [hsponsor]
        simp
      · obtain ⟨hdefined, hfits⟩ := usable_spec husable
        rw [hsponsor, hdefined, hfits]
        simp
    have hzero : id.toNat = 0 ↔ id = 0 := ⟨fun h => BitVec.eq_of_toNat_eq h, fun h => by rw [h]; rfl⟩
    refine ⟨_, answers_of_rule rfl hrun hrule, ?_, fun y hy => RotationUnit.mapZone_zones_other hy _ _, rfl⟩
    refine (RotationUnit.mapZone_zones_same _ _ _).trans ?_
    simp only [hzero]

end Sys2Proof.Machine
end

section
/-! PROOFS. The message commands (R151-R153, R155): the place an entry takes in waiting order, and what a removal leaves behind. -/

namespace Sys2Proof.Machine

/-! ### The waiting order (R150) -/

/-- An entry that holds the order number next to be issued stands before exactly the entries of lower priority: its own age is 0. -/
theorem before_next_iff {e x : TickerEntry} : e.before e.order x = true ↔ x.priority < e.priority := by
  have hage : orderAge e.order e.order = 0 := by simp [orderAge]
  rw [TickerEntry.before, hage, decide_eq_false (Nat.not_lt_zero _), Bool.and_false, Bool.or_false, decide_eq_true_iff]

theorem insertWaiting_split (e : TickerEntry) : ∀ l : List TickerEntry, ∃ before after, l = before ++ after ∧
    (∀ x ∈ before, e.priority ≤ x.priority) ∧ (∀ y ∈ after.head?, y.priority < e.priority) ∧
    insertWaiting e.order e l = before ++ e :: after
  | [] => ⟨[], [], rfl, nofun, nofun, rfl⟩
  | x :: rest => by
    unfold insertWaiting
    split
    · next hbefore =>
      refine ⟨[], x :: rest, rfl, nofun, fun y hy => ?_, rfl⟩
      cases hy
      exact before_next_iff.mp hbefore
    · next hbehind =>
      obtain ⟨before, after, hl, habove, hbelow, hinsert⟩ := insertWaiting_split e rest
      refine ⟨x :: before, after, congrArg (x :: ·) hl, List.forall_mem_cons.mpr ⟨?_, habove⟩, hbelow, congrArg (x :: ·) hinsert⟩
      exact Nat.le_of_not_lt fun h => hbehind (before_next_iff.mpr h)

/-! ### Removals (R155) -/

theorem noteRemovals_lastRemoved (reason : RemovalReason) : ∀ (l : List TickerEntry) (s : State),
    (noteRemovals reason l s).ticker.lastRemoved = (l.getLast?.map fun e => (e.tag, reason)).or s.ticker.lastRemoved
  | [], _ => rfl
  | [e], s => by
    rw [noteRemovals, noteRemovals, noteRemoval, State_raise_ticker]
    rfl
  | e :: x :: rest, s => by
    rw [noteRemovals, noteRemovals_lastRemoved reason (x :: rest), List.getLast?_cons_cons,
      List.getLast?_eq_getLast_of_ne_nil (List.cons_ne_nil x rest)]
    rfl

theorem noteRemovals_ticker_eq (reason : RemovalReason) (l : List TickerEntry) (s : State) :
    (noteRemovals reason l s).ticker =
      { s.ticker with
        freeChunks := s.ticker.freeChunks + (l.map TickerEntry.chunks).sum
        lastRemoved := (l.getLast?.map fun e => (e.tag, reason)).or s.ticker.lastRemoved } := by
  obtain ⟨x, h⟩ := noteRemovals_ticker reason l s
  have hlast := noteRemovals_lastRemoved reason l s
  rw [h] at hlast ⊢
  exact congrArg (fun y => { s.ticker with
    freeChunks := s.ticker.freeChunks + (l.map TickerEntry.chunks).sum, lastRemoved := y }) hlast

theorem noteRemoval_flagged (e : TickerEntry) (reason : RemovalReason) (s : State) :
    (noteRemoval e reason s).flagged .messageDone = true := by
  rw [noteRemoval, State.raise_flagged]

theorem noteRemovals_flagged {reason : RemovalReason} {l : List TickerEntry} (s : State) (h : l ≠ []) :
    (noteRemovals reason l s).flagged .messageDone = true := by
  obtain ⟨e, rest, rfl⟩ := List.exists_cons_of_ne_nil h
  rw [noteRemovals]
  exact (noteRemovals_flagsRise reason rest (noteRemoval e reason s)).flagged _ (noteRemoval_flagged e reason s)

theorem removeWaiting_ticker (test : TickerEntry → Bool) (reason : RemovalReason) (s : State) :
    (removeWaiting test reason s).ticker =
      { s.ticker with
        waiting := s.ticker.waiting.filter fun e => !test e
        freeChunks := s.ticker.freeChunks + ((s.ticker.waiting.filter test).map TickerEntry.chunks).sum
        lastRemoved := ((s.ticker.waiting.filter test).getLast?.map fun e => (e.tag, reason)).or s.ticker.lastRemoved } :=
  noteRemovals_ticker_eq reason _ _

theorem removeWaiting_flagged {test : TickerEntry → Bool} {reason : RemovalReason} {s : State} {e : TickerEntry}
    (he : e ∈ s.ticker.waiting) (htest : test e = true) : (removeWaiting test reason s).flagged .messageDone = true := by
  rw [removeWaiting]
  exact noteRemovals_flagged _ (List.ne_nil_of_mem (List.mem_filter.mpr ⟨he, htest⟩))

theorem removeWaiting_none {test : TickerEntry → Bool} {reason : RemovalReason} {s : State}
    (h : ∀ e ∈ s.ticker.waiting, test e = false) : removeWaiting test reason s = s := by
  have hout : s.ticker.waiting.filter test = [] := List.filter_eq_nil_iff.mpr fun e he => by rw [h e he]; exact Bool.false_ne_true
  have hin : s.ticker.waiting.filter (fun e => !test e) = s.ticker.waiting :=
    List.filter_eq_self.mpr fun e he => by rw [h e he]; rfl
  rw [removeWaiting, hout, hin]
  rfl

/-- One waiting entry alone removed. -/
theorem removeWaiting_one {test : TickerEntry → Bool} {reason : RemovalReason} {s : State} {before after : List TickerEntry}
    {e : TickerEntry} (hwaiting : s.ticker.waiting = before ++ e :: after) (he : test e = true)
    (hothers : ∀ x ∈ before ++ after, test x = false) :
    removeWaiting test reason s =
      { s with
        ticker := { s.ticker with
          waiting := before ++ after
          freeChunks := s.ticker.freeChunks + e.chunks
          lastRemoved := some (e.tag, reason) } }.raise .messageDone := by
  have hout : ∀ l : List TickerEntry, (∀ x ∈ l, test x = false) → l.filter test = [] := fun l h =>
    List.filter_eq_nil_iff.mpr fun x hx => by rw [h x hx]; exact Bool.false_ne_true
  have hin : ∀ l : List TickerEntry, (∀ x ∈ l, test x = false) → l.filter (fun x => !test x) = l := fun l h =>
    List.filter_eq_self.mpr fun x hx => by rw [h x hx]; rfl
  obtain ⟨hbefore, hafter⟩ := List.forall_mem_append.mp hothers
  have hremoved : s.ticker.waiting.filter test = [e] := by
    rw [hwaiting, List.filter_append, List.filter_cons_of_pos he, hout _ hbefore, hout _ hafter]
    rfl
  have hkept : s.ticker.waiting.filter (fun x => !test x) = before ++ after := by
    rw [hwaiting, List.filter_append, List.filter_cons_of_neg (by rw [he]; exact Bool.false_ne_true), hin _ hbefore, hin _ hafter]
  rw [removeWaiting, hremoved, hkept]
  rfl

/-! ### POST_MESSAGE (R151) -/

theorem holdsTag_iff_mem_tags {t : TickerUnit} {tag : Nat} : t.holdsTag tag = true ↔ tag ∈ t.tags := by
  rw [holdsTag_iff, TickerUnit.tags_eq]

/-- The ranges of Table 9.2, as POST_MESSAGE checks them. -/
structure MessageInRange (p : MessagePayload) : Prop where
  tag : p.tag ≠ 0
  priority : p.priority.toNat ≤ 3
  repeats : p.repeats.toNat ≤ 15
  lifetime : p.lifetime.toNat ≤ 3600
  length_pos : 1 ≤ p.length.toNat
  length_le : p.length.toNat ≤ 200

theorem half_toNat_ne_zero {b : Half} (h : b ≠ 0) : b.toNat ≠ 0 := fun h0 => h (BitVec.eq_of_toNat_eq h0)

/-- POST_MESSAGE with its fields in range: what is held and what is free decide. -/
theorem rulePostMessage_inRange {p : MessagePayload} {only : Bool} {s : State} (honly : onOff p.stoppageOnly = some only)
    (h : MessageInRange p) :
    rulePostMessage p s =
      if s.ticker.holdsTag p.tag.toNat = true then refuse .alreadyExists s
      else if Config.messagePlaces ≤ s.ticker.heldCount then (s, { code := .full, detail := 1 })
      else if s.ticker.freeChunks < chunksFor p.length.toNat then (s, { code := .full, detail := 2 })
      else
        ({ s with
            ticker := { s.ticker with freeChunks := s.ticker.freeChunks - chunksFor p.length.toNat }.joinWaiting
              (postedEntry s.clock.venue p only) },
          { code := .ok, detail := s.ticker.freeChunks - chunksFor p.length.toNat }) := by
  have hrange : ¬(p.tag.toNat = 0 ∨ 3 < p.priority.toNat ∨ 15 < p.repeats.toNat ∨ 3600 < p.lifetime.toNat ∨ p.length.toNat = 0 ∨
      200 < p.length.toNat) := by
    have htag := half_toNat_ne_zero h.tag
    obtain ⟨-, hpriority, hrepeats, hlifetime, hlength, hlength'⟩ := h
    omega
  simp only [rulePostMessage, honly, if_neg hrange]

theorem expiryOf_eq (venue : Word) (lifetime : Half) :
    expiryOf venue lifetime.toNat = if lifetime = 0 then none else some (venue + BitVec.ofNat 32 (lifetime.toNat * 1000)) := by
  have hzero : lifetime.toNat = 0 ↔ lifetime = 0 := ⟨fun h => BitVec.eq_of_toNat_eq h, fun h => by rw [h]; rfl⟩
  simp only [expiryOf, hzero]

/-- Settles O43, from the three refusals in order and the place an entry takes. -/
theorem postMessageJoinsWaiting : Obligations.PostMessageJoinsWaiting := by
  unfold Obligations.PostMessageJoinsWaiting
  intro slot p only s hrun honly htag hpriority hrepeats hlifetime hlength hlength' htext chunks
  have hrule := rulePostMessage_inRange (s := s) honly ⟨htag, hpriority, hrepeats, hlifetime, hlength, hlength'⟩
  have hnew : p.tag.toNat ∉ s.ticker.tags → ¬s.ticker.holdsTag p.tag.toNat = true := fun h hheld => h (holdsTag_iff_mem_tags.mp hheld)
  refine ⟨fun hheld => answers_of_rule rfl hrun (hrule.trans (if_pos (holdsTag_iff_mem_tags.mpr hheld))),
    fun hfree hplaces => answers_of_rule rfl hrun (hrule.trans ((if_neg (hnew hfree)).trans (if_pos hplaces))),
    fun hfree hplace hchunks => ?_, fun hfree hplace hchunks => ?_⟩
  · exact answers_of_rule rfl hrun (hrule.trans ((if_neg (hnew hfree)).trans ((if_neg (Nat.not_le.mpr hplace)).trans (if_pos hchunks))))
  · obtain ⟨before, after, hwaiting, habove, hbelow, hinsert⟩ :=
      insertWaiting_split { postedEntry s.clock.venue p only with order := s.ticker.nextOrder } s.ticker.waiting
    refine ⟨_, before, after, answers_of_rule rfl hrun (hrule.trans ((if_neg (hnew hfree)).trans
      ((if_neg (Nat.not_le.mpr hplace)).trans (if_neg (Nat.not_lt.mpr hchunks))))), hwaiting, habove, hbelow, ?_⟩
    rw [TickerUnit.joinWaiting]
    dsimp only
    rw [hinsert, postedEntry, expiryOf_eq, payloadTake_eq htext]
    rfl

/-! ### CANCEL_MESSAGE and CLEAR_MESSAGES (R152, R153) -/

theorem beq_tag_iff {e : TickerEntry} {tag : Nat} : (e.tag == tag) = false ↔ e.tag ≠ tag := by
  rw [Bool.eq_false_iff, ne_eq, beq_iff_eq]

theorem any_tag_iff {l : List TickerEntry} {tag : Nat} : (l.any fun e => e.tag == tag) = true ↔ tag ∈ l.map TickerEntry.tag := by
  simp [List.any_eq_true, List.mem_map]

/-- Settles O44: a removal of waiting entries or a mark on the showing one. -/
theorem cancelAndClearMessages : Obligations.CancelAndClearMessages := by
  unfold Obligations.CancelAndClearMessages
  refine fun slot s hrun => ⟨fun tag hnone => answers_of_rule rfl hrun ?_,
    fun tag before after e htag hwaiting he hothers => answers_of_rule rfl hrun ?_,
    fun tag x htag hshow hx hothers => answers_of_rule rfl hrun ?_, ?_⟩
  · rw [ruleCancelMessage]
    rcases hnone with rfl | hnone
    · rfl
    · have hnotWaiting : ¬(s.ticker.waiting.any fun e => e.tag == tag.toNat) = true := fun h =>
        hnone (List.mem_append_left _ (any_tag_iff.mp h))
      rw [if_neg hnotWaiting]
      split
      · rfl
      · split
        · next x hshow =>
          rw [if_neg fun htag => hnone (by rw [TickerUnit.tags, hshow, ← htag]; simp)]
          rfl
        · rfl
  · have hpresent : (s.ticker.waiting.any fun e => e.tag == tag.toNat) = true :=
      List.any_eq_true.mpr ⟨e, by rw [hwaiting]; simp, beq_iff_eq.mpr he⟩
    rw [ruleCancelMessage, if_neg (half_toNat_ne_zero htag), if_pos hpresent,
      removeWaiting_one (test := fun e => e.tag == tag.toNat) hwaiting (beq_iff_eq.mpr he) fun x hx => beq_tag_iff.mpr (hothers x hx), he]
    rfl
  · have hnotWaiting : ¬(s.ticker.waiting.any fun e => e.tag == tag.toNat) = true := fun h => by
      obtain ⟨e, hmem, htagged⟩ := List.any_eq_true.mp h
      exact hothers e hmem (beq_iff_eq.mp htagged)
    rw [ruleCancelMessage, if_neg (half_toNat_ne_zero htag), if_neg hnotWaiting, hshow]
    dsimp only
    rw [if_pos hx]
    rfl
  · have hticker := removeWaiting_ticker (fun _ => true) .cleared s
    have hout : s.ticker.waiting.filter (fun _ => true) = s.ticker.waiting := List.filter_eq_self.mpr fun _ _ => rfl
    have hin : s.ticker.waiting.filter (fun _ => !true) = [] := List.filter_eq_nil_iff.mpr fun _ _ => Bool.false_ne_true
    rw [hout, hin] at hticker
    obtain ⟨k, f, hframe⟩ := removeWaiting_tickerFrame (fun _ => true) .cleared s
    have hcount : s.ticker.heldCount = s.ticker.tags.length := by
      rw [TickerUnit.heldCount_eq, TickerUnit.tags_eq, List.length_map]
    have hshowing : (removeWaiting (fun _ => true) .cleared s).ticker.showing = s.ticker.showing := by rw [hticker]
    refine ⟨(ruleClearMessages s).1, answers_of_rule rfl hrun ?_, ?_, ?_, ?_, ?_, ?_, ?_, fun hnone => ?_, fun e he => ?_, ?_⟩
    · rw [← hcount]
      rfl
    all_goals rw [ruleClearMessages]; dsimp only [setShowing]
    · rw [hticker]
    · rw [hshowing]
    · rw [hticker]
    · rw [hticker]
    · rw [hticker]
    · rw [hticker]
    · have hsame := removeWaiting_none (test := fun _ => true) (reason := .cleared) (s := s) (by rw [hnone]; exact nofun)
      rw [hsame]
      exact ⟨rfl, rfl⟩
    · rw [hticker, he]
      refine ⟨rfl, ?_⟩
      exact removeWaiting_flagged (test := fun _ => true) (reason := .cleared) (List.mem_of_getLast? he) rfl
    · rw [hframe]

end Sys2Proof.Machine
end

section
/-! PROOFS. The ticker's frame work at a FRAME_END (R155-R160): each step by what it meets on the wall, and what the steps together leave
waiting, showing and free. -/

namespace Sys2Proof.Machine

/-! ### What the frame work reads -/

theorem TickerFrame.clock {s t : State} (h : TickerFrame s t) : t.clock = s.clock := by
  obtain ⟨_, _, rfl⟩ := h
  rfl

theorem TickerFrame.composer {s t : State} (h : TickerFrame s t) : t.composer = s.composer := by
  obtain ⟨_, _, rfl⟩ := h
  rfl

theorem TickerFrame.tickerZone {s t : State} (h : TickerFrame s t) : t.tickerZone = s.tickerZone := by
  obtain ⟨_, _, rfl⟩ := h
  rfl

theorem rotationWorked_ticker (b : Bool) (s : State) : (rotationWorked b s).ticker = s.ticker := by
  obtain ⟨_, _, _, _, _, h⟩ := rotationWorked_showingFrame b s
  obtain ⟨_, _, _, h'⟩ := replayFrameWork_replayFrame b s
  rw [h, h']

theorem rotationWorked_clock (b : Bool) (s : State) : (rotationWorked b s).clock = s.clock := by
  obtain ⟨_, _, _, _, _, h⟩ := rotationWorked_showingFrame b s
  obtain ⟨_, _, _, h'⟩ := replayFrameWork_replayFrame b s
  rw [h, h']

theorem rotationWorked_composer (b : Bool) (s : State) : (rotationWorked b s).composer = s.composer := by
  obtain ⟨_, _, _, _, _, h⟩ := rotationWorked_showingFrame b s
  obtain ⟨_, _, _, h'⟩ := replayFrameWork_replayFrame b s
  rw [h, h']

theorem rotationWorked_tickerZone (b : Bool) (s : State) : (rotationWorked b s).tickerZone = s.tickerZone := by
  rw [State.tickerZone, rotationWorked_composer, State.tickerZone]

/-! ### Step 1: cancels and expiry (R156, R157) -/

theorem tickerCancels_none {s : State} (h : ∀ x, s.ticker.showing = some x → x.cancel = none) : tickerCancels s = s := by
  unfold tickerCancels
  split
  · next x hx => rw [h x hx]
  · rfl

theorem tickerCancels_some {s : State} {x : ShowingEntry} {c : CancelReason} (hx : s.ticker.showing = some x) (hc : x.cancel = some c) :
    tickerCancels s = noteRemoval x.entry c.removal (setShowing none s) := by
  rw [tickerCancels, hx]
  dsimp only
  rw [hc]
  dsimp only
  rw [removeShowing, hx]

theorem expireShowing_none {s : State} (h : s.ticker.showing = none) : expireShowing s = s := by
  rw [expireShowing, h]

theorem expireShowing_fresh {s : State} {x : ShowingEntry} (h : s.ticker.showing = some x) (hpass : x.lastPass = false)
    (hfresh : x.entry.expired s.clock.venue = false) : expireShowing s = s := by
  have hsame : setShowing (some { x with lastPass := false }) s = s := by rw [← hpass, setShowing, ← h]
  rw [expireShowing, h]
  dsimp only
  rw [hpass, hfresh, Bool.false_or, Bool.false_and, if_neg Bool.false_ne_true, hsame]

theorem marked_of {x : ShowingEntry} {venue : Word} (h : x.lastPass = true ∨ x.entry.expired venue = true) :
    (x.lastPass || x.entry.expired venue) = true := Bool.or_eq_true_iff.mpr h

theorem expireShowing_marked {s : State} {x : ShowingEntry} {z : ZoneRecord} (h : s.ticker.showing = some x)
    (hmarked : x.lastPass = true ∨ x.entry.expired s.clock.venue = true) (hzone : s.tickerZone = some z) :
    expireShowing s = setShowing (some { x with lastPass := true }) s := by
  rw [expireShowing, h]
  dsimp only
  rw [marked_of hmarked, hzone]
  rfl

theorem expireShowing_removed {s : State} {x : ShowingEntry} (h : s.ticker.showing = some x)
    (hmarked : x.lastPass = true ∨ x.entry.expired s.clock.venue = true) (hzone : s.tickerZone = none) :
    expireShowing s = noteRemoval x.entry .expired (setShowing none s) := by
  rw [expireShowing, h]
  dsimp only
  rw [marked_of hmarked, hzone]
  rfl

/-- The waiting entries after the expiry step, whatever is showing. -/
theorem tickerExpiry_waiting (s : State) :
    (tickerExpiry s).ticker.waiting = s.ticker.waiting.filter fun e => !e.expired s.clock.venue := by
  have hremoved := removeWaiting_ticker (fun e => e.expired s.clock.venue) .expired s
  rw [tickerExpiry]
  generalize removeWaiting (fun e => e.expired s.clock.venue) .expired s = t at hremoved ⊢
  have hkept : (expireShowing t).ticker.waiting = t.ticker.waiting := by
    unfold expireShowing
    split
    · dsimp only
      split
      · rw [removeShowing]
        rfl
      · rfl
    · rfl
  rw [hkept, hremoved]

/-! ### Step 2: the advance (R158) -/

theorem tickerAdvance_none {s : State} (h : s.ticker.showing = none) : tickerAdvance s = (s, false) := by
  rw [tickerAdvance, h]

theorem tickerAdvance_still {s : State} (h : ¬∃ z, s.tickerZone = some z ∧ crawlZone s.composer.record z = true) :
    tickerAdvance s = (s, false) := by
  unfold tickerAdvance
  split
  · next x z hx hz => rw [if_neg fun hcrawl => h ⟨z, hz, hcrawl⟩]
  · rfl

theorem passOver_iff (x : ShowingEntry) : x.passOver = true ↔ x.position + 16 * (x.entry.text.length : Int) ≤ 0 := by
  rw [ShowingEntry.passOver, decide_eq_true_iff]

section Advance

variable {s : State} {x : ShowingEntry} {z : ZoneRecord}

theorem tickerAdvance_moves (hx : s.ticker.showing = some x) (hz : s.tickerZone = some z) (hcrawl : crawlZone s.composer.record z = true)
    (h : 0 < x.position - s.ticker.speed + 16 * (x.entry.text.length : Int)) :
    tickerAdvance s = (setShowing (some { x with position := x.position - s.ticker.speed }) s, false) := by
  rw [tickerAdvance, hx, hz]
  dsimp only
  rw [if_pos hcrawl, if_neg]
  rw [passOver_iff]
  dsimp only
  omega

theorem tickerAdvance_passes (hx : s.ticker.showing = some x) (hz : s.tickerZone = some z)
    (hcrawl : crawlZone s.composer.record z = true) (h : x.position - s.ticker.speed + 16 * (x.entry.text.length : Int) ≤ 0) :
    tickerAdvance s =
      (passEnd { x with position := x.position - s.ticker.speed } z.desc.w.toNat
        (setShowing (some { x with position := x.position - s.ticker.speed }) s), true) := by
  rw [tickerAdvance, hx, hz]
  dsimp only
  rw [if_pos hcrawl, if_pos ((passOver_iff _).mpr h)]

/-- The last repeat: the entry is removed with DONE. -/
theorem passEnd_done {w : Nat} (hlast : x.entry.repeats = 1) :
    passEnd x w s = noteRemoval x.entry.passCounted .done (setShowing none s) := by
  rw [passEnd]
  dsimp only
  rw [if_pos ⟨by omega, by rw [TickerEntry.passCounted, hlast]⟩]
  rfl

theorem not_lastRepeat (h : x.entry.repeats ≠ 1) : ¬(x.entry.repeats ≠ 0 ∧ x.entry.passCounted.repeats = 0) := by
  rw [TickerEntry.passCounted]
  dsimp only
  omega

theorem passEnd_expired {w : Nat} (hmore : x.entry.repeats ≠ 1) (hpass : x.lastPass = true) :
    passEnd x w s = noteRemoval x.entry.passCounted .expired (setShowing none s) := by
  rw [passEnd]
  dsimp only
  rw [if_neg (not_lastRepeat hmore), if_pos hpass]
  rfl

theorem passEnd_returns {w : Nat} (hmore : x.entry.repeats ≠ 1) (hpass : x.lastPass = false)
    (hturn : (s.ticker.waiting.any fun e => e.eligible s.clock.game.state && decide (x.entry.priority ≤ e.priority)) = true) :
    passEnd x w s =
      { s with ticker := { s.ticker with showing := none }.joinWaiting x.entry.passCounted } := by
  rw [passEnd]
  dsimp only
  rw [if_neg (not_lastRepeat hmore), if_neg (by rw [hpass]; exact Bool.false_ne_true), if_pos hturn]
  rfl

theorem passEnd_again {w : Nat} (hmore : x.entry.repeats ≠ 1) (hpass : x.lastPass = false)
    (hturn : (s.ticker.waiting.any fun e => e.eligible s.clock.game.state && decide (x.entry.priority ≤ e.priority)) = false) :
    passEnd x w s =
      setShowing (some { x with entry := x.entry.passCounted, position := 32 * (w : Int) + s.ticker.gap }) s := by
  rw [passEnd]
  dsimp only
  rw [if_neg (not_lastRepeat hmore), if_neg (by rw [hpass]; exact Bool.false_ne_true),
    if_neg (by rw [hturn]; exact Bool.false_ne_true)]
  rfl

end Advance

/-! ### Steps 3 and 4: cuts and taking (R159, R160) -/

theorem tickerCuts_none {s : State} (h : s.ticker.showing = none) : tickerCuts s = s := by
  rw [tickerCuts, h]

/-- No waiting entry of priority 3 may show. -/
theorem urgentWaiting_eq_false {s : State} (h : ∀ e ∈ s.ticker.waiting, e.priority = 3 → e.eligible s.clock.game.state = false) :
    urgentWaiting s = false := by
  refine List.any_eq_false.mpr fun e he htest => ?_
  rw [Bool.and_eq_true, beq_iff_eq] at htest
  exact Bool.noConfusion ((h e he htest.1).symm.trans htest.2)

theorem tickerCuts_stays {s : State} {x : ShowingEntry} (hx : s.ticker.showing = some x)
    (hmay : x.entry.eligible s.clock.game.state = true)
    (hurgent : 3 ≤ x.entry.priority ∨ ∀ e ∈ s.ticker.waiting, e.priority = 3 → e.eligible s.clock.game.state = false) :
    tickerCuts s = s := by
  rw [tickerCuts, hx]
  dsimp only
  rw [hmay, if_neg]
  rw [Bool.not_true, Bool.false_or, Bool.and_eq_true, decide_eq_true_iff]
  rintro ⟨hlow, hwaits⟩
  rcases hurgent with h | h
  · omega
  · exact Bool.noConfusion ((urgentWaiting_eq_false h).symm.trans hwaits)

theorem tickerTaking_showing {s : State} {x : ShowingEntry} (hx : s.ticker.showing = some x) : tickerTaking s = s := by
  rw [tickerTaking, hx]

theorem tickerTaking_noZone {s : State} (hz : s.tickerZone = none) : tickerTaking s = s := by
  rw [tickerTaking, hz]
  cases s.ticker.showing <;> rfl

theorem tickerTaking_empty {s : State} (h : s.ticker.waiting = []) : tickerTaking s = s := by
  unfold tickerTaking
  split
  · rw [h]
    rfl
  · rfl

/-- What the taking step may do with nothing showing: an entry leaves the waiting list for the wall, or nothing. -/
structure Taken (k k' : TickerUnit) : Prop where
  frame : k' = { k with waiting := k'.waiting, showing := k'.showing }
  waiting : ∀ e ∈ k'.waiting, e ∈ k.waiting
  kept : ∀ e ∈ k.waiting, e ∈ k'.waiting ∨ ∃ y, k'.showing = some y ∧ y.entry = e
  showing : ∀ y, k'.showing = some y → y.entry ∈ k.waiting
  chunks : k'.heldChunks = k.heldChunks

theorem Taken.refl {k : TickerUnit} (h : k.showing = none) : Taken k k where
  frame := rfl
  waiting _ he := he
  kept _ he := .inl he
  showing _ hy := nomatch h.symm.trans hy
  chunks := rfl

theorem sum_map_erase {l : List TickerEntry} {e : TickerEntry} (he : e ∈ l) :
    ((l.erase e).map TickerEntry.chunks).sum + e.chunks = (l.map TickerEntry.chunks).sum := by
  have hperm := ((List.perm_cons_erase he).map TickerEntry.chunks).sum_eq
  rw [List.map_cons, List.sum_cons] at hperm
  omega

theorem tickerTaking_taken {s : State} (hnone : s.ticker.showing = none) : Taken s.ticker (tickerTaking s).ticker := by
  unfold tickerTaking
  split
  · next z _ hz =>
    split
    · next e he =>
      have hmem := List.mem_of_find?_eq_some he
      refine ⟨rfl, fun x hx => List.mem_of_mem_erase hx, fun x hx => ?_, fun y hy => ?_, ?_⟩
      · by_cases hxe : x = e
        · exact .inr ⟨_, rfl, hxe.symm⟩
        · exact .inl ((List.mem_erase_of_ne hxe).mpr hx)
      · cases hy
        exact hmem
      · rw [TickerUnit.heldChunks, TickerUnit.heldChunks, hnone]
        exact sum_map_erase hmem
    · exact .refl hnone
  · exact .refl hnone

end Sys2Proof.Machine
end

section
/-! PROOFS. What the ticker's frame work leaves of the entries (R155-R160): expiries and pass ends as whole steps. -/

namespace Sys2Proof.Machine

/-! ### The ticker's part of a FRAME_END -/

theorem tickerFrameWork_fst (s : State) :
    (tickerFrameWork s).1 = tickerTaking (tickerCuts (tickerAdvance (tickerExpiry (tickerCancels s))).1) := by
  rw [tickerFrameWork]

theorem tickerFrameWork_flagged_cancels {s : State} {f : Flag} (h : (tickerCancels s).flagged f = true) :
    (tickerFrameWork s).1.flagged f = true := by
  rw [tickerFrameWork_fst]
  exact ((((tickerExpiry_flagsRise _).trans (tickerAdvance_flagsRise _)).trans (tickerCuts_flagsRise _)).trans
    (tickerTaking_flagsRise _)).flagged f h

theorem tickerFrameWork_flagged_expiry {s : State} {f : Flag} (h : (tickerExpiry (tickerCancels s)).flagged f = true) :
    (tickerFrameWork s).1.flagged f = true := by
  rw [tickerFrameWork_fst]
  exact (((tickerAdvance_flagsRise _).trans (tickerCuts_flagsRise _)).trans (tickerTaking_flagsRise _)).flagged f h

theorem tickerFrameWork_flagged_advance {s : State} {f : Flag}
    (h : (tickerAdvance (tickerExpiry (tickerCancels s))).1.flagged f = true) : (tickerFrameWork s).1.flagged f = true := by
  rw [tickerFrameWork_fst]
  exact ((tickerCuts_flagsRise _).trans (tickerTaking_flagsRise _)).flagged f h

/-- What the ticker's frame work reads of a state. -/
structure TickerReads (t : State) (k : TickerUnit) (v : Word) (g : GameState) (r : FrameRecord) : Prop where
  ticker : k = t.ticker
  venue : v = t.clock.venue
  game : g = t.clock.game.state
  record : r = t.composer.record

/-- A FRAME_END in the ticker unit: the ticker's frame work in a state that reads as the state before the step does. -/
structure TickerStep (b : Bool) (s t : State) : Prop where
  reads : TickerReads t s.ticker s.clock.venue s.clock.game.state s.composer.record
  ticker : (frameEnd b s).1.ticker = (tickerFrameWork t).1.ticker
  flagged : ∀ f, (tickerFrameWork t).1.flagged f = true → (frameEnd b s).1.flagged f = true
  events : (frameEnd b s).2.ticker = (tickerFrameWork t).2

theorem tickerStep_rotationWorked (b : Bool) (s : State) : TickerStep b s (rotationWorked b s) where
  reads :=
    { ticker := (rotationWorked_ticker b s).symm
      venue := by rw [rotationWorked_clock]
      game := by rw [rotationWorked_clock]
      record := by rw [rotationWorked_composer] }
  ticker := frameEnd_ticker b s
  flagged f h := by
    rw [frameEnd_fst, sourcesWork_eq]
    exact (closeScan_flagsRise _).flagged f h
  events := by rw [frameEnd, rotationWorked]

section Rows

variable {b : Bool} {s t : State}

theorem exec_messageExpiry (hrun : s.phase = .running) (hscan : s.timing.blanking = false) (h : TickerStep b s t)
    (hdue : expiryDue (tickerCancels t) = true) : exec (.messageExpiry b) s = .next (frameEnd b s).1 := by
  refine congrArg Host.Outcome.next (frameEndWith_due hrun hscan ?_)
  rw [h.events, tickerFrameWork]
  exact hdue

theorem exec_passEnd (hrun : s.phase = .running) (hscan : s.timing.blanking = false) (h : TickerStep b s t)
    (hdue : (tickerAdvance (tickerExpiry (tickerCancels t))).2 = true) : exec (.passEnd b) s = .next (frameEnd b s).1 := by
  refine congrArg Host.Outcome.next (frameEndWith_due hrun hscan ?_)
  rw [h.events, tickerFrameWork]
  exact hdue

end Rows

/-! ### Entries kept and chunks conserved -/

/-- What stands between the steps: the entries `W` all wait, what waits besides is in `back`, as is what a return of the showing entry
would put there, and the chunks free and held number `total`. -/
structure Conserved (W : List TickerEntry) (back : TickerEntry → Prop) (total : Nat) (k : TickerUnit) : Prop where
  waiting : ∀ e ∈ k.waiting, e ∈ W ∨ back e
  kept : ∀ e ∈ W, e ∈ k.waiting
  showing : ∀ y, k.showing = some y → back { y.entry with order := k.nextOrder }
  total : k.freeChunks + k.heldChunks = total

section Conserved

variable {W : List TickerEntry} {back : TickerEntry → Prop} {total : Nat} {k : TickerUnit} {x : ShowingEntry}

theorem heldChunks_showing (h : k.showing = some x) :
    k.heldChunks = (k.waiting.map TickerEntry.chunks).sum + x.entry.chunks := by
  rw [TickerUnit.heldChunks, h, Option.elim_some]

theorem heldChunks_none (h : k.showing = none) : k.heldChunks = (k.waiting.map TickerEntry.chunks).sum := by
  rw [TickerUnit.heldChunks, h, Option.elim_none, Nat.add_zero]

theorem Conserved.removed (h : Conserved W back total k) (hx : k.showing = some x) {c : Nat} (hc : c = x.entry.chunks)
    (last : Option (Nat × RemovalReason)) :
    Conserved W back total { k with showing := none, freeChunks := k.freeChunks + c, lastRemoved := last } where
  waiting := h.waiting
  kept := h.kept
  showing _ hy := nomatch hy
  total := by
    have htotal := h.total
    rw [heldChunks_showing hx] at htotal
    rw [heldChunks_none rfl]
    dsimp only
    omega

theorem Conserved.returned (h : Conserved W back total k) (hx : k.showing = some x) {e : TickerEntry}
    (hc : e.chunks = x.entry.chunks) (hback : back { e with order := k.nextOrder }) :
    Conserved W back total ({ k with showing := none }.joinWaiting e) where
  waiting y hy := by
    rw [joinWaiting_waiting, (insertWaiting_perm _ _ _).mem_iff, List.mem_cons] at hy
    rcases hy with rfl | hy
    · exact .inr hback
    · exact h.waiting y hy
  kept y hy := by
    rw [joinWaiting_waiting, (insertWaiting_perm _ _ _).mem_iff]
    exact List.mem_cons_of_mem _ (h.kept y hy)
  showing _ hy := nomatch hy
  total := by
    have htotal := h.total
    have hsum := ((insertWaiting_perm k.nextOrder { e with order := k.nextOrder } k.waiting).map TickerEntry.chunks).sum_eq
    rw [List.map_cons, List.sum_cons] at hsum
    rw [heldChunks_showing hx] at htotal
    rw [heldChunks_none rfl, joinWaiting_waiting, hsum]
    have hsame : TickerEntry.chunks { e with order := k.nextOrder } = e.chunks := rfl
    rw [hsame, hc]
    rw [← htotal, Nat.add_comm x.entry.chunks]
    rfl

theorem Conserved.stays (h : Conserved W back total k) (hx : k.showing = some x) {y : ShowingEntry}
    (hc : y.entry.chunks = x.entry.chunks) (hback : back { y.entry with order := k.nextOrder }) :
    Conserved W back total { k with showing := some y } where
  waiting := h.waiting
  kept := h.kept
  showing _ hy := by
    cases hy
    exact hback
  total := by
    have htotal := h.total
    rw [heldChunks_showing hx] at htotal
    rw [heldChunks_showing rfl, hc]
    exact htotal

theorem passEnd_conserved {w : Nat} {s : State} (h : Conserved W back total s.ticker) (hx : s.ticker.showing = some x)
    (hback : back { x.entry.passCounted with order := s.ticker.nextOrder }) : Conserved W back total (passEnd x w s).ticker := by
  by_cases hlast : x.entry.repeats = 1
  · rw [passEnd_done hlast, noteRemoval, State_raise_ticker]
    exact h.removed hx rfl _
  · cases hpass : x.lastPass with
    | true =>
      rw [passEnd_expired hlast hpass, noteRemoval, State_raise_ticker]
      exact h.removed hx rfl _
    | false =>
      cases hturn : s.ticker.waiting.any fun e => e.eligible s.clock.game.state && decide (x.entry.priority ≤ e.priority) with
      | true =>
        rw [passEnd_returns hlast hpass hturn]
        exact h.returned hx rfl hback
      | false =>
        rw [passEnd_again hlast hpass hturn]
        exact h.stays hx rfl hback

theorem tickerAdvance_conserved {s : State} (h : Conserved W back total s.ticker)
    (hback : ∀ y, s.ticker.showing = some y → back { y.entry.passCounted with order := s.ticker.nextOrder }) :
    Conserved W back total (tickerAdvance s).1.ticker := by
  cases hx : s.ticker.showing with
  | none =>
    rw [tickerAdvance_none hx]
    exact h
  | some x =>
    by_cases hcrawls : ∃ z, s.tickerZone = some z ∧ crawlZone s.composer.record z = true
    · obtain ⟨z, hz, hcrawl⟩ := hcrawls
      have hmoved : Conserved W back total (setShowing (some { x with position := x.position - s.ticker.speed }) s).ticker :=
        h.stays hx rfl (h.showing x hx)
      by_cases hover : x.position - s.ticker.speed + 16 * (x.entry.text.length : Int) ≤ 0
      · rw [tickerAdvance_passes hx hz hcrawl hover]
        exact passEnd_conserved hmoved rfl (hback x hx)
      · rw [tickerAdvance_moves hx hz hcrawl (by omega)]
        exact hmoved
    · rw [tickerAdvance_still hcrawls]
      exact h

theorem tickerCuts_conserved {s : State} (h : Conserved W back total s.ticker) : Conserved W back total (tickerCuts s).ticker := by
  unfold tickerCuts
  split
  · next x hx =>
    split
    · exact h.returned hx rfl (h.showing x hx)
    · exact h
  · exact h

/-- The taking step ends the frame work: what was kept waits or is showing. -/
theorem tickerTaking_conserved {s : State} (h : Conserved W back total s.ticker) :
    (∀ e ∈ (tickerTaking s).ticker.waiting, e ∈ W ∨ back e) ∧
    (∀ e ∈ W, e ∈ (tickerTaking s).ticker.waiting ∨ ∃ y, (tickerTaking s).ticker.showing = some y ∧ y.entry = e) ∧
    (tickerTaking s).ticker.freeChunks + (tickerTaking s).ticker.heldChunks = total := by
  cases hx : s.ticker.showing with
  | some x =>
    rw [tickerTaking_showing hx]
    exact ⟨h.waiting, fun e he => .inl (h.kept e he), h.total⟩
  | none =>
    obtain ⟨hframe, hwaiting, hkept, -, hchunks⟩ := tickerTaking_taken hx
    refine ⟨fun e he => h.waiting e (hwaiting e he), fun e he => hkept e (h.kept e he), ?_⟩
    rw [hchunks, hframe]
    exact h.total

end Conserved

/-! ### The expiry step -/

/-- The forms in which a showing entry comes back to the waiting list: as it is, or with the pass that ended counted. -/
def ComesBack (k : TickerUnit) (e : TickerEntry) : Prop :=
  ∃ x, k.showing = some x ∧ x.cancel = none ∧
    (e = { x.entry with order := k.nextOrder } ∨ e = { x.entry.passCounted with order := k.nextOrder })

/-- What the cancels leave: the wall as it was, if nothing there is cancelled, and an empty one otherwise. -/
theorem tickerCancels_cases (s : State) :
    (tickerCancels s = s ∧ ∀ x, s.ticker.showing = some x → x.cancel = none) ∨
    ∃ x c, s.ticker.showing = some x ∧ x.cancel = some c ∧
      tickerCancels s = noteRemoval x.entry c.removal (setShowing none s) := by
  cases hx : s.ticker.showing with
  | none => exact .inl ⟨tickerCancels_none (by rw [hx]; exact nofun), nofun⟩
  | some x =>
    cases hc : x.cancel with
    | none =>
      refine .inl ⟨tickerCancels_none fun y hy => ?_, fun y hy => ?_⟩
      · cases hx.symm.trans hy
        exact hc
      · cases hy
        exact hc
    | some c => exact .inr ⟨x, c, rfl, hc, tickerCancels_some hx hc⟩

theorem tickerExpiry_of_showing_none {s : State} (h : s.ticker.showing = none) :
    tickerExpiry s = removeWaiting (fun e => e.expired s.clock.venue) .expired s := by
  rw [tickerExpiry, expireShowing_none]
  rw [removeWaiting_ticker]
  exact h

theorem tickerExpiry_of_none_expired {s : State} (h : ∀ e ∈ s.ticker.waiting, e.expired s.clock.venue = false) :
    tickerExpiry s = expireShowing s := by
  rw [tickerExpiry, removeWaiting_none h]

theorem sum_filter_add {l : List TickerEntry} (test : TickerEntry → Bool) :
    ((l.filter test).map TickerEntry.chunks).sum + ((l.filter fun e => !test e).map TickerEntry.chunks).sum =
      (l.map TickerEntry.chunks).sum := by
  have hperm := ((List.filter_append_perm test l).map TickerEntry.chunks).sum_eq
  rwa [List.map_append, List.sum_append] at hperm

theorem removeWaiting_conserved {back : TickerEntry → Prop} {total : Nat} {s : State} (test : TickerEntry → Bool)
    (reason : RemovalReason) (h : Conserved s.ticker.waiting back total s.ticker) :
    Conserved (s.ticker.waiting.filter fun e => !test e) back total (removeWaiting test reason s).ticker := by
  rw [removeWaiting_ticker]
  refine ⟨fun e he => .inl he, fun e he => he, h.showing, ?_⟩
  have htotal := h.total
  have hsum := sum_filter_add (l := s.ticker.waiting) test
  rw [TickerUnit.heldChunks] at htotal ⊢
  dsimp only
  omega

theorem expireShowing_conserved {W : List TickerEntry} {back : TickerEntry → Prop} {total : Nat} {s : State}
    (h : Conserved W back total s.ticker) : Conserved W back total (expireShowing s).ticker := by
  unfold expireShowing
  split
  · next x hx =>
    dsimp only
    split
    · rw [removeShowing]
      exact h.removed hx rfl _
    · exact h.stays hx rfl (h.showing x hx)
  · exact h

/-- The showing entry keeps its tag, its text and its counts through the expiry step, and its place in line stays to be issued. -/
theorem tickerExpiry_showing {s : State} {y : ShowingEntry} (h : (tickerExpiry s).ticker.showing = some y) :
    (∃ x, s.ticker.showing = some x ∧ y.entry = x.entry) ∧ (tickerExpiry s).ticker.nextOrder = s.ticker.nextOrder := by
  have hremoved := removeWaiting_ticker (fun e => e.expired s.clock.venue) .expired s
  rw [tickerExpiry] at h ⊢
  generalize removeWaiting (fun e => e.expired s.clock.venue) .expired s = t at hremoved h ⊢
  have hshowing : t.ticker.showing = s.ticker.showing := by rw [hremoved]
  have hnext : t.ticker.nextOrder = s.ticker.nextOrder := by rw [hremoved]
  rw [← hshowing, ← hnext]
  unfold expireShowing at h ⊢
  split at h
  · next x hx =>
    rw [hx]
    dsimp only at h ⊢
    split at h
    · rw [removeShowing] at h
      exact nomatch h
    · cases h
      next hstays =>
      rw [if_neg hstays]
      exact ⟨⟨x, rfl, rfl⟩, rfl⟩
  · next hx => exact nomatch hx.symm.trans h

/-- The frame work as a whole: no entry that has not expired is lost, none but a showing one joins, and the chunks are conserved. -/
theorem tickerFrameWork_conserved (t : State) :
    let kept := t.ticker.waiting.filter fun e => !e.expired t.clock.venue
    (∀ e ∈ (tickerFrameWork t).1.ticker.waiting, e ∈ kept ∨ ComesBack t.ticker e) ∧
    (∀ e ∈ kept, e ∈ (tickerFrameWork t).1.ticker.waiting ∨ ∃ y, (tickerFrameWork t).1.ticker.showing = some y ∧ y.entry = e) ∧
    (tickerFrameWork t).1.ticker.freeChunks + (tickerFrameWork t).1.ticker.heldChunks = t.ticker.freeChunks + t.ticker.heldChunks := by
  intro kept
  have hcancels : Conserved t.ticker.waiting (ComesBack t.ticker) (t.ticker.freeChunks + t.ticker.heldChunks) (tickerCancels t).ticker ∧
      (tickerCancels t).ticker.waiting = t.ticker.waiting ∧
      ∀ y, (tickerCancels t).ticker.showing = some y → t.ticker.showing = some y ∧ y.cancel = none ∧
        (tickerCancels t).ticker.nextOrder = t.ticker.nextOrder := by
    rcases tickerCancels_cases t with ⟨hsame, hnone⟩ | ⟨x, c, hx, hc, heq⟩
    · rw [hsame]
      exact ⟨⟨fun e he => .inl he, fun e he => he, fun y hy => ⟨y, hy, hnone y hy, .inl rfl⟩, rfl⟩, rfl,
        fun y hy => ⟨hy, hnone y hy, rfl⟩⟩
    · rw [heq, noteRemoval, State_raise_ticker]
      refine ⟨⟨fun e he => .inl he, fun e he => he, nofun, ?_⟩, rfl, nofun⟩
      rw [heldChunks_showing hx, heldChunks_none rfl]
      dsimp only [setShowing]
      omega
  obtain ⟨hconserved, hwaiting, hshowing⟩ := hcancels
  have hclock := (tickerCancels_tickerFrame t).clock
  rw [tickerFrameWork_fst]
  refine tickerTaking_conserved (tickerCuts_conserved (tickerAdvance_conserved ?_ ?_))
  · have hfiltered := expireShowing_conserved (removeWaiting_conserved (fun e => e.expired (tickerCancels t).clock.venue) .expired
      (by rw [hwaiting]; exact hconserved))
    rw [hwaiting, hclock] at hfiltered
    rw [tickerExpiry, hclock]
    exact hfiltered
  · intro y hy
    obtain ⟨⟨x, hx, hentry⟩, hnext⟩ := tickerExpiry_showing hy
    obtain ⟨hx', hcancel, hnext'⟩ := hshowing x hx
    rw [hnext, hnext', hentry]
    exact ⟨x, hx', hcancel, .inr rfl⟩

end Sys2Proof.Machine
end

section
/-! PROOFS. Expiries and pass ends at a FRAME_END (R155-R159), in the step as the host sees it. -/

namespace Sys2Proof.Machine

section

variable {t : State} {k : TickerUnit} {v : Word} {g : GameState} {r : FrameRecord}

theorem tickerCancels_waiting (s : State) : (tickerCancels s).ticker.waiting = s.ticker.waiting := by
  rcases tickerCancels_cases s with ⟨hsame, -⟩ | ⟨x, c, -, -, heq⟩
  · rw [hsame]
  · rw [heq, noteRemoval, State_raise_ticker]
    rfl

theorem expiryDue_of_waiting {e : TickerEntry} (he : e ∈ t.ticker.waiting) (hexpired : e.expired t.clock.venue = true) :
    expiryDue (tickerCancels t) = true := by
  rw [expiryDue, tickerCancels_waiting, (tickerCancels_tickerFrame t).clock]
  exact Bool.or_eq_true_iff.mpr (.inl (List.any_eq_true.mpr ⟨e, he, hexpired⟩))

theorem tickerFrameWork_flagged_of_waiting {e : TickerEntry} (he : e ∈ t.ticker.waiting)
    (hexpired : e.expired t.clock.venue = true) : (tickerFrameWork t).1.flagged .messageDone = true := by
  refine tickerFrameWork_flagged_expiry ?_
  rw [tickerExpiry]
  refine (expireShowing_flagsRise _).flagged _ (removeWaiting_flagged (e := e) ?_ ?_)
  · rw [tickerCancels_waiting]
    exact he
  · rw [(tickerCancels_tickerFrame t).clock]
    exact hexpired

/-- With nothing on the wall the frame work removes the expired entries and then takes one of the rest. -/
theorem tickerFrameWork_of_showing_none {s : State} (h : (tickerCancels s).ticker.showing = none) :
    (tickerFrameWork s).1 = tickerTaking (removeWaiting (fun e => e.expired (tickerCancels s).clock.venue) .expired (tickerCancels s)) := by
  have hnone : (removeWaiting (fun e => e.expired (tickerCancels s).clock.venue) .expired (tickerCancels s)).ticker.showing = none := by
    rw [removeWaiting_ticker]
    exact h
  rw [tickerFrameWork_fst, tickerExpiry_of_showing_none h, tickerAdvance_none hnone, tickerCuts_none hnone]

/-- A showing entry that may stay ends the frame work as it is. -/
theorem taking_of_stays {s : State} {y : ShowingEntry} (hmay : y.entry.eligible s.clock.game.state = true)
    (hurgent : 3 ≤ y.entry.priority ∨ ∀ e ∈ s.ticker.waiting, e.priority = 3 → e.eligible s.clock.game.state = false) :
    tickerTaking (tickerCuts (setShowing (some y) s)) = setShowing (some y) s := by
  rw [tickerCuts_stays (s := setShowing (some y) s) (x := y) rfl hmay hurgent, tickerTaking_showing (s := setShowing (some y) s) rfl]

/-- With the wall free the first waiting entry is taken if it may show. -/
theorem tickerTaking_first {s : State} {z : ZoneRecord} {e : TickerEntry} {rest : List TickerEntry} (hnone : s.ticker.showing = none)
    (hz : s.tickerZone = some z) (hwaiting : s.ticker.waiting = e :: rest) (hmay : e.eligible s.clock.game.state = true) :
    (tickerTaking s).ticker =
      { s.ticker with
        waiting := rest
        showing := some { entry := e, position := 32 * (z.desc.w.toNat : Int), lastPass := false, cancel := none } } := by
  rw [tickerTaking, hnone, hz, hwaiting]
  dsimp only
  rw [List.find?_cons, hmay]
  dsimp only
  rw [List.erase_cons_head]

/-- A message that may stay, and has not left the wall, crawls on or stands. -/
theorem advance_of_stays {s : State} {x : ShowingEntry} (hx : s.ticker.showing = some x) (hmay : x.entry.eligible s.clock.game.state = true)
    (hurgent : 3 ≤ x.entry.priority ∨ ∀ e ∈ s.ticker.waiting, e.priority = 3 → e.eligible s.clock.game.state = false)
    (hwall : (∃ z, s.tickerZone = some z ∧ crawlZone s.composer.record z = true) →
      0 < x.position - s.ticker.speed + 16 * (x.entry.text.length : Int)) {p : Int}
    (hmoves : (∃ z, s.tickerZone = some z ∧ crawlZone s.composer.record z = true) → p = x.position - s.ticker.speed)
    (hstands : ¬(∃ z, s.tickerZone = some z ∧ crawlZone s.composer.record z = true) → p = x.position) :
    (tickerTaking (tickerCuts (tickerAdvance s).1)).ticker = { s.ticker with showing := some { x with position := p } } := by
  by_cases hcrawls : ∃ z, s.tickerZone = some z ∧ crawlZone s.composer.record z = true
  · obtain ⟨z, hz, hcrawl⟩ := id hcrawls
    rw [tickerAdvance_moves hx hz hcrawl (hwall hcrawls), ← hmoves hcrawls,
      taking_of_stays (y := { x with position := p }) hmay hurgent]
    rfl
  · rw [tickerAdvance_still hcrawls, tickerCuts_stays hx hmay hurgent, tickerTaking_showing hx, hstands hcrawls, ← hx]

/-- A message that may stay crawls on beside the expiries. -/
theorem tickerFrameWork_crawls_on {x : ShowingEntry} (hreads : TickerReads t k v g r) (hx : k.showing = some x)
    (hcancel : x.cancel = none) (hpass : x.lastPass = false) (hfresh : x.entry.expired v = false)
    (hmay : x.entry.eligible g = true)
    (hurgent : 3 ≤ x.entry.priority ∨
      ∀ e ∈ k.waiting.filter (fun e => !e.expired v), e.priority = 3 → e.eligible g = false)
    (hwall : (∃ z, r.zoneOn .ticker = some z ∧ crawlZone r z = true) → 0 < x.position - k.speed + 16 * (x.entry.text.length : Int)) :
    ∃ position : Int,
      ((∃ z, r.zoneOn .ticker = some z ∧ crawlZone r z = true) → position = x.position - k.speed) ∧
      (¬(∃ z, r.zoneOn .ticker = some z ∧ crawlZone r z = true) → position = x.position) ∧
      (tickerFrameWork t).1.ticker =
        { k with
          waiting := k.waiting.filter fun e => !e.expired v
          showing := some { x with position := position }
          freeChunks := k.freeChunks + ((k.waiting.filter fun e => e.expired v).map TickerEntry.chunks).sum
          lastRemoved := ((k.waiting.filter fun e => e.expired v).getLast?.map fun e => (e.tag, RemovalReason.expired)).or
            k.lastRemoved } := by
  obtain ⟨rfl, rfl, rfl, rfl⟩ := hreads
  have hcancels : tickerCancels t = t := tickerCancels_none fun y hy => by
    cases hx.symm.trans hy
    exact hcancel
  have hremoved := removeWaiting_ticker (fun e => e.expired t.clock.venue) .expired t
  have hframe := removeWaiting_tickerFrame (fun e => e.expired t.clock.venue) .expired t
  rw [tickerFrameWork_fst, hcancels, tickerExpiry]
  generalize removeWaiting (fun e => e.expired t.clock.venue) .expired t = u at hremoved hframe ⊢
  have hux : u.ticker.showing = some x := by rw [hremoved]; exact hx
  have hspeed : u.ticker.speed = t.ticker.speed := by rw [hremoved]
  have huurgent : 3 ≤ x.entry.priority ∨ ∀ e ∈ u.ticker.waiting, e.priority = 3 → e.eligible u.clock.game.state = false := by
    rw [hremoved, hframe.clock]
    exact hurgent
  rw [expireShowing_fresh hux hpass (by rw [hframe.clock]; exact hfresh)]
  have hwork : ∀ p : Int,
      ((∃ z, t.tickerZone = some z ∧ crawlZone t.composer.record z = true) → p = x.position - t.ticker.speed) →
      (¬(∃ z, t.tickerZone = some z ∧ crawlZone t.composer.record z = true) → p = x.position) →
      (tickerTaking (tickerCuts (tickerAdvance u).1)).ticker = { u.ticker with showing := some { x with position := p } } := by
    intro p hp hp'
    rw [← hframe.tickerZone, ← hframe.composer, ← hspeed] at hp
    rw [← hframe.tickerZone, ← hframe.composer] at hp'
    refine advance_of_stays hux (by rw [hframe.clock]; exact hmay) huurgent ?_ hp hp'
    rw [hframe.tickerZone, hframe.composer, hspeed]
    exact hwall
  by_cases hcrawls : ∃ z, t.tickerZone = some z ∧ crawlZone t.composer.record z = true
  · refine ⟨x.position - t.ticker.speed, fun _ => rfl, fun h => absurd hcrawls h, ?_⟩
    rw [hwork _ (fun _ => rfl) (fun h => absurd hcrawls h), hremoved]
  · refine ⟨x.position, fun h => absurd h hcrawls, fun _ => rfl, ?_⟩
    rw [hwork _ (fun h => absurd h hcrawls) (fun _ => rfl), hremoved]

/-- A message that is over, with no zone to crawl in, is removed after the waiting ones. -/
theorem tickerFrameWork_removed {x : ShowingEntry} (hreads : TickerReads t k v g r) (hx : k.showing = some x) (hcancel : x.cancel = none)
    (hmarked : x.lastPass = true ∨ x.entry.expired v = true) (hzone : r.zoneOn .ticker = none) :
    expiryDue (tickerCancels t) = true ∧ (tickerFrameWork t).1.flagged .messageDone = true ∧
    (tickerFrameWork t).1.ticker.showing = none ∧ (tickerFrameWork t).1.ticker.lastRemoved = some (x.entry.tag, .expired) ∧
    ∀ e ∈ (tickerFrameWork t).1.ticker.waiting, e.expired v = false := by
  obtain ⟨rfl, rfl, rfl, rfl⟩ := hreads
  have hcancels : tickerCancels t = t := tickerCancels_none fun y hy => by
    cases hx.symm.trans hy
    exact hcancel
  have hremoved := removeWaiting_ticker (fun e => e.expired t.clock.venue) .expired t
  have hframe := removeWaiting_tickerFrame (fun e => e.expired t.clock.venue) .expired t
  have hdue : expiryDue t = true := by
    rw [expiryDue, hx]
    refine Bool.or_eq_true_iff.mpr (.inr ?_)
    have hnoZone : t.tickerZone.isNone = true := Option.isNone_iff_eq_none.mpr hzone
    rw [Option.elim_some]
    rcases hmarked with h | h
    · rw [if_pos h]
      exact hnoZone
    · split
      · exact hnoZone
      · exact h
  have hexpiry : ∃ u, u.ticker = (removeWaiting (fun e => e.expired t.clock.venue) .expired t).ticker ∧ u.tickerZone = none ∧
      tickerExpiry t = noteRemoval x.entry .expired (setShowing none u) := by
    refine ⟨_, rfl, hframe.tickerZone.trans hzone, ?_⟩
    rw [tickerExpiry]
    exact expireShowing_removed (by rw [hremoved]; exact hx) (by rw [hframe.clock]; exact hmarked) (hframe.tickerZone.trans hzone)
  obtain ⟨u, hu, huzone, heq⟩ := hexpiry
  rw [hcancels]
  have hwork : (tickerFrameWork t).1 = noteRemoval x.entry .expired (setShowing none u) := by
    have hnone : (noteRemoval x.entry .expired (setShowing none u)).ticker.showing = none := by
      rw [noteRemoval, State_raise_ticker]
      rfl
    rw [tickerFrameWork_fst, hcancels, heq, tickerAdvance_none hnone, tickerCuts_none hnone]
    exact tickerTaking_noZone huzone
  rw [hwork]
  refine ⟨hdue, noteRemoval_flagged _ _ _, ?_, ?_, ?_⟩
  · rw [noteRemoval, State_raise_ticker]
    rfl
  · rw [noteRemoval, State_raise_ticker]
  · rw [noteRemoval, State_raise_ticker]
    dsimp only [setShowing]
    rw [hu, hremoved]
    intro e he
    rw [List.mem_filter, Bool.not_eq_true'] at he
    exact he.2

/-- With nothing showing the expired entries go and the wall is free for another. -/
theorem tickerFrameWork_idle (hreads : TickerReads t k v g r) (hnone : k.showing = none) :
    Taken
      { k with
        waiting := k.waiting.filter fun e => !e.expired v
        freeChunks := k.freeChunks + ((k.waiting.filter fun e => e.expired v).map TickerEntry.chunks).sum
        lastRemoved := ((k.waiting.filter fun e => e.expired v).getLast?.map fun e => (e.tag, RemovalReason.expired)).or
          k.lastRemoved }
      (tickerFrameWork t).1.ticker := by
  obtain ⟨rfl, rfl, rfl, rfl⟩ := hreads
  have hcancels : tickerCancels t = t := tickerCancels_none fun y hy => nomatch hnone.symm.trans hy
  have htaken := tickerTaking_taken (s := removeWaiting (fun e => e.expired t.clock.venue) .expired t)
    (by rw [removeWaiting_ticker]; exact hnone)
  have hwork := tickerFrameWork_of_showing_none (s := t) (by rw [hcancels]; exact hnone)
  rw [hcancels] at hwork
  rw [hwork]
  rw [removeWaiting_ticker] at htaken
  exact htaken

/-- A cancelled message is removed first, and the wall is then free for another. -/
theorem tickerFrameWork_cancelled {x : ShowingEntry} {c : CancelReason} (hreads : TickerReads t k v g r) (hx : k.showing = some x)
    (hc : x.cancel = some c) :
    (tickerFrameWork t).1.flagged .messageDone = true ∧
    Taken
      { k with
        waiting := k.waiting.filter fun e => !e.expired v
        showing := none
        freeChunks := k.freeChunks + x.entry.chunks + ((k.waiting.filter fun e => e.expired v).map TickerEntry.chunks).sum
        lastRemoved := ((k.waiting.filter fun e => e.expired v).getLast?.map fun e => (e.tag, RemovalReason.expired)).or
          (some (x.entry.tag, c.removal)) }
      (tickerFrameWork t).1.ticker := by
  obtain ⟨rfl, rfl, rfl, rfl⟩ := hreads
  have heq := tickerCancels_some hx hc
  refine ⟨tickerFrameWork_flagged_cancels (by rw [heq]; exact noteRemoval_flagged _ _ _), ?_⟩
  have hticker : (tickerCancels t).ticker =
      { t.ticker with
        showing := none
        freeChunks := t.ticker.freeChunks + x.entry.chunks
        lastRemoved := some (x.entry.tag, c.removal) } := by
    rw [heq, noteRemoval, State_raise_ticker]
    rfl
  have hclock := (tickerCancels_tickerFrame t).clock
  rw [tickerFrameWork_of_showing_none (by rw [hticker]), hclock]
  have htaken := tickerTaking_taken (s := removeWaiting (fun e => e.expired t.clock.venue) .expired (tickerCancels t))
    (by rw [removeWaiting_ticker, hticker])
  rw [removeWaiting_ticker, hticker] at htaken
  exact htaken

/-- A message that expires with a zone to crawl in takes its last-pass mark and crawls on. -/
theorem tickerFrameWork_marked {x : ShowingEntry} {z : ZoneRecord} (hreads : TickerReads t k v g r) (hx : k.showing = some x)
    (hcancel : x.cancel = none) (hpass : x.lastPass = false) (hexpired : x.entry.expired v = true)
    (hzone : r.zoneOn .ticker = some z) (hwaiting : ∀ e ∈ k.waiting, e.expired v = false) (hmay : x.entry.eligible g = true)
    (hurgent : 3 ≤ x.entry.priority ∨ ∀ e ∈ k.waiting, e.priority = 3 → e.eligible g = false)
    (hwall : crawlZone r z = true →
      0 < (if crawlZone r z = true then x.position - k.speed else x.position) + 16 * (x.entry.text.length : Int)) :
    expiryDue (tickerCancels t) = true ∧
    (tickerFrameWork t).1.ticker =
      { k with
        showing := some { x with
          position := if crawlZone r z = true then x.position - k.speed else x.position
          lastPass := true } } := by
  obtain ⟨rfl, rfl, rfl, rfl⟩ := hreads
  have hcancels : tickerCancels t = t := tickerCancels_none fun y hy => by
    cases hx.symm.trans hy
    exact hcancel
  rw [tickerFrameWork_fst, hcancels, tickerExpiry_of_none_expired hwaiting, expireShowing_marked hx (.inr hexpired) hzone]
  constructor
  · rw [expiryDue, hx, Option.elim_some, if_neg (by rw [hpass]; exact Bool.false_ne_true), hexpired, Bool.or_true]
  · have hcrawls : (∃ z', t.tickerZone = some z' ∧ crawlZone t.composer.record z' = true) ↔ crawlZone t.composer.record z = true := by
      constructor
      · rintro ⟨z', hz', hcrawl⟩
        cases (hzone.symm.trans hz' : some z = some z')
        exact hcrawl
      · exact fun h => ⟨z, hzone, h⟩
    refine advance_of_stays (s := setShowing (some { x with lastPass := true }) t) (x := { x with lastPass := true }) rfl hmay hurgent
      (fun h => ?_) (fun h => if_pos (hcrawls.mp h)) (fun h => if_neg fun h' => h (hcrawls.mpr h'))
    have hpos := hwall (hcrawls.mp h)
    rw [if_pos (hcrawls.mp h)] at hpos
    exact hpos

end

theorem expired_iff (e : TickerEntry) (venue : Word) :
    e.expired venue = true ↔ ∃ x, e.expiry = some x ∧ (venue - x).toNat < 2147483648 := by
  unfold TickerEntry.expired
  cases e.expiry with
  | none => simp
  | some x => simp

theorem eligible_eq_false_iff (e : TickerEntry) (g : GameState) : e.eligible g = false ↔ e.stoppageOnly = true ∧ g = .running := by
  rw [TickerEntry.eligible, Bool.not_eq_false', Bool.and_eq_true, beq_iff_eq]

/-- Settles O45, from what the ticker's frame work does with nothing, with a message that stays and with one that goes. -/
theorem expiredMessagesRemoved : Obligations.ExpiredMessagesRemoved := by
  unfold Obligations.ExpiredMessagesRemoved
  refine ⟨fun b s hrun hscan => ?_, fun e => ⟨expired_iff e, eligible_eq_false_iff e, rfl⟩⟩
  have hstep := tickerStep_rotationWorked b s
  generalize rotationWorked b s = t at hstep
  have hreads := hstep.reads
  have hend := exec_frameEnd b hrun hscan
  refine ⟨?_, fun x hx hcancel hmarked hzone => ?_, ?_, ?_⟩
  · rintro ⟨e, he, hexpired⟩ expired kept
    have het : e ∈ t.ticker.waiting := by rw [← hreads.ticker]; exact he
    have hexpiredt : e.expired t.clock.venue = true := by rw [← hreads.venue]; exact hexpired
    have hconserved := tickerFrameWork_conserved t
    rw [← hreads.ticker, ← hreads.venue, ← hstep.ticker] at hconserved
    obtain ⟨hwaiting, hkept, htotal⟩ := hconserved
    refine ⟨_, exec_messageExpiry hrun hscan hstep (expiryDue_of_waiting het hexpiredt), hend,
      hstep.flagged _ (tickerFrameWork_flagged_of_waiting het hexpiredt), hwaiting, hkept, htotal, fun hnone => ?_, ?_⟩
    · have hframe := (tickerFrameWork_idle hreads hnone).frame
      rw [hstep.ticker, hframe]
      refine ⟨rfl, fun e he => ?_⟩
      have he' : (s.ticker.waiting.filter fun e => e.expired s.clock.venue).getLast? = some e := he
      dsimp only
      rw [he']
      rfl
    · intro x hx hcancel hpass hfresh hmay hurgent crawls hwall
      obtain ⟨position, hmoves, hstands, hticker⟩ := tickerFrameWork_crawls_on hreads hx hcancel hpass hfresh hmay hurgent hwall
      refine ⟨position, hmoves, hstands, hstep.ticker.trans (hticker.trans ?_)⟩
      have hlast : ((s.ticker.waiting.filter fun e => e.expired s.clock.venue).getLast?.map fun e => (e.tag, RemovalReason.expired)).or
          s.ticker.lastRemoved =
          (s.ticker.waiting.filter fun e => e.expired s.clock.venue).getLast?.map fun e => (e.tag, RemovalReason.expired) := by
        rw [List.getLast?_eq_getLast_of_ne_nil (List.ne_nil_of_mem (List.mem_filter.mpr ⟨he, hexpired⟩))]
        rfl
      rw [hlast]
  · obtain ⟨hdue, hflag, hnone, hlast, hfresh⟩ := tickerFrameWork_removed hreads hx hcancel hmarked hzone
    exact ⟨_, exec_messageExpiry hrun hscan hstep hdue, hend, hstep.flagged _ hflag, by rw [hstep.ticker]; exact hnone,
      by rw [hstep.ticker]; exact hlast, by rw [hstep.ticker]; exact hfresh⟩
  · intro x c hx hc expired
    obtain ⟨hflag, htaken⟩ := tickerFrameWork_cancelled hreads hx hc
    rw [← hstep.ticker] at htaken
    obtain ⟨hframe, hwaiting, hkept, hshowing, -⟩ := htaken
    have hmem : ∀ {e : TickerEntry}, e ∈ s.ticker.waiting.filter (fun e => !e.expired s.clock.venue) ↔
        e ∈ s.ticker.waiting ∧ e.expired s.clock.venue = false := by
      intro e
      rw [List.mem_filter, Bool.not_eq_true']
    refine ⟨_, hend, hstep.flagged _ hflag, fun y hy => (hmem.mp (hshowing y hy)).1, fun e he => hmem.mp (hwaiting e he),
      fun e he hfresh => hkept e (hmem.mpr ⟨he, hfresh⟩), fun hnone => ?_, fun e he => ?_, ?_⟩
    · rw [hframe]
      dsimp only
      have hnone' : s.ticker.waiting.filter (fun e => e.expired s.clock.venue) = [] := hnone
      rw [hnone']
      cases c <;> rfl
    · rw [hframe]
      dsimp only
      have he' : (s.ticker.waiting.filter fun e => e.expired s.clock.venue).getLast? = some e := he
      rw [he']
      rfl
    · generalize (frameEnd b s).1.ticker = k' at hframe ⊢
      rw [hframe]
      rfl
  · intro x z hx hcancel hpass hexpired hzone hwaiting hmay hurgent position hwall
    obtain ⟨hdue, hticker⟩ := tickerFrameWork_marked hreads hx hcancel hpass hexpired hzone hwaiting hmay hurgent hwall
    exact ⟨_, exec_messageExpiry hrun hscan hstep hdue, hend, hstep.ticker.trans hticker⟩


/-! ### Pass ends -/

section

variable {t : State} {k : TickerUnit} {v : Word} {g : GameState} {r : FrameRecord} {x : ShowingEntry} {z : ZoneRecord}

/-- A pass end of a message that has not run out, up to the pass end itself. -/
theorem tickerAdvance_fresh_pass (hreads : TickerReads t k v g r) (hx : k.showing = some x) (hcancel : x.cancel = none)
    (hpass : x.lastPass = false) (hfresh : x.entry.expired v = false) (hz : r.zoneOn .ticker = some z) (hcrawl : crawlZone r z = true)
    (hover : x.position - k.speed + 16 * (x.entry.text.length : Int) ≤ 0) (hwaiting : ∀ e ∈ k.waiting, e.expired v = false) :
    tickerAdvance (tickerExpiry (tickerCancels t)) =
      (passEnd { x with position := x.position - k.speed } z.desc.w.toNat
        (setShowing (some { x with position := x.position - k.speed }) t), true) := by
  obtain ⟨rfl, rfl, rfl, rfl⟩ := hreads
  have hcancels : tickerCancels t = t := tickerCancels_none fun y hy => by
    cases hx.symm.trans hy
    exact hcancel
  rw [hcancels, tickerExpiry_of_none_expired hwaiting, expireShowing_fresh hx hpass hfresh]
  exact tickerAdvance_passes hx hz hcrawl hover

/-- The last pass of a message with nothing waiting. -/
theorem tickerFrameWork_done (hreads : TickerReads t k v g r) (hx : k.showing = some x) (hcancel : x.cancel = none)
    (hpass : x.lastPass = false) (hfresh : x.entry.expired v = false) (hz : r.zoneOn .ticker = some z) (hcrawl : crawlZone r z = true)
    (hover : x.position - k.speed + 16 * (x.entry.text.length : Int) ≤ 0) (hlast : x.entry.repeats = 1) (hwaiting : k.waiting = []) :
    (tickerFrameWork t).1.flagged .messageDone = true ∧
    (tickerFrameWork t).1.ticker =
      { k with
        showing := none
        freeChunks := k.freeChunks + x.entry.chunks
        lastRemoved := some (x.entry.tag, .done) } := by
  have hadvance := tickerAdvance_fresh_pass hreads hx hcancel hpass hfresh hz hcrawl hover (by rw [hwaiting]; exact nofun)
  rw [passEnd_done (x := { x with position := x.position - k.speed }) hlast] at hadvance
  obtain ⟨rfl, rfl, rfl, rfl⟩ := hreads
  refine ⟨tickerFrameWork_flagged_advance (by rw [hadvance]; exact noteRemoval_flagged _ _ _), ?_⟩
  rw [tickerFrameWork_fst, hadvance]
  dsimp only
  have hticker : ∀ s : State, (noteRemoval x.entry.passCounted .done (setShowing none s)).ticker =
      { s.ticker with
        showing := none
        freeChunks := s.ticker.freeChunks + x.entry.chunks
        lastRemoved := some (x.entry.tag, .done) } := by
    intro s
    rw [noteRemoval, State_raise_ticker]
    rfl
  rw [tickerCuts_none (by rw [hticker]), tickerTaking_empty (by rw [hticker]; exact hwaiting), hticker]
  rfl

/-- The next pass of a message with nothing waiting. -/
theorem tickerFrameWork_again (hreads : TickerReads t k v g r) (hx : k.showing = some x) (hcancel : x.cancel = none)
    (hpass : x.lastPass = false) (hfresh : x.entry.expired v = false) (hz : r.zoneOn .ticker = some z) (hcrawl : crawlZone r z = true)
    (hmay : x.entry.eligible g = true) (hover : x.position - k.speed + 16 * (x.entry.text.length : Int) ≤ 0)
    (hmore : x.entry.repeats ≠ 1) (hwaiting : k.waiting = []) :
    (tickerFrameWork t).1.ticker =
      { k with
        showing := some { x with entry := x.entry.passCounted, position := 32 * (z.desc.w.toNat : Int) + k.gap } } := by
  have hadvance := tickerAdvance_fresh_pass hreads hx hcancel hpass hfresh hz hcrawl hover (by rw [hwaiting]; exact nofun)
  obtain ⟨rfl, rfl, rfl, rfl⟩ := hreads
  have hagain := passEnd_again (s := setShowing (some { x with position := x.position - t.ticker.speed }) t)
    (x := { x with position := x.position - t.ticker.speed }) (w := z.desc.w.toNat) hmore hpass
    (by rw [setShowing]; dsimp only; rw [hwaiting]; rfl)
  rw [hagain] at hadvance
  rw [tickerFrameWork_fst, hadvance]
  refine (congrArg State.ticker (taking_of_stays (s := setShowing (some { x with position := x.position - t.ticker.speed }) t)
    (y := { x with entry := x.entry.passCounted, position := 32 * (z.desc.w.toNat : Int) + t.ticker.gap }) hmay (.inr ?_))).trans ?_
  · rw [setShowing]
    dsimp only
    rw [hwaiting]
    exact nofun
  · rfl

/-- The turn of a waiting message of no lower priority. -/
theorem tickerFrameWork_turn {e : TickerEntry} (hreads : TickerReads t k v g r) (hx : k.showing = some x) (hcancel : x.cancel = none)
    (hpass : x.lastPass = false) (hfresh : x.entry.expired v = false) (hz : r.zoneOn .ticker = some z) (hcrawl : crawlZone r z = true)
    (hover : x.position - k.speed + 16 * (x.entry.text.length : Int) ≤ 0) (hmore : x.entry.repeats ≠ 1) (hwaiting : k.waiting = [e])
    (hefresh : e.expired v = false) (hemay : e.eligible g = true) (hpriority : x.entry.priority ≤ e.priority) :
    (tickerFrameWork t).1.ticker =
      { k with
        waiting := [{ x.entry.passCounted with order := k.nextOrder }]
        nextOrder := k.nextOrder + 1
        showing := some { entry := e, position := 32 * (z.desc.w.toNat : Int), lastPass := false, cancel := none } } := by
  have hadvance := tickerAdvance_fresh_pass hreads hx hcancel hpass hfresh hz hcrawl hover
    (by rw [hwaiting]; exact List.forall_mem_singleton.mpr hefresh)
  obtain ⟨rfl, rfl, rfl, rfl⟩ := hreads
  have hreturns := passEnd_returns (s := setShowing (some { x with position := x.position - t.ticker.speed }) t)
    (x := { x with position := x.position - t.ticker.speed }) (w := z.desc.w.toNat) hmore hpass
    (by
      rw [setShowing]
      dsimp only
      rw [hwaiting, List.any_cons, hemay, decide_eq_true hpriority]
      rfl)
  rw [hreturns] at hadvance
  rw [tickerFrameWork_fst, hadvance]
  dsimp only
  have hplace : insertWaiting t.ticker.nextOrder { x.entry.passCounted with order := t.ticker.nextOrder } t.ticker.waiting =
      [e, { x.entry.passCounted with order := t.ticker.nextOrder }] := by
    have hbehind : ¬TickerEntry.before t.ticker.nextOrder { x.entry.passCounted with order := t.ticker.nextOrder } e = true := fun h =>
      Nat.not_le.mpr (before_next_iff (e := { x.entry.passCounted with order := t.ticker.nextOrder }).mp h) hpriority
    rw [hwaiting, insertWaiting, if_neg hbehind, insertWaiting]
  have hnone : ∀ s : State, ({ s with ticker := { s.ticker with showing := none }.joinWaiting x.entry.passCounted } : State).ticker.showing =
      none := fun _ => rfl
  rw [tickerCuts_none (hnone _)]
  refine (tickerTaking_first (hnone _) hz hplace hemay).trans ?_
  rfl

/-- The pass end of a message that has run out. -/
theorem tickerFrameWork_runs_out (hreads : TickerReads t k v g r) (hx : k.showing = some x) (hcancel : x.cancel = none)
    (hmarked : x.lastPass = true ∨ x.entry.expired v = true) (hz : r.zoneOn .ticker = some z) (hcrawl : crawlZone r z = true)
    (hover : x.position - k.speed + 16 * (x.entry.text.length : Int) ≤ 0) (hwaiting : ∀ e ∈ k.waiting, e.expired v = false) :
    (tickerAdvance (tickerExpiry (tickerCancels t))).2 = true ∧ (tickerFrameWork t).1.flagged .messageDone = true ∧
    Taken
      { k with
        showing := none
        freeChunks := k.freeChunks + x.entry.chunks
        lastRemoved := some (x.entry.tag, if x.entry.repeats = 1 then .done else .expired) }
      (tickerFrameWork t).1.ticker := by
  obtain ⟨rfl, rfl, rfl, rfl⟩ := hreads
  have hcancels : tickerCancels t = t := tickerCancels_none fun y hy => by
    cases hx.symm.trans hy
    exact hcancel
  have hadvance : tickerAdvance (tickerExpiry (tickerCancels t)) =
      (noteRemoval x.entry.passCounted (if x.entry.repeats = 1 then .done else .expired)
        (setShowing none (setShowing (some { x with lastPass := true, position := x.position - t.ticker.speed })
          (setShowing (some { x with lastPass := true }) t))), true) := by
    have hpasses := tickerAdvance_passes (s := setShowing (some { x with lastPass := true }) t) (x := { x with lastPass := true })
      (z := z) rfl hz hcrawl hover
    rw [hcancels, tickerExpiry_of_none_expired hwaiting, expireShowing_marked hx hmarked hz]
    refine hpasses.trans (congrArg (·, true) ?_)
    split
    · next hlast => exact passEnd_done hlast
    · next hmore => exact passEnd_expired hmore rfl
  refine ⟨by rw [hadvance], tickerFrameWork_flagged_advance (by rw [hadvance]; exact noteRemoval_flagged _ _ _), ?_⟩
  have hticker : ∀ (reason : RemovalReason) (s : State), (noteRemoval x.entry.passCounted reason (setShowing none s)).ticker =
      { s.ticker with
        showing := none
        freeChunks := s.ticker.freeChunks + x.entry.chunks
        lastRemoved := some (x.entry.tag, reason) } := by
    intro reason s
    rw [noteRemoval, State_raise_ticker]
    rfl
  rw [tickerFrameWork_fst, hadvance]
  dsimp only
  rw [tickerCuts_none (by rw [hticker])]
  have htaken := tickerTaking_taken (s := noteRemoval x.entry.passCounted (if x.entry.repeats = 1 then .done else .expired)
    (setShowing none (setShowing (some { x with lastPass := true, position := x.position - t.ticker.speed })
      (setShowing (some { x with lastPass := true }) t)))) (by rw [hticker])
  rw [hticker] at htaken
  exact htaken

end

theorem crawlZone_iff (r : FrameRecord) (z : ZoneRecord) : crawlZone r z = true ↔
    r.mode = .normal ∧ z.active = true ∧ z.inLeadIn = false ∧ z.visible = z.desc.w.toNat * z.desc.h.toNat := by
  rw [crawlZone, Bool.and_eq_true, Bool.and_eq_true, Bool.and_eq_true, beq_iff_eq, beq_iff_eq, Bool.not_eq_true', and_assoc, and_assoc]
  rfl

/-- Settles O46, from the pass ends of a message that goes on and of one that has run out. -/
theorem passEndsAtLeftEdge : Obligations.PassEndsAtLeftEdge := by
  unfold Obligations.PassEndsAtLeftEdge
  refine ⟨fun b s x z hrun hscan hx hcancel hpass hfresh hz hcrawl hmay hover => ?_,
    fun b s x z hrun hscan hx hcancel hmarked hz hcrawl hover hwaiting => ?_, crawlZone_iff⟩
  · intro counted
    have hstep := tickerStep_rotationWorked b s
    generalize rotationWorked b s = t at hstep
    have hreads := hstep.reads
    have hend := exec_frameEnd b hrun hscan
    have hrow : (∀ e ∈ s.ticker.waiting, e.expired s.clock.venue = false) → exec (.passEnd b) s = .next (frameEnd b s).1 := fun hwaiting =>
      exec_passEnd hrun hscan hstep (by rw [tickerAdvance_fresh_pass hreads hx hcancel hpass hfresh hz hcrawl hover hwaiting])
    refine ⟨fun hlast hwaiting => ?_, fun hmore hwaiting => ?_, fun e hmore hwaiting hefresh hemay hpriority => ?_⟩
    · obtain ⟨hflag, hticker⟩ := tickerFrameWork_done hreads hx hcancel hpass hfresh hz hcrawl hover hlast hwaiting
      exact ⟨_, hrow (by rw [hwaiting]; exact nofun), hend, hstep.flagged _ hflag, hstep.ticker.trans hticker⟩
    · have hticker := tickerFrameWork_again hreads hx hcancel hpass hfresh hz hcrawl hmay hover hmore hwaiting
      exact ⟨_, hrow (by rw [hwaiting]; exact nofun), hend, hstep.ticker.trans hticker⟩
    · have hticker := tickerFrameWork_turn hreads hx hcancel hpass hfresh hz hcrawl hover hmore hwaiting hefresh hemay hpriority
      exact ⟨_, hrow (by rw [hwaiting]; exact List.forall_mem_singleton.mpr hefresh), hend, hstep.ticker.trans hticker⟩
  · have hstep := tickerStep_rotationWorked b s
    generalize rotationWorked b s = t at hstep
    obtain ⟨hdue, hflag, htaken⟩ := tickerFrameWork_runs_out hstep.reads hx hcancel hmarked hz hcrawl hover hwaiting
    rw [← hstep.ticker] at htaken
    obtain ⟨hframe, hwait, hkept, hshowing, -⟩ := htaken
    refine ⟨_, exec_passEnd hrun hscan hstep hdue, exec_frameEnd b hrun hscan, hstep.flagged _ hflag, hshowing, hwait, hkept, ?_⟩
    exact hframe

end Sys2Proof.Machine
end

section
/-! PROOFS. Reset and start-up (R175-R177), what presents itself at the port (R164-R166), and what the end of a host WRITE hands on. -/

namespace Sys2Proof.Machine

/-! ### The reset state -/

theorem reset_invariants :
    MemoryCanonical State.reset ∧ QueueSound State.reset ∧ ClocksSound State.reset ∧ ScoresInRange State.reset ∧
    LogBounded State.reset ∧ PoolBalanced State.reset ∧ OnAirExclusive State.reset ∧ ReplaySound State.reset ∧
    PlansPlaceable State.reset ∧ GrantSound State.reset :=
  ⟨⟨rfl, rfl⟩, ⟨by decide, nofun, nofun, nofun⟩, clockUnit_reset_sound, scoreUnit_reset_inRange, exposureCounter_reset_bounded,
    (poolBalanced_iff _).mpr tickerUnit_reset_pool, (onAirExclusive_iff _).mpr rotationUnit_reset_exclusive, reset_replaySound,
    composer_reset_plansPlaceable, ⟨nofun, nofun⟩⟩

/-- Settles O4, item by item. -/
theorem resetStateValuesAndInvariants : Obligations.ResetStateValuesAndInvariants := by
  unfold Obligations.ResetStateValuesAndInvariants
  refine ⟨?_, reset_invariants⟩
  refine ⟨rfl, rfl, rfl, rfl, ⟨rfl, rfl, rfl, rfl, rfl, rfl, rfl, fun z => ?_⟩, ⟨rfl, rfl, rfl, rfl, rfl, rfl, fun z => ?_⟩, rfl,
    ⟨rfl, rfl, rfl, rfl, rfl, fun n => ?_⟩, rfl, ⟨rfl, rfl, rfl, rfl, rfl, rfl⟩, rfl, fun n => ?_, fun n => ?_, fun f => ?_, rfl, rfl, rfl,
    rfl, fun z => ?_, rfl, rfl, ⟨rfl, rfl, rfl, rfl, rfl, rfl, rfl⟩, rfl, rfl, rfl⟩
  · simp [State.reset, Composer.reset, Plan.empty, ZoneDesc.zero]
  · simp [State.reset, Composer.reset, FrameRecord.reset, ZoneRecord.zero, ZoneDesc.zero]
  · simp [State.reset, Intake.reset]
  · simp [State.reset, Console.reset, ConsoleLine.reset]
  · simp [State.reset, Console.reset, CaptureChannel.reset]
  · simp [State.reset, ScoreUnit.reset]
  · simp [State.reset, RotationUnit.reset, SponsorZone.reset]

/-! ### Power-on and start-up (R175-R177) -/

theorem exec_accessEnd (i : ChoiceInput) (first : WriterBlock) {s : State} (h : s.phase ≠ .powerOnReset) :
    exec (.accessEnd i first) s = .next (accessEnd i first s) := if_neg h

theorem sendBlocks_zero (s : State) : sendBlocks 0 s = s := rfl

/-- With nothing sent and no access in progress the end of an access is the arbiter's next grant. -/
theorem accessEnd_idle {i : ChoiceInput} (first : WriterBlock) {s : State} (hsent : i.sent = 0) (h : s.memctl.access = none) :
    accessEnd i first s = grantNext i first s := by
  rw [accessEnd, hsent, finishAccess, h]
  exact congrArg (grantNext i first) (sendBlocks_zero s)

/-- With nothing sent, the start-up access that ends carries its step out. -/
theorem accessEnd_startUp {i : ChoiceInput} (first : WriterBlock) {s : State} (hsent : i.sent = 0) (h : s.memctl.access = some .startUp) :
    accessEnd i first s = grantNext i first (clearAccess (endStartUpStep s)) := by
  rw [accessEnd, hsent, finishAccess, h]
  exact congrArg (grantNext i first) (sendBlocks_zero _)

theorem grantNext_some {i : ChoiceInput} {first : WriterBlock} {s : State} {g : Grant} (h : arbiterChoice i s = some g) :
    grantNext i first s = beginGrant first g s := by
  rw [grantNext, h]

theorem grantNext_none {i : ChoiceInput} {first : WriterBlock} {s : State} (h : arbiterChoice i s = none) : grantNext i first s = s := by
  rw [grantNext, h]

theorem arbiterChoice_refresh {i : ChoiceInput} {s : State} (h : 0 < s.memctl.refreshDue) : arbiterChoice i s = some .refresh :=
  if_pos h

/-- In start-up with no refresh due the arbiter serves the start-up's steps. -/
theorem arbiterChoice_startUp {i : ChoiceInput} {s : State} (hphase : s.phase = .startUp) (h : s.memctl.refreshDue = 0) :
    arbiterChoice i s = startUpChoice i.waitOver s.memctl.startUp := by
  rw [arbiterChoice, if_neg (by omega), hphase]

/-- The end of a start-up access whose step is followed by another on the SDRAM. -/
theorem accessEnd_nextStep {i : ChoiceInput} (first : WriterBlock) {s : State} (hphase : s.phase = .startUp) (hsent : i.sent = 0)
    (hdue : s.memctl.refreshDue = 0) (haccess : s.memctl.access = some .startUp)
    (hnext : startUpChoice i.waitOver s.memctl.startUp.next = some .startUp) (hwait : s.memctl.startUp.next ≠ .wait) :
    accessEnd i first s = { s with memctl := { s.memctl.nextStep with access := some .startUp } } := by
  have hchoice : arbiterChoice i (clearAccess (endStartUpStep s)) = some .startUp :=
    (arbiterChoice_startUp (s := clearAccess (endStartUpStep s)) hphase hdue).trans hnext
  rw [accessEnd_startUp first hsent haccess, grantNext_some hchoice]
  refine (show grantStartUp _ = _ from ?_)
  rw [grantStartUp, if_neg]
  · rfl
  · exact hwait

/-- Settles O5, row by row. -/
theorem powerUpSequence : Obligations.PowerUpSequence := by
  unfold Obligations.PowerUpSequence
  refine ⟨fun s => rfl, fun st s hphase => ?_, fun st s hphase => ?_, fun i first s hphase hsent => ?_,
    fun s => ⟨fun hno => ?_, fun hpower hruns => ?_⟩, fun s hphase hstep => ?_, fun s hphase hstep hnone => ?_,
    fun s q hphase hstep hq => ?_⟩
  · show execResetRelease st s = _
    rw [execResetRelease, hphase]
    rfl
  · show execResetRelease st s = _
    rw [execResetRelease, hphase]
    rfl
  · have hexec := exec_accessEnd i first (s := s) (by rw [hphase]; decide)
    rw [hexec]
    refine ⟨fun haccess hdue => ?_, fun hdue haccess hwait => ?_, fun hdue haccess hstep => ?_, fun n hdue haccess hstep hn => ?_,
      fun hdue haccess hstep => ?_, fun hdue haccess hstep => ?_⟩
    · rw [accessEnd_idle first hsent haccess, grantNext_some (arbiterChoice_refresh hdue)]
      rfl
    · have hchoice := arbiterChoice_startUp (i := i) hphase hdue
      rw [hwait] at hchoice
      rw [accessEnd_idle first hsent haccess]
      split
      · next hover =>
        rw [grantNext_some (hchoice.trans (if_pos hover))]
        refine congrArg Host.Outcome.next (show grantStartUp s = _ from ?_)
        rw [grantStartUp, if_pos hwait, MemoryController.nextStep, hwait]
        simp [StartUpStep.next, StartUpStep.refreshing]
      · next hover => rw [grantNext_none (hchoice.trans (if_neg hover))]
    · rw [accessEnd_nextStep first hphase hsent hdue haccess (by rw [hstep]; rfl) (by rw [hstep]; decide), MemoryController.nextStep, hstep]
      simp [StartUpStep.next, StartUpStep.refreshing]
    · have hnext : StartUpStep.next (.refreshes n) = .refreshes (n + 1) := if_pos (by rw [Config.startUpRefreshes]; omega)
      rw [accessEnd_nextStep first hphase hsent hdue haccess (by rw [hstep, hnext]; rfl) (by rw [hstep, hnext]; nofun),
        MemoryController.nextStep, hstep, hnext]
      simp [StartUpStep.refreshing]
    · rw [accessEnd_nextStep first hphase hsent hdue haccess (by rw [hstep]; rfl) (by rw [hstep]; decide), MemoryController.nextStep, hstep]
      simp [StartUpStep.next, StartUpStep.refreshing, Config.startUpRefreshes]
    · have hchoice : arbiterChoice i (clearAccess (endStartUpStep s)) = none :=
        (arbiterChoice_startUp (s := clearAccess (endStartUpStep s)) hphase hdue).trans (by
          show startUpChoice i.waitOver s.memctl.startUp.next = none
          rw [hstep]
          rfl)
      rw [accessEnd_startUp first hsent haccess, grantNext_none hchoice, endStartUpStep, MemoryController.nextStep, hstep]
      simp [StartUpStep.next, StartUpStep.refreshing, clearAccess]
  · have hstops : s.deadlineRuns = false := by
      unfold State.deadlineRuns
      cases hphase : s.phase with
      | powerOnReset => rfl
      | resetLow => exact (hno.resolve_left (by rw [hphase]; decide)).2
      | startUp => exact (hno.resolve_left (by rw [hphase]; decide)).2
      | running => exact absurd hphase (hno.resolve_left (by rw [hphase]; decide)).1
    exact if_neg (by rw [hstops]; exact Bool.false_ne_true)
  · have hgoes : s.deadlineRuns = true := by
      unfold State.deadlineRuns
      cases hphase : s.phase with
      | powerOnReset => exact absurd hphase hpower
      | resetLow => exact hruns.resolve_left (by rw [hphase]; decide)
      | startUp => exact hruns.resolve_left (by rw [hphase]; decide)
      | running => rfl
    exact if_pos hgoes
  · show execStartUpComplete s = _
    rw [execStartUpComplete, hphase]
    exact if_neg hstep
  · show execStartUpComplete s = _
    rw [execStartUpComplete, hphase]
    dsimp only
    rw [if_pos hstep, completeStartUp, hnone]
  · refine ⟨newTransaction s (q.reduced s), ?_, rfl, rfl⟩
    show execStartUpComplete s = _
    rw [execStartUpComplete, hphase]
    dsimp only
    rw [if_pos hstep, completeStartUp, hq]
    rfl

/-! ### The port (R164-R166, R170, R171, R173) -/

theorem inRange_iff {base len a : Nat} : inRange base len a = true ↔ base ≤ a ∧ a < base + len := by
  rw [inRange, Bool.and_eq_true, decide_eq_true_iff, decide_eq_true_iff]

theorem readBase_own {s : State} {a : Nat} {l : BurstLength}
    (h : ∀ r k, s.intake.ring = some r → s.intake.intakeSlot = some k → inRange r.aliasBase r.slotBytes a = false) :
    readBase s a l = blockBase a l := by
  unfold readBase
  split
  · next r k hr hk => rw [h r k hr hk, if_neg Bool.false_ne_true]
  · rfl

theorem readBase_alias {s : State} {a k : Nat} {l : BurstLength} {r : RingDecl} (hr : s.intake.ring = some r)
    (hk : s.intake.intakeSlot = some k) (h : inRange r.aliasBase r.slotBytes a = true) :
    readBase s a l = r.ringBase + k * r.slotBytes + (blockBase a l - r.aliasBase) := by
  rw [readBase, hr, hk]
  dsimp only
  rw [if_pos h]
  rfl

theorem present_arrives {q : HostRequest} {s : State} (hrun : s.phase = .running) (hfree : s.port.transaction = none) :
    present q s = arrive q s := by
  rw [present, if_pos hrun, hfree]
  rfl

theorem present_held {q : HostRequest} {s : State} (hwait : s.phase ≠ .running) (hfree : s.port.presented = none) :
    present q s = { s with port := { s.port with presented := some q } } := by
  rw [present, if_neg hwait, hfree]
  rfl

theorem hasRoom_iff {m : MemoryController} : m.hasRoom = true ↔ m.queue.length < 64 := by
  rw [MemoryController.hasRoom, decide_eq_true_iff]
  rfl

theorem commandReady_eq_true {m : MemoryController} {w : PartWrite} {rest : List WaitingResult}
    (h : m.waitCommand = { write := w, behind := 0 } :: rest) : m.commandReady = true := by
  rw [MemoryController.commandReady, h]
  rfl

theorem commandReady_eq_false {m : MemoryController} (h : m.waitCommand = [] ∨ ∃ r ∈ m.waitCommand.head?, 0 < r.behind) :
    m.commandReady = false := by
  unfold MemoryController.commandReady
  split
  · rfl
  · next r rest hwaits =>
    rw [hwaits] at h
    obtain ⟨r', hr', hbehind⟩ := h.resolve_left (List.cons_ne_nil _ _)
    cases hr'
    exact beq_eq_false_iff_ne.mpr (by omega)

theorem join_full {first : WriterBlock} {m : MemoryController} (h : 64 ≤ m.queue.length) : m.join first = m := by
  unfold MemoryController.join
  exact if_neg fun hroom => Nat.not_lt.mpr h (hasRoom_iff.mp hroom)

/-- The exposure counter's first waiting write joins when it is named, or when the command unit has none that may. -/
theorem join_exposure {first : WriterBlock} {m : MemoryController} {w : PartWrite} {rest : List PartWrite}
    (hroom : m.queue.length < 64) (hwaits : m.waitExposure = w :: rest) (hfirst : first = .exposureCounter ∨ m.commandReady = false) :
    m.join first = m.joinExposure := by
  unfold MemoryController.join
  rw [if_pos (hasRoom_iff.mpr hroom)]
  cases first with
  | commandUnit =>
    rw [hfirst.resolve_left nofun]
    rfl
  | exposureCounter =>
    rw [hwaits]
    rfl

/-- The command unit's first waiting write, its turn come, joins when it is named, or when the exposure counter has none. -/
theorem join_command {first : WriterBlock} {m : MemoryController} (hroom : m.queue.length < 64) (hready : m.commandReady = true)
    (hfirst : first = .commandUnit ∨ m.waitExposure = []) : m.join first = m.joinCommand := by
  unfold MemoryController.join
  rw [if_pos (hasRoom_iff.mpr hroom)]
  cases first with
  | commandUnit => exact if_pos hready
  | exposureCounter =>
    rw [hfirst.resolve_left nofun]
    exact if_pos hready

/-- Settles O47: each row is one operation of the port or the controller. -/
theorem portAndControllerEvents : Obligations.PortAndControllerEvents := by
  unfold Obligations.PortAndControllerEvents
  refine ⟨fun addr l s => ⟨fun hrun hfree => ?_, fun hwait hfree => ⟨?_, ?_⟩⟩, fun s hrun => ⟨fun v hle => ?_, fun v hlt => ?_, ?_,
    fun first hfull => ?_, fun first w rest hroom hwaits hfirst => ?_, fun first w rest hroom hwaits hfirst => ?_⟩⟩
  · refine ⟨_, _, congrArg Host.Outcome.next (present_arrives hrun hfree), rfl, rfl, rfl, rfl,
      congrArg Host.Outcome.next (present_arrives hrun hfree), rfl, rfl, fun hnone => ?_, fun r hr hout => ?_,
      fun r k hr hk hlow hhigh => ?_⟩
    · refine readBase_own fun r k hr hk => ?_
      rcases hnone with hnone | hnone
      · exact nomatch hnone.symm.trans hr
      · exact nomatch hnone.symm.trans hk
    · refine readBase_own fun r' k hr' _ => Bool.eq_false_iff.mpr fun hin => ?_
      cases hr.symm.trans hr'
      obtain ⟨hlow, hhigh⟩ := inRange_iff.mp hin
      rcases hout with hout | hout
      · exact Nat.not_lt.mpr hlow hout
      · exact Nat.not_lt.mpr hout hhigh
    · exact readBase_alias hr hk (inRange_iff.mpr ⟨hlow, hhigh⟩)
  · exact congrArg Host.Outcome.next (present_held hwait hfree)
  · exact congrArg Host.Outcome.next (present_held hwait hfree)
  · show execWatchedWrite v s = _
    rw [execWatchedWrite, if_pos hrun, watchedWrite, ExposureCounter.unreleased, if_pos hle]
  · show execWatchedWrite v s = _
    rw [execWatchedWrite, if_pos hrun, watchedWrite, ExposureCounter.unreleased, if_neg (Nat.not_le.mpr hlt)]
  · show execRefreshDue s = _
    rw [execRefreshDue, State.deadlineRuns, hrun]
    rfl
  all_goals
    show execQueueJoin first s = _
    rw [execQueueJoin, if_pos hrun]
  · rw [join_full hfull]
  · rw [join_exposure hroom hwaits (hfirst.imp_right commandReady_eq_false), MemoryController.joinExposure, hwaits]
    rfl
  · rw [join_command hroom (commandReady_eq_true hwaits) hfirst, MemoryController.joinCommand, hwaits]

/-! ### The end of a host WRITE (R36, R166, R179) -/

/-- A command that a slot spells is delivered to that slot. -/
theorem decodeCommand_slot (slot : RingSlot) (lines : Byte) (kind : Nat) (b : Nat → Byte) :
    (decodeCommand slot lines kind b).elim True fun i => commandSlot i = some slot := by
  unfold decodeCommand
  split
  all_goals trivial

theorem decodeSlot_slot {slot : RingSlot} {lines : Byte} {b : Nat → Byte} {i : Instr} (h : decodeSlot slot lines b = .command i) :
    commandSlot i = some slot := by
  unfold decodeSlot at h
  split at h
  · exact nomatch h
  · split at h
    · next j hj =>
      cases h
      have hslot := decodeCommand_slot slot lines (halfAt b 0).toNat b
      rwa [hj] at hslot
    · exact nomatch h

/-- A WRITE whose beats have come, and been served if they go to memory, can end. -/
theorem canEnd_of {t : HostTransaction} (hwrite : t.request.isWrite = true) (hbeats : t.beats = burstBeats t.request.length)
    (hstate : t.state = .served ∨ (t.state = .none ∧ t.forward = [])) : t.canEnd = true := by
  rw [HostTransaction.canEnd, hwrite, hbeats, beq_self_eq_true]
  rcases hstate with h | ⟨h, hnone⟩
  · rw [h]
    rfl
  · rw [h, hnone]
    rfl

theorem retryHeldOver_none {s : State} (h : s.intake.retryDue = false) : retryHeldOver s = s :=
  if_neg (by rw [h]; exact Bool.false_ne_true)

theorem endOfBurst_retryDue_free {lines : Byte} {t : HostTransaction} {s : State} (hclosing : t.closing = none)
    (hcompletion : t.completion = false) (hwatched : t.watched = none) : endOfBurst lines t s = s := by
  rw [endOfBurst_eq, hclosing, hcompletion, hwatched]
  rfl

/-- The choice of a slot does not read or change the mark of a retry held over. -/
theorem takeSlot_retryDue (n : Intake) (r : Roller) (excluded : Option Nat) (due : Bool) :
    Intake.takeSlot r excluded { n with retryDue := due } = { n.takeSlot r excluded with retryDue := due } := by
  have hfree : Intake.freeSlot { n with retryDue := due } = n.freeSlot := rfl
  have hold : Intake.oldestReclaimable { n with retryDue := due } r excluded = n.oldestReclaimable r excluded := rfl
  rw [Intake.takeSlot, Intake.takeSlot, hfree, hold]
  cases n.freeSlot with
  | some k => rfl
  | none => cases n.oldestReclaimable r excluded <;> rfl

/-- A retry held over, once the WRITE is over, is the retry of a FRAME_END. -/
theorem retryNow_eq_retryIntake {s : State} (h : s.port.transaction = none) :
    retryNow s = retryIntake { s with intake := { s.intake with retryDue := false } } := by
  have hidle : State.writeInProgress { s with intake := { s.intake with retryDue := false } } = false := by
    rw [State.writeInProgress, h]
  have hblocked : Intake.blocked { s.intake with retryDue := false } = s.intake.blocked := rfl
  rw [retryIntake, hidle, if_neg Bool.false_ne_true]
  unfold retryNow
  rw [hblocked]
  split
  · exact congrArg (fun n : Intake => { s with intake := { n with retryDue := false } }) (takeSlot_retryDue s.intake s.roller none false).symm
  · rfl

theorem complete_retryDue (n : Intake) (r : Roller) (k : Nat) : (n.complete r k).retryDue = n.retryDue := by
  rw [complete_frame]

theorem examineTrailer_retryDue (s : State) : (examineTrailer s).intake.retryDue = s.intake.retryDue := by
  unfold examineTrailer
  split
  · split
    · rfl
    · split
      · rfl
      · exact complete_retryDue _ _ _
  · rfl

theorem checked_intake_retryDue {checks : List (Bool × ResultCode)} {s : State} {n : Intake} {r : Result}
    (h : s.intake.retryDue = false) (hn : n.retryDue = false) :
    (checked checks s ({ s with intake := n }, r)).1.intake.retryDue = false :=
  checked_fst (I := fun t => t.intake.retryDue = false) h fun _ => hn

theorem intakeRules_retryDue (i : Instr) (s : State) (ho : commandOwner i = .intake) (h : s.intake.retryDue = false) :
    (commandRule i).elim True fun r => (r s).1.intake.retryDue = false := by
  cases i
  case setRing => exact checked_intake_retryDue h rfl
  case holdFrames =>
    refine checked_intake_retryDue h ?_
    rw [holdSlots_frame]
    exact h
  case releaseFrames => exact checked_intake_retryDue h h
  case discardFrames => exact checked_intake_retryDue h h
  all_goals cases ho

/-- The intake changes by its own commands alone. -/
theorem OwnerFrame.intake {o : CommandOwner} {s t : State} (ho : o ≠ .intake) (h : OwnerFrame o s t) : t.intake = s.intake := by
  cases o with
  | intake => exact absurd rfl ho
  | commandUnit =>
    obtain ⟨_, _, _, rfl⟩ := h
    rfl
  | wholePart =>
    obtain ⟨_, _, _, _, _, _, _, _, _, rfl⟩ := h
    rfl
  | composer =>
    obtain ⟨_, rfl⟩ := h
    rfl
  | roller =>
    obtain ⟨_, _, rfl⟩ := h
    rfl
  | clockUnit =>
    obtain ⟨_, _, _, _, rfl⟩ := h
    rfl
  | console =>
    obtain ⟨_, rfl⟩ := h
    rfl
  | scoreUnit =>
    obtain ⟨_, _, _, _, rfl⟩ := h
    rfl
  | rotationUnit =>
    obtain ⟨_, rfl⟩ := h
    rfl
  | tickerUnit =>
    obtain ⟨_, _, rfl⟩ := h
    rfl

/-- No command leaves a retry held over that was not before. -/
theorem rule_retryDue {i : Instr} {r : CommandRule} {s : State} (hr : commandRule i = some r) (h : s.intake.retryDue = false) :
    (r s).1.intake.retryDue = false := by
  by_cases ho : commandOwner i = .intake
  · have helim := intakeRules_retryDue i s ho h
    rwa [hr] at helim
  · refine (commandRule_outcome hr s).elim (Q := fun t => t.intake.retryDue = false) h fun t ht => ?_
    rw [ht.intake ho]
    exact h

theorem writeEnd_retryFirst (lines : Byte) (t : HostTransaction) (s : State) :
    writeEnd lines true t s = endOfBurst lines t (retryHeldOver (setTransaction none s)) := rfl

theorem writeEnd_retryLast (lines : Byte) (t : HostTransaction) (s : State) :
    writeEnd lines false t s = retryHeldOver (endOfBurst lines t (setTransaction none s)) := rfl

/-- Settles O49, event by event. -/
theorem writeEndHandsOn : Obligations.WriteEndHandsOn := by
  unfold Obligations.WriteEndHandsOn
  intro lines b s t hrun htransaction hwrite hbeats hstate s'
  have hend : exec (.hostWriteEnd lines b) s = .next (writeEnd lines b t s) := by
    show execHostWriteEnd lines b s = _
    rw [execHostWriteEnd, htransaction]
    exact if_pos ⟨hrun, canEnd_of hwrite hbeats hstate⟩
  have hrun' : s'.phase = .running := hrun
  have hnoRetry : ∀ u, s.intake.retryDue = false → endOfBurst lines t s' = u → u.intake.retryDue = false →
      writeEnd lines b t s = u := by
    intro u hdue hu hstill
    cases b with
    | true =>
      rw [writeEnd_retryFirst, retryHeldOver_none (s := setTransaction none s) hdue]
      exact hu
    | false =>
      rw [writeEnd_retryLast, show endOfBurst lines t (setTransaction none s) = u from hu]
      exact retryHeldOver_none hstill
  refine ⟨fun hclosing hcompletion hwatched hdue => ?_, fun hclosing hcompletion hwatched hdue => ?_,
    fun hclosing hcompletion hwatched hdue => ?_, fun v hclosing hcompletion hwatched hdue => ?_,
    fun slot hclosing hcompletion hwatched hdue => ?_⟩
  · rw [hend, hnoRetry s' hdue (endOfBurst_retryDue_free hclosing hcompletion hwatched) hdue]
  · have hwork : writeEnd lines b t s = retryNow s' := by
      have hheld : ∀ u : State, u.intake.retryDue = true → retryHeldOver u = retryNow u := fun u hu => if_pos hu
      cases b with
      | true =>
        rw [writeEnd_retryFirst, hheld (setTransaction none s) hdue]
        exact endOfBurst_retryDue_free hclosing hcompletion hwatched
      | false => rw [writeEnd_retryLast, endOfBurst_retryDue_free hclosing hcompletion hwatched, hheld (setTransaction none s) hdue]
    rw [hend, hwork, retryNow_eq_retryIntake rfl]
    exact (exec_intakeRetry (s := { s' with intake := { s'.intake with retryDue := false } }) hrun').symm
  · rw [hend, exec_completion hrun']
    refine congrArg Host.Outcome.next (hnoRetry _ hdue ?_ ((examineTrailer_retryDue s').trans hdue))
    rw [endOfBurst_eq, hclosing, hcompletion, hwatched]
    rfl
  · have hexec : exec (.watchedWrite v) s' = .next (watchedWrite v s') := if_pos hrun'
    rw [hend, hexec]
    refine congrArg Host.Outcome.next (hnoRetry _ hdue ?_ ?_)
    · rw [endOfBurst_eq, hclosing, hcompletion, hwatched]
      rfl
    · obtain ⟨_, _, e⟩ := watchedWrite_logFrame v s'
      rw [e]
      exact hdue
  · have hwork : ∀ u, takeSlot slot lines s' = u → u.intake.retryDue = false → exec (.hostWriteEnd lines b) s = .next u := by
      intro u hu hstill
      rw [hend]
      refine congrArg Host.Outcome.next (hnoRetry u hdue ?_ hstill)
      rw [endOfBurst_eq, hclosing, hcompletion, hwatched]
      exact hu
    have hdeliver : ∀ (r : Result) (u : State), u.intake.retryDue = false → (finishCommand slot r u).intake.retryDue = false := by
      intro r u hu
      obtain ⟨_, _, _, _, _, e⟩ := finishCommand_deliveryFrame slot r u
      rw [e]
      exact hu
    have hbytes : s'.slotByte slot = s.slotByte slot := rfl
    refine ⟨fun i hi => ?_, fun hmalformed => ?_, fun hunknown => ?_⟩
    · have hslot := decodeSlot_slot hi
      obtain ⟨rule, hrule⟩ := Option.isSome_iff_exists.mp ((commandRule_isSome i).trans (by rw [hslot]; rfl))
      rw [exec_eq_hostCommand hslot hrule, hostCommand_running hrun']
      refine hwork _ ?_ ?_
      · rw [takeSlot, hbytes, hi]
        dsimp only
        rw [hrule]
      · exact hdeliver _ _ (rule_retryDue hrule hdue)
    · refine ⟨_, rfl, hwork _ ?_ (hdeliver _ _ hdue)⟩
      rw [takeSlot, hbytes, hmalformed]
      rfl
    · refine ⟨_, rfl, hwork _ ?_ (hdeliver _ _ hdue)⟩
      rw [takeSlot, hbytes, hunknown]
      rfl

end Sys2Proof.Machine
end

section
/-! PROOFS. The command slot (R178-R180, Tables 11.1, 11.2): a command is read back from the slot that submits it. -/

namespace Sys2Proof.Machine

/-! ### Fields -/

theorem half_of_bytes (v : Half) : v.extractLsb' 8 8 ++ v.extractLsb' 0 8 = v := by
  refine BitVec.eq_of_getLsbD_eq fun i hi => ?_
  rw [BitVec.getLsbD_append, BitVec.getLsbD_extractLsb', BitVec.getLsbD_extractLsb']
  by_cases h : i < 8
  · simp [h]
  · simp [h, show i - 8 < 8 by omega, show 8 + (i - 8) = i by omega]

theorem word_of_bytes (v : Word) :
    (v.extractLsb' 24 8 ++ v.extractLsb' 16 8) ++ (v.extractLsb' 8 8 ++ v.extractLsb' 0 8) = v := by
  refine BitVec.eq_of_getLsbD_eq fun i hi => ?_
  simp only [BitVec.getLsbD_append, BitVec.getLsbD_extractLsb']
  by_cases h8 : i < 8
  · simp [h8, show i < 16 by omega]
  · by_cases h16 : i < 16
    · simp [h8, h16, show i - 8 < 8 by omega, show 8 + (i - 8) = i by omega]
    · by_cases h24 : i - 16 < 8
      · simp [h16, h24, show 16 + (i - 16) = i by omega]
      · simp [h16, h24, show i - 16 - 8 < 8 by omega, show 24 + (i - 16 - 8) = i by omega]

/-! ### The slot that submits a command -/

section

variable {kind tag : Half} {payload : List Byte}

theorem slotImage_kind : halfAt (slotImage kind tag payload) 0 = kind := half_of_bytes kind

theorem slotImage_tag : halfAt (slotImage kind tag payload) 2 = tag := half_of_bytes tag

theorem slotImage_closing : wordAt (slotImage kind tag payload) 252 = closingWord kind tag := word_of_bytes _

theorem slotImage_payload {o : Nat} (h : o < 236) : slotImage kind tag payload (16 + o) = payload.getD o 0 := by
  rw [slotImage, if_neg (by omega), if_neg (by omega), if_neg (by omega), if_pos (by omega), Nat.add_sub_cancel_left]

/-- The bytes of a list at the end of a payload are read back. -/
theorem slotImage_bytesAt {head l : List Byte} {n : Nat} (hpayload : payload = head ++ l) (hn : l.length = n)
    (hroom : head.length + n ≤ 236) : bytesAt (slotImage kind tag payload) (16 + head.length) n = l := by
  refine List.ext_getElem (by simp [bytesAt, hn]) fun k hk hk' => ?_
  have hlt : k < n := by simpa [bytesAt] using hk
  simp only [bytesAt, List.getElem_map, List.getElem_range]
  rw [ Nat.add_assoc, slotImage_payload (by omega), hpayload,
    List.getD_eq_getElem?_getD, List.getElem?_append_right (by omega), Nat.add_sub_cancel_left, List.getElem?_eq_getElem hk']
  rfl

end

/-! ### Payloads with more than one field of several bytes -/

theorem rollAt_slotImage (kind tag : Half) (p : RollPayload) : rollAt (slotImage kind tag (rollBytes p)) = p := by
  cases p
  exact (RollPayload.mk.injEq ..).mpr
    ⟨word_of_bytes _, word_of_bytes _, rfl, rfl, rfl, rfl, rfl, half_of_bytes _, half_of_bytes _⟩

theorem spotAt_slotImage (kind tag : Half) (p : SpotPayload) : spotAt (slotImage kind tag (spotBytes p)) = p := by
  cases p
  exact (SpotPayload.mk.injEq ..).mpr ⟨rfl, rfl, rfl, rfl, rfl, word_of_bytes _, word_of_bytes _, half_of_bytes _⟩

theorem messageAt_slotImage (kind tag : Half) {p : MessagePayload} (h : p.text.length = min p.length.toNat 200) :
    messageAt (slotImage kind tag (messageBytes p)) = p := by
  have htext : bytesAt (slotImage kind tag (messageBytes p)) 24 (min p.length.toNat 200) = p.text :=
    slotImage_bytesAt (head := halfBytes p.tag ++ [p.priority, p.repeats] ++ halfBytes p.lifetime ++ [p.stoppageOnly, p.length]) rfl h
      (by show 8 + _ ≤ 236; omega)
  cases p
  exact (MessagePayload.mk.injEq ..).mpr ⟨half_of_bytes _, rfl, rfl, half_of_bytes _, rfl, rfl, htext⟩

theorem rotationAt_slotImage (kind tag : Half) (zone count : Byte) {ids : List Byte} (h : ids.length = min count.toNat 16) :
    bytesAt (slotImage kind tag ([zone, count] ++ ids)) 18 (min count.toNat 16) = ids :=
  slotImage_bytesAt (head := [zone, count]) rfl h (by show 2 + _ ≤ 236; omega)

/-! ### The round trip -/

/-- The bytes of a slot that a command writes, read as the command's kind says, are the command. -/
theorem decodeCommand_slotImage {i : Instr} {slot : RingSlot} (tag : Half) (hexact : i.exact = true) (hslot : commandSlot i = some slot) :
    (commandKind i).elim True fun kind =>
      decodeCommand slot (commandLines i) kind.toNat (slotImage kind tag (payloadBytes i)) = some i := by
  cases i
  all_goals cases hslot
  case nop => rfl
  case ackFlags mask => exact congrArg (fun v => some (Instr.ackFlags slot v)) (word_of_bytes mask)
  case setAttnMask mask => exact congrArg (fun v => some (Instr.setAttnMask slot v)) (word_of_bytes mask)
  case ackCauses => rfl
  case restart => rfl
  case setScreen => rfl
  case stageZone index p => exact congrArg (fun v => some (Instr.stageZone slot index { p with param := v })) (word_of_bytes p.param)
  case applyPlan => rfl
  case cancelStage => rfl
  case setOutputMode => rfl
  case setHouseSlate present base => exact congrArg (fun v => some (Instr.setHouseSlate slot present v)) (word_of_bytes base)
  case setFont present base => exact congrArg (fun v => some (Instr.setFont slot present v)) (word_of_bytes base)
  case setRing ringBase aliasBase w h count =>
    exact congrArg₂ (fun u v => some (Instr.setRing slot u v w h count)) (word_of_bytes ringBase) (word_of_bytes aliasBase)
  case holdFrames first last => exact congrArg₂ (fun u v => some (Instr.holdFrames slot u v)) (word_of_bytes first) (word_of_bytes last)
  case releaseFrames first last =>
    exact congrArg₂ (fun u v => some (Instr.releaseFrames slot u v)) (word_of_bytes first) (word_of_bytes last)
  case discardFrames first last =>
    exact congrArg₂ (fun u v => some (Instr.discardFrames slot u v)) (word_of_bytes first) (word_of_bytes last)
  case roll p => exact congrArg (fun v => some (Instr.roll slot v)) (rollAt_slotImage _ tag p)
  case setSpeed speed direction => exact congrArg (fun v => some (Instr.setSpeed slot v direction)) (half_of_bytes speed)
  case stopReplay => rfl
  case setGameClock value limit direction tenths =>
    exact congrArg₂ (fun u v => some (Instr.setGameClock slot u v direction tenths)) (word_of_bytes value) (word_of_bytes limit)
  case startClock => rfl
  case stopClock => rfl
  case adjustClock delta => exact congrArg (fun v => some (Instr.adjustClock slot v)) (word_of_bytes delta)
  case setMark mark present actions value =>
    exact congrArg (fun v => some (Instr.setMark slot mark present actions v)) (word_of_bytes value)
  case setShotClock preset follow startOnGame shotHorn =>
    exact congrArg (fun v => some (Instr.setShotClock slot v follow startOnGame shotHorn)) (word_of_bytes preset)
  case shotReset => rfl
  case shotStart => rfl
  case shotStop => rfl
  case shotBlank => rfl
  case setHorn periodTime shotTime endHorn =>
    exact congrArg₂ (fun u v => some (Instr.setHorn slot u v endHorn)) (half_of_bytes periodTime) (half_of_bytes shotTime)
  case soundHorn duration => exact congrArg (fun v => some (Instr.soundHorn slot v)) (half_of_bytes duration)
  case setLine => rfl
  case setCapture => rfl
  case setScore field value => exact congrArg (fun v => some (Instr.setScore slot field v)) (word_of_bytes value)
  case addScore field delta => exact congrArg (fun v => some (Instr.addScore slot field v)) (word_of_bytes delta)
  case setFlash frames => exact congrArg (fun v => some (Instr.setFlash slot v)) (half_of_bytes frames)
  case defineSpot p => exact congrArg (fun v => some (Instr.defineSpot slot v)) (spotAt_slotImage _ tag p)
  case withdrawSpot => rfl
  case setRotation zone count ids =>
    exact congrArg (fun l => some (Instr.setRotation slot zone count l)) (rotationAt_slotImage _ tag zone count (beq_iff_eq.mp hexact))
  case setSting => rfl
  case setContract id seconds => exact congrArg (fun v => some (Instr.setContract slot id v)) (word_of_bytes seconds)
  case resetTotals => rfl
  case postMessage p => exact congrArg (fun v => some (Instr.postMessage slot v)) (messageAt_slotImage _ tag (beq_iff_eq.mp hexact))
  case cancelMessage message => exact congrArg (fun v => some (Instr.cancelMessage slot v)) (half_of_bytes message)
  case clearMessages => rfl
  case setTicker speed gap => exact congrArg (fun v => some (Instr.setTicker slot speed v)) (half_of_bytes gap)

/-- Settles O54, from the slot's header and closing word and the reading of each payload. -/
theorem slotRoundTrip : Obligations.SlotRoundTrip := by
  unfold Obligations.SlotRoundTrip
  intro i slot kind tag hexact hslot hkind
  have hdecode := decodeCommand_slotImage tag hexact hslot
  rw [hkind, Option.elim_some] at hdecode
  rw [decodeSlot, slotImage_kind, slotImage_tag, slotImage_closing, if_neg (fun h => h rfl), hdecode]

end Sys2Proof.Machine
end

section
/-! PROOFS. The command unit's own commands and the codes of Chapter 11 (R179, R182, R183, Tables 11.2-11.5). -/

namespace Sys2Proof.Machine

/-! ### Kinds (Table 11.2) -/

theorem decodeCommand_large {slot : RingSlot} {lines : Byte} {k : Nat} {b : Nat → Byte} (h : 0x74 ≤ k) :
    decodeCommand slot lines k b = none := by
  unfold decodeCommand
  split
  case h_47 => rfl
  all_goals omega

theorem knownKind_large {kind : Half} (h : 0x74 ≤ kind.toNat) : knownKind kind = false := by
  rw [knownKind]
  simp only [Bool.or_eq_false_iff, Bool.and_eq_false_iff, decide_eq_false_iff_not]
  omega

/-- Whether a number is one of the codes of Table 11.2. -/
def knownCode (k : Nat) : Bool := knownKind (BitVec.ofNat 16 k)

theorem decodeCommand_small (slot : RingSlot) (lines : Byte) (b : Nat → Byte) :
    ∀ k, k < 0x74 → knownCode k = (decodeCommand slot lines k b).isSome := by
  intro k hk
  interval_cases k
  all_goals rfl

theorem knownKind_iff_decodes (slot : RingSlot) (lines : Byte) (kind : Half) (b : Nat → Byte) :
    knownKind kind = (decodeCommand slot lines kind.toNat b).isSome := by
  by_cases h : kind.toNat < 0x74
  · rw [← decodeCommand_small slot lines b kind.toNat h, knownCode, BitVec.ofNat_toNat, BitVec.setWidth_eq]
  · rw [knownKind_large (Nat.le_of_not_lt h), decodeCommand_large (Nat.le_of_not_lt h)]
    rfl

/-! ### Flags (R182, Table 11.5) -/

theorem flag_numbers :
    [Flag.cmdRefused, .planApplied, .modeChanged, .underrun, .filteredWrite, .intakeBlocked, .frameDuplicate, .trailerBad, .replayEnded,
      .replayStarved, .gcEnded, .scEnded, .mark0, .mark1, .capture0, .capture1, .capture2, .capture3, .consoleRefused, .contractMet,
      .creditSaturated, .logFull, .logReadHeld, .messageDone].map Flag.number = List.range 24 := by decide

theorem Flag.number_surjective {n : Nat} (h : n < 24) : ∃ f : Flag, f.number = n := by
  have hmem := List.mem_range.mpr h
  rw [← flag_numbers, List.mem_map] at hmem
  obtain ⟨f, -, hf⟩ := hmem
  exact ⟨f, hf⟩

theorem acknowledged_flagged (s : State) (mask : Word) (f : Flag) :
    (acknowledged s.command.flags mask).getLsbD f.number = (s.flagged f && !mask.getLsbD f.number) := by
  have h := Flag.number_lt f
  simp [acknowledged, State.flagged, h]

/-- ATTN* is active exactly if a flag of the mask is raised. -/
theorem attnActive_iff {s : State} {mask : Word} (h : s.command.attnMask = mask.setWidth 24) :
    s.attnActive = true ↔ ∃ f : Flag, s.flagged f = true ∧ mask.getLsbD f.number = true := by
  have hbit : ∀ n, n < 24 → ((s.command.flags &&& s.command.attnMask).getLsbD n = true ↔
      s.command.flags.getLsbD n = true ∧ mask.getLsbD n = true) := by
    intro n hn
    rw [h, BitVec.getLsbD_and, BitVec.getLsbD_setWidth, decide_eq_true hn, Bool.true_and, Bool.and_eq_true]
  rw [State.attnActive, bne_iff_ne]
  constructor
  · intro hne
    by_contra hnone
    refine hne (BitVec.eq_of_getLsbD_eq fun n hn => ?_)
    rw [show (0 : BitVec 24).getLsbD n = false from BitVec.getLsbD_zero]
    refine Bool.eq_false_iff.mpr fun hset => hnone ?_
    obtain ⟨f, rfl⟩ := Flag.number_surjective hn
    exact ⟨f, (hbit _ hn).mp hset⟩
  · rintro ⟨f, hf, hm⟩ hzero
    have hset := (hbit _ (Flag.number_lt f)).mpr ⟨hf, hm⟩
    rw [hzero] at hset
    exact Bool.false_ne_true (BitVec.getLsbD_zero.symm.trans hset)

/-! ### Choices (Table 11.3) -/

theorem onOff_coded (c : Byte) : onOff c = [false, true][c.toNat]? := by
  unfold onOff
  exact match c.toNat with
    | 0 => rfl
    | 1 => rfl
    | _ + 2 => rfl

theorem outputMode_coded (c : Byte) : outputMode c = [OutputMode.normal, .black, .white, .slateOnly][c.toNat]? := by
  unfold outputMode
  exact match c.toNat with
    | 0 => rfl
    | 1 => rfl
    | 2 => rfl
    | 3 => rfl
    | _ + 4 => rfl

theorem rollDirection_coded (c : Byte) : rollDirection c = [RollDirection.forward, .reverse][c.toNat]? := by
  unfold rollDirection
  exact match c.toNat with
    | 0 => rfl
    | 1 => rfl
    | _ + 2 => rfl

theorem endMode_coded (c : Byte) : endMode c = [EndMode.hold, .release][c.toNat]? := by
  unfold endMode
  exact match c.toNat with
    | 0 => rfl
    | 1 => rfl
    | _ + 2 => rfl

theorem clockDirection_coded (c : Byte) : clockDirection c = [ClockDirection.down, .up][c.toNat]? := by
  unfold clockDirection
  exact match c.toNat with
    | 0 => rfl
    | 1 => rfl
    | _ + 2 => rfl

theorem lineFunction_coded (c : Byte) :
    lineFunction c = [LineFunction.none, .start, .stop, .run, .shotReset, .shotToggle, .horn][c.toNat]? := by
  unfold lineFunction
  exact match c.toNat with
    | 0 => rfl
    | 1 => rfl
    | 2 => rfl
    | 3 => rfl
    | 4 => rfl
    | 5 => rfl
    | 6 => rfl
    | _ + 7 => rfl

theorem captureEdge_coded (c : Byte) : captureEdge c = [CaptureEdge.rising, .falling, .any][c.toNat]? := by
  unfold captureEdge
  exact match c.toNat with
    | 0 => rfl
    | 1 => rfl
    | 2 => rfl
    | _ + 3 => rfl

theorem spotClass_coded (c : Byte) : spotClass c = [SpotClass.any, .runningOnly, .stoppedOnly][c.toNat]? := by
  unfold spotClass
  exact match c.toNat with
    | 0 => rfl
    | 1 => rfl
    | 2 => rfl
    | _ + 3 => rfl

/-- Every source but LINE is read from its own byte alone. -/
theorem captureSource_coded {c : Byte} (line edge : Byte) (h : c ≠ 1) :
    captureSource c line edge = [CaptureSource.off, .off, .gcStart, .gcStop, .gcEnd, .scEnd, .scoreChange, .mark][c.toNat]? := by
  have hne : c.toNat ≠ 1 := fun h1 => h (BitVec.eq_of_toNat_eq h1)
  unfold captureSource
  exact match c.toNat, hne with
    | 0, _ => rfl
    | 1, h1 => absurd rfl h1
    | 2, _ => rfl
    | 3, _ => rfl
    | 4, _ => rfl
    | 5, _ => rfl
    | 6, _ => rfl
    | 7, _ => rfl
    | _ + 8, _ => rfl

theorem captureSource_line {line edge : Byte} {n : Fin 8} {e : CaptureEdge} (hline : line.toNat = n.val) (hedge : captureEdge edge = some e) :
    captureSource 1 line edge = some (.line n e) := by
  have hn : lineNumber line = some n := by
    rw [lineNumber, dif_pos (by rw [hline]; exact n.isLt)]
    exact congrArg some (Fin.ext hline)
  show (match lineNumber line, captureEdge edge with
    | some n, some e => some (CaptureSource.line n e)
    | _, _ => none) = _
  rw [hn, hedge]

theorem zoneSource_coded (c : Byte) :
    zoneSource c = ([ZoneSource.fill, .slate, .sponsor, .replay, .scorebug, .ticker][c.toNat]?).getD (.unknown c) := by
  unfold zoneSource
  exact match c.toNat with
    | 0 => rfl
    | 1 => rfl
    | 2 => rfl
    | 3 => rfl
    | 4 => rfl
    | 5 => rfl
    | _ + 6 => rfl

/-! ### The commands -/

theorem exec_unknownKind {slot : RingSlot} {kind tag : Half} {closing : Word} {s : State} {code : ResultCode} (hrun : s.phase = .running)
    (h : slotRefusal kind tag closing = some code) : Answers (.unknownKind slot kind tag closing) slot s s (Result.plain code) := by
  show execUnknownKind slot kind tag closing s = _
  rw [execUnknownKind, h]
  exact hostCommand_running hrun

/-- Settles O52, command by command and table by table. -/
theorem commandUnitTakesAndRefuses : Obligations.CommandUnitTakesAndRefuses := by
  unfold Obligations.CommandUnitTakesAndRefuses
  refine ⟨⟨fun slot kind tag closing s hrun => ⟨fun hne => ?_, fun heq hunknown => ?_⟩, knownKind_iff_decodes⟩,
    fun slot mask s hrun => ⟨?_, ?_, ?_, ?_⟩, ⟨flag_numbers, ?_, fun s f g => ⟨rfl, State.raise_flagged_eq f g s⟩⟩, fun c => ?_⟩
  · exact exec_unknownKind hrun (if_pos hne)
  · refine exec_unknownKind hrun ((if_neg fun h => h heq).trans (if_neg ?_))
    rw [hunknown]
    exact Bool.false_ne_true
  · exact answers_of_rule rfl hrun rfl
  · exact ⟨_, answers_of_rule rfl hrun rfl, acknowledged_flagged s mask, rfl⟩
  · refine ⟨_, answers_of_rule rfl hrun rfl, fun n hn => ?_, attnActive_iff rfl, rfl⟩
    rw [BitVec.getLsbD_setWidth, decide_eq_true hn, Bool.true_and]
  · exact answers_of_rule rfl hrun rfl
  · decide
  · exact ⟨onOff_coded c, outputMode_coded c, rollDirection_coded c, endMode_coded c, clockDirection_coded c, lineFunction_coded c,
      captureEdge_coded c, spotClass_coded c,
      fun line edge => ⟨captureSource_coded line edge, fun n e => captureSource_line⟩, zoneSource_coded c⟩

end Sys2Proof.Machine
end

section
/-! PROOFS. Write beats (R164-R168, Table 10.4): the region an address falls under, what each region does with a beat, the closed
addresses, and the order of a burst's beats. -/

namespace Sys2Proof.Machine

/-! ### Regions -/

theorem classify_control {s : State} {a : Nat} (h : s.controlBase ≤ a) : classify s a = controlRow (a - s.controlBase) := if_pos h

theorem classify_alias {s : State} {a : Nat} {r : RingDecl} (hbelow : a < s.controlBase) (hring : s.intake.ring = some r)
    (hlow : r.aliasBase ≤ a) (hhigh : a < r.aliasBase + r.slotBytes) : classify s a = aliasRow s.intake r a := by
  rw [classify, if_neg (Nat.not_le.mpr hbelow), hring]
  exact if_pos (inRange_iff.mpr ⟨hlow, hhigh⟩)

theorem classify_plain {s : State} {a : Nat} (hbelow : a < s.controlBase)
    (hout : ∀ r, s.intake.ring = some r → a < r.aliasBase ∨ r.aliasBase + r.slotBytes ≤ a) : classify s a = plainRow s a := by
  rw [classify, if_neg (Nat.not_le.mpr hbelow)]
  split
  · next r hr =>
    refine if_neg fun hin => ?_
    obtain ⟨hlow, hhigh⟩ := inRange_iff.mp hin
    have hside := hout r hr
    omega
  · rfl

theorem plainRow_open {s : State} {a : Nat} (h : s.closed a = false) : plainRow s a = .ordinary := by
  rw [State.closed, Bool.or_eq_false_iff] at h
  rw [plainRow, if_neg (by rw [h.1]; exact Bool.false_ne_true), if_neg (by rw [h.2]; exact Bool.false_ne_true)]

theorem plainRow_closed {s : State} {a : Nat} (h : s.closed a = true) : plainRow s a = .pinned ∨ plainRow s a = .onAirArt := by
  rw [State.closed, Bool.or_eq_true] at h
  unfold plainRow
  by_cases hpinned : s.intake.inPinnedSlot a = true
  · exact .inl (if_pos hpinned)
  · exact .inr ((if_neg hpinned).trans (if_pos (h.resolve_left hpinned)))

/-! ### One beat -/

theorem exec_writeBeat (data : Beat) (mask : Byte) {s : State} {t : HostTransaction} (hrun : s.phase = .running)
    (ht : s.port.transaction = some t) (hwrite : t.request.isWrite = true) (hbeats : t.beats < burstBeats t.request.length) :
    exec (.writeBeat data mask) s = .next (writeBeat data mask t s) := by
  have hexpects : t.expectsBeat = true := by rw [HostTransaction.expectsBeat, hwrite, decide_eq_true hbeats]; rfl
  show execWriteBeat data mask s = _
  rw [execWriteBeat, ht]
  exact if_pos ⟨hrun, hexpects⟩

theorem writeBeat_masked (data : Beat) (t : HostTransaction) (s : State) : writeBeat data 0 t s = setTransaction (some t.counted) s := by
  rw [writeBeat]
  exact if_pos rfl

/-- A beat with an unmasked byte does what its row says. -/
theorem writeBeat_row (data : Beat) {mask : Byte} (hmask : mask ≠ 0) {t : HostTransaction} {s : State} {row : BeatRow}
    (hrow : classify s (s.beatAddr t.request t.beats) = row) :
    writeBeat data mask t s =
      setTransaction (some (rowEffect row (s.beatAddr t.request t.beats) data mask t s).2.counted)
        (rowEffect row (s.beatAddr t.request t.beats) data mask t s).1 := by
  rw [← hrow, writeBeat]
  exact if_neg hmask

theorem maskWritesWord_iff (mask : Byte) (j : Nat) : maskWritesWord mask j = true ↔
    mask.getLsbD j = true ∧ mask.getLsbD (j + 1) = true ∧ mask.getLsbD (j + 2) = true ∧ mask.getLsbD (j + 3) = true := by
  rw [maskWritesWord, Bool.and_eq_true, Bool.and_eq_true, Bool.and_eq_true, and_assoc, and_assoc]
  rfl

/-- A byte of the ring shadow after a beat's bytes at the positions of a list have been copied. -/
theorem shadowByte_shadowBeat (o : Nat) (d : Beat) (k : Byte) (x : Nat) : ∀ (js : List Nat) (s : State),
    s.command.shadow.wf (some 0) = true →
    (shadowBeat o d k js s).shadowByte x =
      if o ≤ x ∧ (x - o) ∈ js ∧ maskWrites k (x - o) = true then beatByte d (x - o) else s.shadowByte x
  | [], s, _ => by simp [shadowBeat]
  | j :: rest, s, hwf => by
    have hwf' : (if maskWrites k j = true then s.putShadow (o + j) (beatByte d j) else s).command.shadow.wf (some 0) = true := by
      split
      · exact Memory.write_wf _ _ hwf
      · exact hwf
    unfold shadowBeat
    rw [shadowByte_shadowBeat o d k x rest _ hwf']
    by_cases hx : x = o + j
    · subst hx
      cases hm : maskWrites k j
      · simp [hm]
      · simp [hm, State.shadowByte_putShadow_same s _ _ hwf]
    · have hs : (if maskWrites k j = true then s.putShadow (o + j) (beatByte d j) else s).shadowByte x = s.shadowByte x := by
        split
        · exact State.shadowByte_putShadow_other s _ hx
        · rfl
      rw [hs]
      by_cases hle : o ≤ x
      · have hne : x - o ≠ j := by omega
        simp [hne]
      · simp [hle]

theorem mem_beatPositions (n : Nat) : n ∈ beatPositions ↔ n < 8 := by
  simp only [beatPositions, List.mem_cons, List.not_mem_nil, or_false]
  omega

theorem shadowByte_ringBeat {o j : Nat} {d : Beat} {k : Byte} {s : State} (hwf : s.command.shadow.wf (some 0) = true) (hj : j < 8) :
    (shadowBeat o d k beatPositions s).shadowByte (o + j) =
      if k.getLsbD j = true then d.extractLsb' (8 * j) 8 else s.shadowByte (o + j) := by
  rw [shadowByte_shadowBeat _ _ _ _ _ _ hwf, Nat.add_sub_cancel_left]
  exact if_congr ⟨fun h => h.2.2, fun h => ⟨Nat.le_add_right .., (mem_beatPositions j).mpr hj, h⟩⟩ rfl rfl

theorem shadowByte_ringBeat_other {o x : Nat} {d : Beat} {k : Byte} {s : State} (hwf : s.command.shadow.wf (some 0) = true)
    (h : x < o ∨ o + 8 ≤ x) : (shadowBeat o d k beatPositions s).shadowByte x = s.shadowByte x := by
  rw [shadowByte_shadowBeat _ _ _ _ _ _ hwf]
  refine if_neg fun ⟨hle, hmem, _⟩ => ?_
  have hlt := (mem_beatPositions _).mp hmem
  omega

theorem slotBytes_eq (r : RingDecl) : r.slotBytes = (r.w * r.h + 1) * 4096 := rfl

theorem writesCompletion_iff {r : RingDecl} {a : Nat} {mask : Byte} (h : r.aliasBase ≤ a) :
    writesCompletion r (a - r.aliasBase) mask = true ↔
      a = r.aliasBase + r.w * r.h * 4096 + 24 ∧ mask.getLsbD 4 = true ∧ mask.getLsbD 5 = true ∧ mask.getLsbD 6 = true ∧
        mask.getLsbD 7 = true := by
  have htrailer : r.trailerOffset = r.w * r.h * 4096 := rfl
  rw [writesCompletion, Bool.and_eq_true, beq_iff_eq, maskWritesWord_iff, htrailer]
  refine and_congr_left fun _ => ?_
  omega

theorem shadowTrailer_get {r : RingDecl} {a : Nat} {data : Beat} {mask : Byte} {v : Vector Byte 32} (h : r.aliasBase ≤ a) (n : Fin 32) :
    (shadowTrailer r (a - r.aliasBase) data mask v)[n] =
      if a ≤ r.aliasBase + r.w * r.h * 4096 + n.val ∧ r.aliasBase + r.w * r.h * 4096 + n.val < a + 8 ∧
          mask.getLsbD (r.aliasBase + r.w * r.h * 4096 + n.val - a) = true then
        data.extractLsb' (8 * (r.aliasBase + r.w * r.h * 4096 + n.val - a)) 8
      else v[n] := by
  have htrailer : r.trailerOffset = r.w * r.h * 4096 := rfl
  have hdiff : r.w * r.h * 4096 + n.val - (a - r.aliasBase) = r.aliasBase + r.w * r.h * 4096 + n.val - a := by omega
  rw [shadowTrailer, Fin.getElem_fin, Vector.getElem_ofFn]
  dsimp only
  rw [htrailer, hdiff]
  refine if_congr ?_ rfl rfl
  rw [maskWrites]
  refine and_congr ?_ (and_congr_left fun _ => ?_)
  · omega
  · omega

/-! ### Closed addresses (rows 8 and 9) -/

/-- The slot that an address lies in. -/
theorem div_eq_iff_within {base size a k : Nat} (hsize : 0 < size) (hbase : base ≤ a) :
    (a - base) / size = k ↔ base + k * size ≤ a ∧ a < base + (k + 1) * size := by
  rw [Nat.div_eq_iff hsize]
  have hsucc : (k + 1) * size = k * size + size := Nat.succ_mul k size
  omega

theorem inPinnedSlot_iff {n : Intake} {a : Nat} : n.inPinnedSlot a = true ↔
    ∃ r k x, n.ring = some r ∧ k < r.count ∧ n.slots[k]? = some x ∧ 0 < x.pins ∧
      r.ringBase + k * ((r.w * r.h + 1) * 4096) ≤ a ∧ a < r.ringBase + (k + 1) * ((r.w * r.h + 1) * 4096) := by
  unfold Intake.inPinnedSlot
  cases hring : n.ring with
  | none => simp
  | some r =>
    have hsize : 0 < r.slotBytes := by rw [slotBytes_eq]; omega
    have hbytes : r.ringBytes = r.count * r.slotBytes := rfl
    dsimp only
    rw [Bool.and_eq_true, inRange_iff, hbytes]
    constructor
    · rintro ⟨⟨hlow, hhigh⟩, hpins⟩
      cases hx : n.slots[(a - r.ringBase) / r.slotBytes]? with
      | none =>
        rw [hx] at hpins
        exact nomatch hpins
      | some x =>
        rw [hx, Option.elim_some, decide_eq_true_iff] at hpins
        obtain ⟨hfrom, hto⟩ := (div_eq_iff_within hsize hlow).mp rfl
        refine ⟨r, _, x, rfl, ?_, hx, hpins, hfrom, hto⟩
        exact (Nat.div_lt_iff_lt_mul hsize).mpr (by omega)
    · rintro ⟨r', k, x, hr', hk, hx, hpins, hfrom, hto⟩
      cases hr'
      have hlow : r.ringBase ≤ a := by omega
      have hindex : (a - r.ringBase) / r.slotBytes = k := (div_eq_iff_within hsize hlow).mpr ⟨hfrom, hto⟩
      have hhigh : (k + 1) * r.slotBytes ≤ r.count * r.slotBytes := Nat.mul_le_mul_right _ hk
      rw [← slotBytes_eq] at hto
      refine ⟨⟨hlow, by omega⟩, ?_⟩
      rw [hindex, hx]
      exact decide_eq_true hpins

theorem inOnAirArt_iff {u : RotationUnit} {a : Nat} : u.inOnAirArt a = true ↔
    ∃ (z : ZoneIx) (h : Showing) (p : Spot), (u.zones[z]).showing = some h ∧ u.spot h.spotId = some p ∧
      p.artBase ≤ a ∧ a < p.artBase + p.artW * p.artH * 4096 := by
  unfold RotationUnit.inOnAirArt
  rw [List.any_eq_true]
  refine exists_congr fun z => ⟨fun ⟨_, hz⟩ => ?_, fun ⟨h, p, hh, hp, hlow, hhigh⟩ => ⟨mem_allZones z, ?_⟩⟩
  · cases hh : (u.zones[z]).showing with
    | none =>
      rw [hh] at hz
      exact nomatch hz
    | some h =>
      rw [hh, Option.elim_some] at hz
      cases hp : u.spot h.spotId with
      | none =>
        rw [hp] at hz
        exact nomatch hz
      | some p =>
        rw [hp, Option.elim_some] at hz
        exact ⟨h, p, rfl, hp, inRange_iff.mp hz⟩
  · rw [hh, Option.elim_some, hp, Option.elim_some]
    exact inRange_iff.mpr ⟨hlow, hhigh⟩

/-! ### The order of the beats (R165, Table 10.3) -/

theorem burstBeats_pow (l : BurstLength) : ∃ n, burstBeats l = 2 ^ n := by
  cases l
  case one => exact ⟨0, rfl⟩
  case two => exact ⟨1, rfl⟩
  case four => exact ⟨2, rfl⟩
  case eight => exact ⟨3, rfl⟩

theorem burstBeats_pos (l : BurstLength) : 0 < burstBeats l := by
  cases l <;> decide

theorem startIndex_lt (a : Nat) (l : BurstLength) : startIndex a l < burstBeats l := by
  have hpos := burstBeats_pos l
  have hmod : a % (8 * burstBeats l) < 8 * burstBeats l := Nat.mod_lt _ (by omega)
  rw [startIndex, blockBytes]
  omega

/-- Each index of a block is carried by one beat. -/
theorem beatIndex_bijective {bord : Bool} {l : BurstLength} {start i : Nat} (hstart : start < burstBeats l) (hi : i < burstBeats l) :
    ∃ k, k < burstBeats l ∧ beatIndex bord l start k = i ∧ ∀ k', k' < burstBeats l → beatIndex bord l start k' = i → k' = k := by
  cases bord with
  | true =>
    obtain ⟨n, hn⟩ := burstBeats_pow l
    have hcancel : ∀ k, start ^^^ (start ^^^ k) = k := fun k => by rw [← Nat.xor_assoc, Nat.xor_self, Nat.zero_xor]
    refine ⟨start ^^^ i, ?_, hcancel i, fun k' _ h => ?_⟩
    · rw [hn] at hstart hi ⊢
      exact Nat.xor_lt_two_pow hstart hi
    · rw [← show start ^^^ k' = i from h, hcancel]
  | false =>
    have hindex : ∀ k, beatIndex false l start k = (start + k) % burstBeats l := fun _ => rfl
    refine ⟨(i + burstBeats l - start) % burstBeats l, Nat.mod_lt _ (burstBeats_pos l), ?_, fun k' hk' h => ?_⟩
    · rw [hindex, Nat.add_mod_mod, show start + (i + burstBeats l - start) = i + burstBeats l by omega, Nat.add_mod_right,
        Nat.mod_eq_of_lt hi]
    · rw [hindex] at h
      rw [← h]
      have hcases : start + k' < burstBeats l ∨ burstBeats l ≤ start + k' := Nat.lt_or_ge _ _
      rcases hcases with hlt | hge
      · rw [Nat.mod_eq_of_lt hlt, show start + k' + burstBeats l - start = k' + burstBeats l by omega, Nat.add_mod_right,
          Nat.mod_eq_of_lt hk']
      · have hwrap : (start + k') % burstBeats l = start + k' - burstBeats l := by
          rw [Nat.mod_eq_sub_mod hge, Nat.mod_eq_of_lt (by omega)]
        rw [hwrap, show start + k' - burstBeats l + burstBeats l - start = k' by omega, Nat.mod_eq_of_lt hk']

theorem counted_eq (t : HostTransaction) :
    t.counted = { t with
      beats := t.beats + 1
      state := if t.beats + 1 = burstBeats t.request.length ∧ t.forward ≠ [] then .waiting else t.state } := by
  rw [HostTransaction.counted]
  simp only [List.isEmpty_eq_false_iff, ne_eq]

theorem memSize_eq (s : State) :
    s.memSize = (if s.straps.msize = 0 then 0x08000000 else if s.straps.msize = 1 then 0x10000000 else 0x20000000) := by
  have hzero : s.straps.msize = 0 ↔ s.straps.msize.toNat = 0 := ⟨fun h => by rw [h]; rfl, fun h => BitVec.eq_of_toNat_eq h⟩
  have hone : s.straps.msize = 1 ↔ s.straps.msize.toNat = 1 := ⟨fun h => by rw [h]; rfl, fun h => BitVec.eq_of_toNat_eq h⟩
  rw [State.memSize]
  simp only [hzero, hone]
  split
  · next h => rw [if_pos h]
  · next h => rw [h, if_neg (by decide), if_pos rfl]
  · next h h' => rw [if_neg h, if_neg h']

theorem controlBase_add (s : State) : s.controlBase + 0x10000 = s.memSize := by
  have hbase : s.controlBase = s.memSize - 0x10000 := rfl
  have hsize : 0x10000 ≤ s.memSize := by
    rw [memSize_eq]
    split
    · decide
    · split <;> decide
  omega

theorem watchedValue_orElse (data : Beat) (mask : Byte) (w : Option Word) : ((watchedValue data mask).orElse fun _ => w) =
    if mask.getLsbD 0 = true ∧ mask.getLsbD 1 = true ∧ mask.getLsbD 2 = true ∧ mask.getLsbD 3 = true then
      some (data.extractLsb' 0 32) else w := by
  rw [watchedValue, ← if_congr (maskWritesWord_iff mask 0) rfl rfl]
  split <;> rfl

theorem closedSlot_orElse (o : Nat) (mask : Byte) (w : Option RingSlot) : ((closedSlot o mask).orElse fun _ => w) =
    if o % 256 = 248 ∧ mask.getLsbD 4 = true ∧ mask.getLsbD 5 = true ∧ mask.getLsbD 6 = true ∧ mask.getLsbD 7 = true then
      some (Fin.ofNat 64 (o / 256)) else w := by
  rw [closedSlot, ← if_congr (and_congr_right' (maskWritesWord_iff mask 4)) rfl rfl]
  split <;> rfl

theorem rowEffect_readWord (a : Nat) (data : Beat) (mask : Byte) (t : HostTransaction) (s : State) :
    rowEffect .readWord a data mask t s = (s, { t with
      forward := t.forward ++ [{ addr := a, data := data, mask := mask, remapped := false }]
      watched :=
        if mask.getLsbD 0 = true ∧ mask.getLsbD 1 = true ∧ mask.getLsbD 2 = true ∧ mask.getLsbD 3 = true then
          some (data.extractLsb' 0 32)
        else t.watched }) := by
  rw [← watchedValue_orElse]
  rfl

theorem rowEffect_ring (o a : Nat) (data : Beat) (mask : Byte) (t : HostTransaction) (s : State) :
    rowEffect (.ring o) a data mask t s = (shadowBeat o data mask beatPositions s, { t with
      forward := t.forward ++ [{ addr := a, data := data, mask := mask, remapped := false }]
      closing :=
        if o % 256 = 248 ∧ mask.getLsbD 4 = true ∧ mask.getLsbD 5 = true ∧ mask.getLsbD 6 = true ∧ mask.getLsbD 7 = true then
          some (Fin.ofNat 64 (o / 256))
        else t.closing }) := by
  rw [← closedSlot_orElse]
  rfl

theorem rowEffect_steeredTo {s : State} {r : RingDecl} (hring : s.intake.ring = some r) (k o a : Nat) (data : Beat) (mask : Byte)
    (t : HostTransaction) : rowEffect (.steeredTo k o) a data mask t s =
      (setTrailer (shadowTrailer r o data mask s.intake.trailer) s, { t with
        forward := t.forward ++ [{ addr := r.ringBase + k * r.slotBytes + o, data := data, mask := mask, remapped := true }]
        completion := t.completion || writesCompletion r o mask }) := by
  rw [rowEffect, remapBeat, hring]
  rfl

theorem setTransaction_shadowBeat_frame (x : Option HostTransaction) (o : Nat) (d : Beat) (k : Byte) (js : List Nat) (s : State) :
    setTransaction x (shadowBeat o d k js s) = { s with
      command := { s.command with shadow := (shadowBeat o d k js s).command.shadow }
      port := { s.port with transaction := x } } := by
  obtain ⟨m, hm⟩ := shadowBeat_frame o d k js s
  rw [hm]
  rfl

theorem setTransaction_setTrailer_frame (x : Option HostTransaction) (v : Vector Byte 32) (s : State) :
    setTransaction x (setTrailer v s) = { s with
      intake := { s.intake with trailer := (setTrailer v s).intake.trailer }
      port := { s.port with transaction := x } } := rfl

theorem beatAddr_eq (s : State) (q : HostRequest) (k : Nat) : s.beatAddr q k =
    q.addr / (8 * burstBeats q.length) * (8 * burstBeats q.length) +
      8 * (if s.straps.bord = true then q.addr % (8 * burstBeats q.length) / 8 ^^^ k
        else (q.addr % (8 * burstBeats q.length) / 8 + k) % burstBeats q.length) := rfl

/-- A block index is carried by one beat of a request. -/
theorem beatAddr_unique (s : State) (q : HostRequest) {i : Nat} (hi : i < burstBeats q.length) :
    ∃ k, k < burstBeats q.length ∧ s.beatAddr q k = blockBase q.addr q.length + 8 * i ∧
      ∀ k', k' < burstBeats q.length → s.beatAddr q k' = blockBase q.addr q.length + 8 * i → k' = k := by
  have hbeat : ∀ k, s.beatAddr q k = blockBase q.addr q.length + 8 * i ↔ s.beatOf q k = i := fun k => by
    rw [State.beatAddr]
    omega
  obtain ⟨k, hk, hcarries, honly⟩ := beatIndex_bijective (bord := s.straps.bord) (startIndex_lt q.addr q.length) hi
  exact ⟨k, hk, (hbeat k).mpr hcarries, fun k' hk' h => honly k' hk' ((hbeat k').mp h)⟩

/-- Settles O48, region by region. -/
theorem writeBeatByRegion : Obligations.WriteBeatByRegion := by
  unfold Obligations.WriteBeatByRegion
  refine ⟨fun data mask s t hrun ht hwrite hbeats => ?_, fun s a => ?_, fun s q => ?_, counted_eq, fun s => ⟨memSize_eq s, controlBase_add s⟩⟩
  · have hexec := exec_writeBeat data mask hrun ht hwrite hbeats
    intro a dropped sent
    have hrow : ∀ row : BeatRow, mask ≠ 0 → classify s a = row → exec (.writeBeat data mask) s =
        .next (setTransaction (some (rowEffect row a data mask t s).2.counted) (rowEffect row a data mask t s).1) :=
      fun row hmask hclass => hexec.trans (congrArg Host.Outcome.next (writeBeat_row data hmask hclass))
    have hcontrol : ∀ row, s.controlBase ≤ a → controlRow (a - s.controlBase) = row → classify s a = row :=
      fun row hbase hoffset => (classify_control hbase).trans hoffset
    refine ⟨fun hmask => ?_, fun hmask hlow hhigh => ?_, fun hmask hlow => ?_, fun hmask hlow hhigh => ?_, fun hmask hlow hhigh => ?_,
      fun hmask hlow hhigh hwf => ?_, fun r hmask hbelow hring hlow hhigh => ⟨fun hnone => ?_, fun k hk => ?_⟩,
      fun hmask hbelow hout => ⟨fun hclosed => ?_, fun hopen => ?_⟩⟩
    · rw [hexec, hmask, writeBeat_masked]
    · refine hrow .status hmask (hcontrol _ (by omega) ?_)
      rw [controlRow, if_neg (by omega), if_pos (by omega)]
    · refine hrow .log hmask (hcontrol _ (by omega) ?_)
      rw [controlRow, if_neg (by omega), if_neg (by omega), if_neg (by omega), if_neg (by omega)]
    · refine hrow .control hmask (hcontrol _ (by omega) ?_)
      rw [controlRow, if_neg (by omega), if_neg (by omega), if_neg (by omega), if_pos (by omega)]
    · rw [hrow .readWord hmask (hcontrol _ (by omega) ?_)]
      · rw [rowEffect_readWord]
      · rw [controlRow, if_neg (by omega), if_neg (by omega), if_pos (by omega)]
    · have hnext := hrow (.ring (a - s.controlBase)) hmask (hcontrol _ hlow (if_pos (by omega)))
      rw [rowEffect_ring] at hnext
      refine ⟨_, _, hnext, rfl, rfl, rfl, ?_, fun j hj => ?_, fun o ho => ?_, setTransaction_shadowBeat_frame ..⟩
      · rw [counted_eq]
      · exact shadowByte_ringBeat hwf hj
      · exact shadowByte_ringBeat_other hwf ho
    · refine hrow .blocked hmask ((classify_alias hbelow hring hlow hhigh).trans ?_)
      rw [aliasRow, hnone]
    · have hclass : classify s a = .steeredTo k (a - r.aliasBase) := by
        rw [classify_alias hbelow hring hlow hhigh, aliasRow, hk]
      have hnext := hrow _ hmask hclass
      rw [rowEffect_steeredTo hring] at hnext
      refine ⟨_, _, hnext, rfl, rfl, ?_, fun n => shadowTrailer_get hlow n, setTransaction_setTrailer_frame ..⟩
      rw [counted_eq]
      exact congrArg (t.completion || ·) (Bool.eq_iff_iff.mpr ((writesCompletion_iff hlow).trans decide_eq_true_iff.symm))
    · have hclass := classify_plain hbelow hout
      rcases plainRow_closed hclosed with hpinned | hart
      · exact hrow .pinned hmask (hclass.trans hpinned)
      · exact hrow .onAirArt hmask (hclass.trans hart)
    · exact hrow .ordinary hmask ((classify_plain hbelow hout).trans (plainRow_open hopen))
  · rw [State.closed, Bool.or_eq_true, inPinnedSlot_iff, inOnAirArt_iff]
  · intro l base start
    have hl : burstBeats q.length = l := by
      show burstBeats q.length = match q.length with | .one => 1 | .two => 2 | .four => 4 | .eight => 8
      cases q.length <;> rfl
    clear_value l
    subst hl
    exact ⟨rfl, fun k _ => beatAddr_eq s q k, fun i hi => beatAddr_unique s q hi⟩

end Sys2Proof.Machine
end

section
/-! PROOFS. The end of an access (R22, R166, R168, R169, R171, R172, R174, R185): what each kind of access leaves, after which the
arbiter chooses as with the SDRAM free. -/

namespace Sys2Proof.Machine

/-- What a state has become once the access in progress has ended, its blocks have been sent, and no access is left: the arbiter then
chooses as in that state. -/
theorem exec_accessEnd_after {i : ChoiceInput} (first : WriterBlock) {s v : State} (hrun : s.phase = .running)
    (hfinish : sendBlocks i.sent (finishAccess s) = v) (hphase : v.phase = .running) (haccess : v.memctl.access = none) :
    exec (.accessEnd i first) s = exec (.accessEnd { i with sent := 0 } first) v := by
  rw [exec_accessEnd i first (by rw [hrun]; exact nofun), exec_accessEnd _ first (by rw [hphase]; exact nofun),
    accessEnd_idle first rfl haccess, accessEnd, hfinish]
  rfl

theorem memBytes_length (s : State) : ∀ (n a : Nat), (s.memBytes a n).length = n
  | 0, _ => rfl
  | n + 1, a => congrArg (· + 1) (memBytes_length s n (a + 1))

theorem memBytes_getElem? (s : State) : ∀ (n a j : Nat), j < n → (s.memBytes a n)[j]? = some (s.memByte (a + j))
  | n + 1, a, 0, _ => rfl
  | n + 1, a, j + 1, h => by
    rw [show a + (j + 1) = a + 1 + j by omega, ← memBytes_getElem? s n (a + 1) j (by omega)]
    rfl

theorem pointCell_eq (r : FrameRecord) (p : Nat) :
    r.pointCell p = (p / 4 % (2 * r.w) / 2, p / 4 / (2 * r.w) / 32) := rfl

/-- A block whose frame is over or whose cell was sent late is dropped (R22). -/
theorem fetchDone_dropped {p : Nat} (a : Nat) {s : State}
    (h : s.panel.fetchAt ≤ p ∨ s.composer.record.pointCell p ∈ s.panel.late) : fetchDone p a s = s :=
  if_pos (h.imp_right List.contains_iff_mem.mpr)

theorem fetchDone_kept {p : Nat} (a : Nat) {s : State} (hpoint : p < s.panel.fetchAt)
    (hlate : s.composer.record.pointCell p ∉ s.panel.late) : fetchDone p a s =
      { s with panel := { s.panel with lineBuffer := s.panel.lineBuffer ++ [{ addr := a, bytes := s.memBytes a 64 }] } } :=
  if_neg (not_or.mpr ⟨Nat.not_le.mpr hpoint, fun h => hlate (List.contains_iff_mem.mp h)⟩)

theorem landWrite_eq (w : PartWrite) (s : State) : landWrite w s = { s with
    mem := (landWrite w s).mem
    command := { s.command with statusInFlight := if w.offset = 0x4FFC then false else s.command.statusInFlight } } := by
  have htail : tailOffset = 0x4FFC := rfl
  rw [landWrite, State.putBytes_frame, htail]
  dsimp only
  split <;> rfl

theorem finishAccess_refresh {s : State} (h : s.memctl.access = some .refresh) : finishAccess s = clearAccess s := by
  rw [finishAccess, h]

theorem finishAccess_none {s : State} (h : s.memctl.access = none) : finishAccess s = clearAccess s := by
  rw [finishAccess, h]
  show s = { s with memctl := { s.memctl with access := none } }
  rw [← h]

theorem finishAccess_scan {s : State} {p a : Nat} (h : s.memctl.access = some (.scan p a)) :
    finishAccess s = clearAccess (fetchDone p a s) := by
  rw [finishAccess, h]

theorem finishAccess_queueEntry {s : State} {w : PartWrite} (h : s.memctl.access = some (.queueEntry w)) :
    finishAccess s = clearAccess (landWrite w s) := by
  rw [finishAccess, h]

theorem finishAccess_playout {s : State} (h : s.memctl.access = some .playout) : finishAccess s = clearAccess (servePlayout s) := by
  rw [finishAccess, h]

theorem servePlayout_write {s : State} {t : HostTransaction} (ht : s.port.transaction = some t) (hwrite : t.request.isWrite = true) :
    servePlayout s = { s with port := { s.port with transaction := some { t with state := .served } } } := by
  rw [servePlayout, ht]
  exact if_pos hwrite

theorem servePlayout_read {s : State} {t : HostTransaction} (ht : s.port.transaction = some t) (hread : t.request.isWrite = false) :
    servePlayout s = { s with port := { s.port with transaction := none, readData := readBeats t s } } := by
  rw [servePlayout, ht]
  exact if_neg (by rw [hread]; exact Bool.false_ne_true)

/-- Settles O51, kind by kind. -/
theorem accessEndLandsBytes : Obligations.AccessEndLandsBytes := by
  unfold Obligations.AccessEndLandsBytes
  intro i first s hrun idle sent free
  refine ⟨⟨_, exec_accessEnd i first (by rw [hrun]; exact nofun)⟩, fun h => ?_, fun p a h => ⟨fun hdropped => ?_, fun hpoint hlate => ?_⟩,
    fun w h => ?_, fun t h ht hwrite => ⟨fun hgrant => ?_, ?_⟩, fun t h ht hread => ?_⟩
  · refine exec_accessEnd_after first hrun ?_ hrun rfl
    rw [h.elim finishAccess_none finishAccess_refresh]
    rfl
  · refine exec_accessEnd_after first hrun ?_ hrun rfl
    rw [finishAccess_scan h, fetchDone_dropped a hdropped]
    rfl
  · refine ⟨s.memBytes a 64, memBytes_length s 64 a, memBytes_getElem? s 64 a, exec_accessEnd_after first hrun ?_ hrun rfl⟩
    rw [finishAccess_scan h, fetchDone_kept a hpoint hlate]
    rfl
  · refine ⟨sendBlocks i.sent (clearAccess (landWrite w s)), exec_accessEnd_after first hrun ?_ ?_ rfl, fun k hk => ?_, fun a ha => ?_, ?_⟩
    · rw [finishAccess_queueEntry h]
    · rw [landWrite_eq]
      exact hrun
    · exact landWrite_memByte_inside w s k hk
    · exact landWrite_memByte_outside w s a ha
    · rw [landWrite_eq]
      rfl
  · obtain ⟨-, t', ht', -, hlanded⟩ := hgrant.2 h
    cases ht.symm.trans ht'
    exact hlanded hwrite
  · refine exec_accessEnd_after first hrun ?_ hrun rfl
    rw [finishAccess_playout h, servePlayout_write ht hwrite]
    rfl
  · refine exec_accessEnd_after first hrun ?_ hrun rfl
    rw [finishAccess_playout h, servePlayout_read ht hread]
    rfl

end Sys2Proof.Machine
end

section
/-! PROOFS. The arbiter (R169, R172, R174): what it grants in a running part, what each grant does, and which block the scan-out asks for. -/

namespace Sys2Proof.Machine

/-! ### The choice of a running part (R172) -/

theorem arbiterChoice_running {i : ChoiceInput} {s : State} (hrun : s.phase = .running) (h : s.memctl.refreshDue = 0) :
    arbiterChoice i s = runningChoice s := by
  rw [arbiterChoice, if_neg (by omega), hrun]

theorem runningChoice_scan {s : State} {p a : Nat} (h : s.scanRequest = some (p, a)) : runningChoice s = some (.scan p a) := by
  rw [runningChoice, h]

theorem runningChoice_noScan {s : State} (h : s.scanRequest = none) : runningChoice s =
    if 48 ≤ s.memctl.queue.length ∧ s.memctl.lastPlayout = true then some .queue
    else if s.playoutWaits then some .playout
    else if s.memctl.queue.isEmpty then none
    else some .queue := by
  have hturn : Config.queueTurn = 48 := rfl
  rw [runningChoice, h, hturn]

theorem runningChoice_queue {s : State} {w : PartWrite} {rest : List PartWrite} (hscan : s.scanRequest = none)
    (hqueue : s.memctl.queue = w :: rest)
    (hturn : (48 ≤ s.memctl.queue.length ∧ s.memctl.lastPlayout = true) ∨ s.playoutWaits = false) :
    runningChoice s = some .queue := by
  rw [runningChoice_noScan hscan]
  by_cases hfull : 48 ≤ s.memctl.queue.length ∧ s.memctl.lastPlayout = true
  · exact if_pos hfull
  · rw [if_neg hfull, hturn.resolve_left hfull, hqueue]
    rfl

theorem runningChoice_playout {s : State} (hscan : s.scanRequest = none) (hwaits : s.playoutWaits = true)
    (hturn : s.memctl.queue.length < 48 ∨ s.memctl.lastPlayout = false) : runningChoice s = some .playout := by
  have hfull : ¬ (48 ≤ s.memctl.queue.length ∧ s.memctl.lastPlayout = true) := fun ⟨hlen, hlast⟩ =>
    hturn.elim (Nat.not_lt.mpr hlen) fun h => Bool.noConfusion (h.symm.trans hlast)
  rw [runningChoice_noScan hscan, if_neg hfull, if_pos hwaits]

theorem runningChoice_none {s : State} (hscan : s.scanRequest = none) (hqueue : s.memctl.queue = []) (hwaits : s.playoutWaits = false) :
    runningChoice s = none := by
  rw [runningChoice_noScan hscan, hqueue, hwaits]
  rfl

/-- With the SDRAM free and no refresh due, a running part carries out the grant chosen. -/
theorem exec_accessEnd_grant {i : ChoiceInput} (first : WriterBlock) {s : State} {g : Grant} (hrun : s.phase = .running)
    (haccess : s.memctl.access = none) (hsent : i.sent = 0) (hdue : s.memctl.refreshDue = 0) (h : runningChoice s = some g) :
    exec (.accessEnd i first) s = .next (beginGrant first g s) := by
  rw [exec_accessEnd i first (by rw [hrun]; exact nofun), accessEnd_idle first hsent haccess,
    grantNext_some ((arbiterChoice_running hrun hdue).trans h)]

/-! ### The grants -/

theorem grantQueue_cons (first : WriterBlock) {s : State} {w : PartWrite} {rest : List PartWrite} (h : s.memctl.queue = w :: rest) :
    grantQueue first s = { s with
      memctl := ({ s.memctl with queue := rest, access := some (.queueEntry w), lastPlayout := false }).join first } := by
  rw [grantQueue, h]

/-- At most one write joins, at the end of the queue, and none without a write waiting. -/
theorem join_queue (first : WriterBlock) (m : MemoryController) :
    (m.waitCommand = [] → m.waitExposure = [] → (m.join first).queue = m.queue) ∧
    (m.join first).queue.length ≤ m.queue.length + 1 ∧ m.queue <+: (m.join first).queue := by
  rcases join_cases first m with h | ⟨-, w, rest, hwaits, h⟩ | ⟨-, r, rest, hwaits, -, h⟩
  · rw [h]
    exact ⟨fun _ _ => rfl, Nat.le_succ _, List.prefix_rfl⟩
  · rw [h]
    exact ⟨fun _ hnone => (nomatch hwaits.symm.trans hnone), by simp, List.prefix_append ..⟩
  · rw [h]
    exact ⟨fun hnone _ => (nomatch hwaits.symm.trans hnone), by simp, List.prefix_append ..⟩

theorem playoutWaits_of {s : State} {t : HostTransaction} (ht : s.port.transaction = some t) (h : t.state = .waiting) :
    s.playoutWaits = true := by
  rw [State.playoutWaits, ht, Option.elim_some, h]
  rfl

/-- A beat stays open if it was remapped or its address is not closed (R169). -/
theorem openBeats_eq (t : HostTransaction) (s : State) : openBeats t s = t.forward.filter fun b => b.remapped || !s.closed b.addr := by
  refine List.filter_congr fun b _ => ?_
  rw [droppedAtGrant, Bool.not_and, Bool.not_not]

theorem retestBeats_eq (t : HostTransaction) (s : State) : retestBeats t s = { s with
    command := { s.command with flags := (s.raiseIf (t.forward.any (droppedAtGrant s)) .filteredWrite).command.flags }
    port := { s.port with transaction := some { t with forward := openBeats t s, state := .granted } } } := by
  obtain ⟨_, e⟩ := State.raiseIf_frame (t.forward.any (droppedAtGrant s)) .filteredWrite s
  rw [retestBeats, e]
  rfl

theorem retestBeats_memByte (t : HostTransaction) (s : State) (a : Nat) : (retestBeats t s).memByte a = s.memByte a := by
  rw [retestBeats_eq]
  rfl

theorem grantPlayout_read {s : State} {t : HostTransaction} (ht : s.port.transaction = some t) (hread : t.request.isWrite = false) :
    grantPlayout s = { retestBeats t s with
      memctl := { (retestBeats t s).memctl with access := some .playout, lastPlayout := true } } := by
  rw [grantPlayout, ht]
  dsimp only
  rw [hread]
  rfl

theorem grantPlayout_write {s : State} {t : HostTransaction} (ht : s.port.transaction = some t) (hwrite : t.request.isWrite = true) :
    grantPlayout s = { retestBeats t s with
      memctl := { (retestBeats t s).memctl with access := some .playout, lastPlayout := true }
      mem := (putBeats (openBeats t s) (retestBeats t s)).mem } := by
  rw [grantPlayout, ht]
  dsimp only
  rw [if_pos hwrite, putBeats_frame]

/-- What a grant to the host changes. -/
theorem grantPlayout_eq {s : State} {t : HostTransaction} (ht : s.port.transaction = some t) : grantPlayout s = { s with
    memctl := { s.memctl with access := some .playout, lastPlayout := true }
    port := { s.port with transaction := some { t with forward := openBeats t s, state := .granted } }
    mem := (grantPlayout s).mem
    command := { s.command with flags := (s.raiseIf (t.forward.any (droppedAtGrant s)) .filteredWrite).command.flags } } := by
  cases hwrite : t.request.isWrite with
  | true => rw [grantPlayout_write ht hwrite, retestBeats_eq]
  | false => rw [grantPlayout_read ht hwrite, retestBeats_eq]

theorem grantPlayout_frame {s : State} {t : HostTransaction} (ht : s.port.transaction = some t) : grantPlayout s = { s with
    memctl := { s.memctl with access := some .playout, lastPlayout := true }
    port := { s.port with transaction := some { t with forward := openBeats t s, state := .granted } }
    mem := (grantPlayout s).mem
    command := { s.command with flags := (grantPlayout s).command.flags } } :=
  (grantPlayout_eq ht).trans (by rw [congrArg (·.command.flags) (grantPlayout_eq ht)])

theorem grantPlayout_landed {s : State} {t : HostTransaction} (ht : s.port.transaction = some t) (hwrite : t.request.isWrite = true) :
    (grantPlayout s).mem = (putBeats (openBeats t s) (retestBeats t s)).mem ∧
      (grantPlayout s).powerOns = (putBeats (openBeats t s) (retestBeats t s)).powerOns := by
  constructor
  · rw [grantPlayout_write ht hwrite]
  · rw [grantPlayout_eq ht, putBeats_frame, retestBeats_eq]

theorem grantPlayout_flagged {s : State} {t : HostTransaction} (ht : s.port.transaction = some t) :
    (grantPlayout s).flagged .filteredWrite =
      (s.flagged .filteredWrite || t.forward.any fun b => !b.remapped && s.closed b.addr) := by
  have hflags : (grantPlayout s).flagged .filteredWrite =
      (s.raiseIf (t.forward.any (droppedAtGrant s)) .filteredWrite).flagged .filteredWrite :=
    congrArg (·.flagged .filteredWrite) (grantPlayout_eq ht)
  rw [hflags, State.raiseIf_flagged, decide_eq_true rfl, Bool.and_true]
  rfl

/-- An address that no beat kept writes has the byte it had. -/
theorem grantPlayout_memByte {s : State} {t : HostTransaction} {a : Nat} (ht : s.port.transaction = some t)
    (hwrite : t.request.isWrite = true) (h : ∀ b ∈ openBeats t s, b.writes a = false) : (grantPlayout s).memByte a = s.memByte a := by
  obtain ⟨hmem, hpowerOns⟩ := grantPlayout_landed ht hwrite
  rw [memByte_congr hmem hpowerOns, memByte_putBeats_outside _ _ _ h, retestBeats_memByte]

theorem writes_eq_false {b : ForwardBeat} {a : Nat} (h : ∀ j, j < 8 → b.mask.getLsbD j = true → a ≠ b.addr + j) : b.writes a = false := by
  rw [← Bool.not_eq_true, ForwardBeat.writes, Bool.and_eq_true, Bool.and_eq_true, decide_eq_true_iff, decide_eq_true_iff]
  rintro ⟨⟨hlow, hhigh⟩, hmask⟩
  exact h (a - b.addr) (by omega) hmask (by omega)

/-! ### The block the scan-out asks for (R174) -/

theorem eraseDups_length_le (l : List Nat) : l.eraseDups.length ≤ l.length := by
  induction hn : l.length using Nat.strong_induction_on generalizing l with
  | _ n ih =>
    cases l with
    | nil => exact Nat.zero_le _
    | cons a as =>
      have hfilter := List.length_filter_le (fun b => !b == a) as
      rw [List.length_cons] at hn
      rw [List.eraseDups_cons, List.length_cons]
      have hrest := ih _ (by omega) (as.filter fun b => !b == a) rfl
      omega

theorem mem_blocks {src : PixelSource} {a : Nat} (h : a ∈ src.blocks) : a % 64 = 0 := by
  cases src with
  | solid c => exact nomatch h
  | image b r =>
    rw [PixelSource.blocks, List.mem_singleton] at h
    omega
  | blend b c w =>
    rw [PixelSource.blocks, List.mem_cons, List.mem_singleton] at h
    omega

theorem blocks_length_le (src : PixelSource) : src.blocks.length ≤ 2 := by
  cases src with
  | solid c => exact Nat.zero_le _
  | image b r => exact Nat.le_succ _
  | blend b c w => exact Nat.le_refl _

theorem groupBlocks_length_le (s : State) (g : Nat) : (s.groupBlocks g).length ≤ 4 := by
  rw [State.groupBlocks]
  refine (eraseDups_length_le _).trans ?_
  rw [List.length_append]
  exact Nat.add_le_add (blocks_length_le _) (blocks_length_le _)

theorem groupBlocks_aligned {s : State} {g k a : Nat} (h : (s.groupBlocks g)[k]? = some a) : k < 4 ∧ a % 64 = 0 := by
  obtain ⟨hk, -⟩ := List.getElem?_eq_some_iff.mp h
  have hmem : a ∈ s.groupBlocks g := List.mem_of_getElem? h
  rw [State.groupBlocks] at hmem
  exact ⟨hk.trans_le (groupBlocks_length_le s g), (List.mem_append.mp (List.mem_eraseDups.mp hmem)).elim mem_blocks mem_blocks⟩

theorem groupBlocks_of_solid {s : State} (h : ∀ px py, ∃ c, s.source px py = .solid c) (g : Nat) : s.groupBlocks g = [] := by
  rw [State.groupBlocks]
  obtain ⟨c, hc⟩ := h (16 * (g % s.composer.record.lineGroups)) (g / s.composer.record.lineGroups)
  obtain ⟨d, hd⟩ := h (16 * (g % s.composer.record.lineGroups) + 15) (g / s.composer.record.lineGroups)
  rw [hc, hd]
  rfl

theorem getElem?_none_of_le {l : List Nat} {k k' : Nat} (h : l[k]? = none) (hle : k ≤ k') : l[k']? = none :=
  List.getElem?_eq_none_iff.mpr ((List.getElem?_eq_none_iff.mp h).trans hle)

/-- The search finds nothing only where no group has a block left. -/
theorem fetchFrom_none (s : State) : ∀ (n g k : Nat), fetchFrom s n g k = none → ∀ g' k', g ≤ g' → g' < g + n → (g' = g → k ≤ k') →
    (s.groupBlocks g')[k']? = none
  | 0, _, _, _, _, _, hlow, hhigh, _ => absurd hlow (by omega)
  | n + 1, g, k, h, g', k', hlow, hhigh, hfirst => by
    unfold fetchFrom at h
    split at h
    · exact nomatch h
    · next hnone =>
      by_cases hg : g' = g
      · rw [hg]
        exact getElem?_none_of_le hnone (hfirst hg)
      · exact fetchFrom_none s n (g + 1) 0 h g' k' (by omega) (by omega) fun _ => Nat.zero_le _

/-- No block stands before the fetch point found. -/
theorem fetchFrom_first (s : State) : ∀ (n g k p a : Nat), fetchFrom s n g k = some (p, a) → ∀ g' k', g ≤ g' → (g' = g → k ≤ k') →
    4 * g' + k' < p → (s.groupBlocks g')[k']? = none
  | 0, _, _, _, _, h, _, _, _, _, _ => nomatch h
  | n + 1, g, k, p, a, h, g', k', hlow, hfirst, hbefore => by
    unfold fetchFrom at h
    split at h
    · next b hb =>
      obtain ⟨rfl, rfl⟩ := Prod.mk.inj (Option.some.inj h)
      have hk := (groupBlocks_aligned hb).1
      by_cases hg : g' = g
      · have hle := hfirst hg
        omega
      · omega
    · next hnone =>
      by_cases hg : g' = g
      · rw [hg]
        exact getElem?_none_of_le hnone (hfirst hg)
      · exact fetchFrom_first s n (g + 1) 0 p a h g' k' (by omega) (fun _ => Nat.zero_le _) hbefore

theorem owner_none {r : FrameRecord} (h : ∀ z : ZoneIx, (r.zones[z]).active = false) (cx cy : Nat) : r.owner cx cy = none := by
  rw [FrameRecord.owner]
  split
  · rw [cellOwner_eq_none]
    intro z hz
    exact Bool.noConfusion ((h z).symm.trans (List.mem_filter.mp hz).2)
  · rfl

/-- A frame that can need no fetch has a colour at every pixel (R20). -/
theorem source_solid {s : State} (h : s.composer.record.drawsMemory = false) (px py : Nat) : ∃ c, s.source px py = .solid c := by
  rw [FrameRecord.drawsMemory] at h
  rw [State.source, pixelSource]
  cases hmode : s.composer.record.mode with
  | black => exact ⟨_, rfl⟩
  | white => exact ⟨_, rfl⟩
  | slateOnly =>
    rw [hmode] at h
    refine ⟨black, ?_⟩
    dsimp only
    rw [slatePixel, Option.isNone_iff_eq_none.mp (Option.isSome_eq_false_iff.mp h)]
  | normal =>
    rw [hmode] at h
    obtain ⟨hslate, hzones⟩ := Bool.or_eq_false_iff.mp h
    refine ⟨black, ?_⟩
    dsimp only
    rw [owner_none (fun z => Bool.eq_false_iff.mpr (List.any_eq_false.mp hzones z (mem_allZones z)))]
    dsimp only
    rw [slatePixel, Option.isNone_iff_eq_none.mp (Option.isSome_eq_false_iff.mp hslate)]

theorem nextFetch_drawing {s : State} (h : s.composer.record.drawsMemory = true) (p : Nat) :
    s.nextFetch p = fetchFrom s (s.composer.record.frameGroups - p / 4) (p / 4) (p % 4) := if_pos h

theorem scanRequest_some {s : State} {r : Nat × Nat} (h : s.scanRequest = some r) :
    16 * s.panel.lineBuffer.length < 4096 ∧ s.composer.record.drawsMemory = true ∧
      fetchFrom s (s.composer.record.frameGroups - s.panel.fetchAt / 4) (s.panel.fetchAt / 4) (s.panel.fetchAt % 4) = some r := by
  rw [State.scanRequest, Option.ite_none_right_eq_some, State.nextFetch, Option.ite_none_right_eq_some] at h
  exact h

theorem scanRequest_roomy {s : State} (h : 16 * s.panel.lineBuffer.length < 4096) : s.scanRequest = s.nextFetch s.panel.fetchAt :=
  if_pos h

theorem scanRequest_full {s : State} (h : 4096 ≤ 16 * s.panel.lineBuffer.length) : s.scanRequest = none := if_neg (Nat.not_lt.mpr h)

/-- The scan-out asks for the first block still to be fetched. -/
theorem scanRequest_spec {s : State} {p a : Nat} (h : s.scanRequest = some (p, a)) :
    s.panel.fetchAt ≤ p ∧ p / 4 < s.composer.record.frameGroups ∧ (s.groupBlocks (p / 4))[p % 4]? = some a ∧ a % 64 = 0 ∧
      ∀ q, s.panel.fetchAt ≤ q → q < p → (s.groupBlocks (q / 4))[q % 4]? = none := by
  obtain ⟨-, -, hfetch⟩ := scanRequest_some h
  obtain ⟨g, k, rfl, hlow, hhigh, hfirst, hblock⟩ := fetchFrom_spec s _ _ _ _ _ hfetch
  obtain ⟨hk, haligned⟩ := groupBlocks_aligned hblock
  have hgroup : (4 * g + k) / 4 = g := by omega
  have hindex : (4 * g + k) % 4 = k := by omega
  rw [hgroup, hindex]
  refine ⟨?_, by omega, hblock, haligned, fun q hq hbefore => ?_⟩
  · by_cases hg : g = s.panel.fetchAt / 4
    · have hle := hfirst hg
      omega
    · omega
  · exact fetchFrom_first s _ _ _ _ _ hfetch (q / 4) (q % 4) (by omega) (by omega) (by omega)

/-- With room and no block asked for, none is left to fetch. -/
theorem scanRequest_none {s : State} (hroom : 16 * s.panel.lineBuffer.length < 4096) (h : s.scanRequest = none) {q : Nat}
    (hq : s.panel.fetchAt ≤ q) (hgroup : q / 4 < s.composer.record.frameGroups) : (s.groupBlocks (q / 4))[q % 4]? = none := by
  cases hdraws : s.composer.record.drawsMemory with
  | true =>
    rw [scanRequest_roomy hroom, nextFetch_drawing hdraws] at h
    exact fetchFrom_none s _ _ _ h (q / 4) (q % 4) (by omega) (by omega) (by omega)
  | false =>
    rw [groupBlocks_of_solid (source_solid hdraws)]
    rfl

theorem drawsMemory_plain {r : FrameRecord} (h : r.mode = .black ∨ r.mode = .white) : r.drawsMemory = false := by
  rw [FrameRecord.drawsMemory]
  rcases h with h | h
  · rw [h]
  · rw [h]

/-- Settles O50, grant by grant. -/
theorem arbiterGrantsInOrder : Obligations.ArbiterGrantsInOrder := by
  unfold Obligations.ArbiterGrantsInOrder
  refine ⟨fun i first s hrun haccess hsent => ⟨fun hdue => ?_, fun p a hdue hscan => ?_, fun w rest hdue hscan hqueue hturn => ?_,
    fun t hdue hscan ht hwaiting hturn => ?_, fun hdue hscan hqueue hwaits => ?_⟩, fun s => ?_⟩
  · rw [exec_accessEnd i first (by rw [hrun]; exact nofun), accessEnd_idle first hsent haccess, grantNext_some (arbiterChoice_refresh hdue)]
    rfl
  · exact exec_accessEnd_grant first hrun haccess hsent hdue (runningChoice_scan hscan)
  · obtain ⟨halone, hlength, hprefix⟩ :=
      join_queue first { s.memctl with queue := rest, access := some (.queueEntry w), lastPlayout := false }
    obtain ⟨_, _, _, hjoin⟩ := join_frame first { s.memctl with queue := rest, access := some (.queueEntry w), lastPlayout := false }
    refine ⟨_, (exec_accessEnd_grant first hrun haccess hsent hdue (runningChoice_queue hscan hqueue hturn)).trans
      (congrArg Host.Outcome.next (grantQueue_cons first hqueue)), ?_, ?_, halone, hlength, hprefix, rfl⟩
    · rw [hjoin]
    · rw [hjoin]
  · refine ⟨grantPlayout s, _, exec_accessEnd_grant first hrun haccess hsent hdue (runningChoice_playout hscan (playoutWaits_of ht hwaiting) hturn),
      congrArg (·.port.transaction) (grantPlayout_eq ht), rfl, openBeats_eq t s, ?_, fun hread => ?_, fun hwrite => ⟨?_, fun a ha => ?_⟩, ?_⟩
    · exact grantPlayout_flagged ht
    · exact congrArg (·.mem) (grantPlayout_read ht hread) |>.trans (retestBeats_mem t s)
    · obtain ⟨hmem, hpowerOns⟩ := grantPlayout_landed ht hwrite
      exact (burstLanded_putBeats _ (retestBeats t s)).congr hmem hpowerOns
    · exact grantPlayout_memByte ht hwrite fun b hb => writes_eq_false (ha b hb)
    · exact grantPlayout_frame ht
  · rw [exec_accessEnd i first (by rw [hrun]; exact nofun), accessEnd_idle first hsent haccess,
      grantNext_none ((arbiterChoice_running hrun hdue).trans (runningChoice_none hscan hqueue hwaits))]
  · intro blocks groups
    refine ⟨scanRequest_full, fun p a h => ⟨(scanRequest_some h).1, scanRequest_spec h⟩, fun hroom h q hq hgroup =>
      scanRequest_none hroom h hq hgroup, fun hmode g => groupBlocks_of_solid (source_solid (drawsMemory_plain hmode)) g⟩

end Sys2Proof.Machine
end

section
/-! PROOFS. Showings that end (R124, R140, R141) and RESTART (R25, R62, R129, R162, R184). -/

namespace Sys2Proof.Machine

/-! ### One showing ends (R124, R140) -/

theorem offerRecord_room {z : ZoneIx} {reason : ShowingEnd} {saturated : Bool} {h : Showing} {s : State}
    (hroom : s.exposure.unreleased < 1024) : offerRecord z reason saturated h s = { s with
      exposure := { s.exposure with nextRecord := s.exposure.nextRecord + 1 }
      memctl := s.memctl.offerExposure
        (recordWrite s.exposure.nextRecord (proofRecord s.exposure.nextRecord z reason saturated s.clock.venue h)) } := if_pos hroom

theorem offerRecord_full {z : ZoneIx} {reason : ShowingEnd} {saturated : Bool} {h : Showing} {s : State}
    (hfull : 1024 ≤ s.exposure.unreleased) : offerRecord z reason saturated h s =
      { s with exposure := { s.exposure with missed := saturating 65535 s.exposure.missed } }.raise .logFull :=
  if_neg (Nat.not_lt.mpr hfull)

theorem endShowing_none {z : ZoneIx} (reason : ShowingEnd) {s : State} (h : (s.rotation.zones[z]).showing = none) :
    endShowing z reason s = s := by
  rw [endShowing, h]

/-- The saturated mark of the spot that a showing shows. -/
def RotationUnit.saturatedMark (u : RotationUnit) (g : Showing) : Bool := (u.spot g.spotId).elim false Spot.saturated

theorem endShowing_some {z : ZoneIx} (reason : ShowingEnd) {s : State} {g : Showing} (h : (s.rotation.zones[z]).showing = some g) :
    endShowing z reason s = { offerRecord z reason (s.rotation.saturatedMark g) g s with rotation := s.rotation.ended z g } := by
  rw [endShowing, h]
  dsimp only
  rw [offerRecord_rotation]
  rfl

/-- A showing that ends with room in the log: its record is numbered and offered to the queue. -/
theorem endShowing_room {z : ZoneIx} (reason : ShowingEnd) {s : State} {g : Showing} (h : (s.rotation.zones[z]).showing = some g)
    (hroom : s.exposure.unreleased < 1024) : endShowing z reason s = { s with
      rotation := s.rotation.ended z g
      exposure := { s.exposure with nextRecord := s.exposure.nextRecord + 1 }
      memctl := s.memctl.offerExposure (recordWrite s.exposure.nextRecord
        (proofRecord s.exposure.nextRecord z reason (s.rotation.saturatedMark g) s.clock.venue g)) } := by
  rw [endShowing_some reason h, offerRecord_room hroom]

theorem endShowing_full {z : ZoneIx} (reason : ShowingEnd) {s : State} {g : Showing} (h : (s.rotation.zones[z]).showing = some g)
    (hfull : 1024 ≤ s.exposure.unreleased) : endShowing z reason s = { ({ s with
      rotation := s.rotation.ended z g
      exposure := { s.exposure with missed := saturating 65535 s.exposure.missed } } : State) with
      command := (s.raise .logFull).command } := by
  rw [endShowing_some reason h, offerRecord_full hfull]
  rfl

theorem ended_zones (z : ZoneIx) (g : Showing) (u : RotationUnit) (y : ZoneIx) :
    (u.ended z g).zones[y] = (u.mapZone z fun x => { x with showing := none }).zones[y] := by
  unfold RotationUnit.ended
  dsimp only
  split
  · rfl
  · rfl

theorem ended_zones_same (z : ZoneIx) (g : Showing) (u : RotationUnit) :
    (u.ended z g).zones[z] = { u.zones[z] with showing := none } :=
  (ended_zones ..).trans (RotationUnit.mapZone_zones_same ..)

theorem ended_zones_other {z y : ZoneIx} (h : y ≠ z) (g : Showing) (u : RotationUnit) : (u.ended z g).zones[y] = u.zones[y] :=
  (ended_zones ..).trans (RotationUnit.mapZone_zones_other h ..)

/-- The ending of a showing deletes its spot if that is withdrawing, and leaves the spots as they are otherwise. -/
theorem ended_spot (z : ZoneIx) (g : Showing) (u : RotationUnit) (i : Nat) :
    (u.ended z g).spot i = if i = g.spotId ∧ (u.spot i).elim false Spot.withdrawing = true then none else u.spot i := by
  unfold RotationUnit.ended
  dsimp only
  by_cases hw : (u.spot g.spotId).elim false Spot.withdrawing = true
  · rw [if_pos hw, RotationUnit.deleteSpot_spot, RotationUnit.mapZone_spot]
    refine if_congr ⟨fun hi => ⟨hi, ?_⟩, fun h => h.1⟩ rfl rfl
    rw [hi]
    exact hw
  · rw [if_neg hw, RotationUnit.mapZone_spot, if_neg]
    rintro ⟨rfl, h⟩
    exact hw h

theorem offerExposure_writes (w : PartWrite) (m : MemoryController) :
    (m.offerExposure w).queue ++ (m.offerExposure w).waitExposure = m.queue ++ m.waitExposure ++ [w] ∧
      m.queue <+: (m.offerExposure w).queue := by
  unfold MemoryController.offerExposure
  split
  · next h =>
    rw [Bool.and_eq_true] at h
    rw [List.isEmpty_iff.mp h.1, List.append_nil, List.append_nil]
    exact ⟨rfl, List.prefix_append ..⟩
  · exact ⟨(List.append_assoc ..).symm, List.prefix_rfl⟩

/-! ### Showings that end one after another -/

/-- The zones of a list that have a showing. -/
def State.shownOf (s : State) (l : List ZoneIx) : List ZoneIx := l.filter fun z => (s.rotation.zones[z]).showing.isSome

theorem State.shownOf_none {s : State} {z : ZoneIx} {rest : List ZoneIx} (h : (s.rotation.zones[z]).showing = none) :
    s.shownOf (z :: rest) = s.shownOf rest := by
  rw [State.shownOf, List.filter_cons, h]
  rfl

theorem State.shownOf_some {s : State} {z : ZoneIx} {rest : List ZoneIx} {g : Showing} (h : (s.rotation.zones[z]).showing = some g) :
    s.shownOf (z :: rest) = z :: s.shownOf rest := by
  rw [State.shownOf, List.filter_cons, h]
  rfl

/-- The records the log has room for. -/
def State.logRoom (s : State) : Nat := 1024 - s.exposure.unreleased

theorem endShowing_zones_other {z y : ZoneIx} (h : y ≠ z) (reason : ShowingEnd) (s : State) :
    (endShowing z reason s).rotation.zones[y] = s.rotation.zones[y] := by
  rw [endShowing_rotation]
  cases (s.rotation.zones[z]).showing with
  | none => rfl
  | some g => exact ended_zones_other h g _

theorem State.shownOf_endShowing {z : ZoneIx} {rest : List ZoneIx} (hz : z ∉ rest) (reason : ShowingEnd) (s : State) :
    (endShowing z reason s).shownOf rest = s.shownOf rest :=
  List.filter_congr fun y hy => by
    have hne : y ≠ z := fun e => hz (by rwa [← e])
    rw [endShowing_zones_other hne]

theorem logRoom_next {s t : State} (hroom : s.exposure.unreleased < 1024)
    (ht : t.exposure = { s.exposure with nextRecord := s.exposure.nextRecord + 1 }) : s.logRoom = t.logRoom + 1 := by
  have hnext := ExposureCounter.unreleased_next hroom
  rw [State.logRoom, State.logRoom, ht, hnext]
  omega

/-- What the ending of the showings of a list leaves in the log counters, the flags and the queue. -/
structure ShowingsRecorded (l : List ZoneIx) (s t : State) : Prop where
  nextRecord : t.exposure.nextRecord = s.exposure.nextRecord + BitVec.ofNat 32 (min (s.shownOf l).length s.logRoom)
  readMark : t.exposure.readMark = s.exposure.readMark
  missed : s.exposure.missed ≤ 65535 →
    t.exposure.missed = min 65535 (s.exposure.missed + ((s.shownOf l).length - s.logRoom))
  flagged : ∀ f : Flag, t.flagged f = (s.flagged f || (decide (s.logRoom < (s.shownOf l).length) && decide (f = .logFull)))
  queue : s.memctl.queue <+: t.memctl.queue

theorem ShowingsRecorded.nil {l : List ZoneIx} {s : State} (h : s.shownOf l = []) : ShowingsRecorded l s s where
  nextRecord := by rw [h, List.length_nil, Nat.zero_min]; exact (BitVec.add_zero _).symm
  readMark := rfl
  missed hle := by rw [h, List.length_nil, Nat.zero_sub, Nat.add_zero, Nat.min_eq_right hle]
  flagged f := by rw [h, List.length_nil, decide_eq_false (Nat.not_lt_zero _), Bool.false_and, Bool.or_false]
  queue := List.prefix_rfl

theorem endAllShowings_recorded : ∀ (l : List ZoneIx) (s : State), l.Nodup → ShowingsRecorded l s (endAllShowings l s)
  | [], _, _ => .nil rfl
  | z :: rest, s, hl => by
    obtain ⟨hz, hrest⟩ := List.nodup_cons.mp hl
    have ih := endAllShowings_recorded rest (endShowing z .restart s) hrest
    have hshown := State.shownOf_endShowing hz .restart s
    cases hg : (s.rotation.zones[z]).showing with
    | none =>
      rw [endShowing_none .restart hg] at ih
      rw [endAllShowings, endShowing_none .restart hg]
      have heq := State.shownOf_none (rest := rest) hg
      exact ⟨by rw [heq]; exact ih.nextRecord, ih.readMark, by rw [heq]; exact ih.missed, by rw [heq]; exact ih.flagged, ih.queue⟩
    | some g =>
      have hcount : (s.shownOf (z :: rest)).length = ((endShowing z .restart s).shownOf rest).length + 1 := by
        rw [State.shownOf_some hg, List.length_cons, hshown]
      rw [endAllShowings]
      by_cases hroom : s.exposure.unreleased < 1024
      · have heq := endShowing_room .restart hg hroom
        generalize endShowing z .restart s = s₁ at ih heq hcount ⊢
        have hlog := logRoom_next (t := s₁) hroom (by rw [heq])
        have hcommand : s₁.command = s.command := by rw [heq]
        refine ⟨?_, ?_, fun hle => ?_, fun f => ?_, ?_⟩
        · have hnext : s₁.exposure.nextRecord = s.exposure.nextRecord + 1 := by rw [heq]
          rw [ih.nextRecord, hcount, hlog, hnext, Nat.add_min_add_right, Nat.add_comm _ 1, BitVec.ofNat_add, ← BitVec.add_assoc]
          rfl
        · rw [ih.readMark, heq]
        · have hm : s₁.exposure.missed = s.exposure.missed := by rw [heq]
          rw [ih.missed (hm.trans_le hle), hm, hcount, hlog]
          omega
        · rw [ih.flagged, hcount, hlog, State.flagged, State.flagged, hcommand]
          simp only [Nat.add_lt_add_iff_right]
        · refine List.IsPrefix.trans ?_ ih.queue
          rw [heq]
          exact (offerExposure_writes ..).2
      · have hfull := Nat.not_lt.mp hroom
        have heq := endShowing_full .restart hg hfull
        generalize endShowing z .restart s = s₁ at ih heq hcount ⊢
        have hlog : s.logRoom = 0 := Nat.sub_eq_zero_of_le hfull
        have hlog' : s₁.logRoom = 0 := by
          rw [heq]
          exact hlog
        have hflags : ∀ f : Flag, s₁.flagged f = (s.flagged f || decide (f = .logFull)) := fun f => by
          rw [← State.raise_flagged_eq, heq]
          rfl
        refine ⟨?_, ?_, fun hle => ?_, fun f => ?_, ?_⟩
        · have hnext : s₁.exposure.nextRecord = s.exposure.nextRecord := by rw [heq]
          rw [ih.nextRecord, hlog, hlog', Nat.min_zero, Nat.min_zero, hnext]
        · rw [ih.readMark, heq]
        · have hm : s₁.exposure.missed = saturating 65535 s.exposure.missed := by rw [heq]
          rw [ih.missed (by rw [hm]; exact Nat.min_le_left ..), hm, hcount, hlog, hlog', saturating]
          omega
        · rw [ih.flagged, hflags, hlog, hlog', hcount, decide_eq_true (Nat.succ_pos _), Bool.true_and, Bool.or_assoc]
          cases decide (f = Flag.logFull) <;> simp
        · refine List.IsPrefix.trans ?_ ih.queue
          rw [heq]

/-- The write of the record, numbered `k`, of a zone's showing that RESTART ends. -/
def State.restartWrite (s : State) (z : ZoneIx) (k : Word) : PartWrite :=
  recordWrite k (((s.rotation.zones[z]).showing).elim [] fun g =>
    proofRecord k z .restart (s.rotation.saturatedMark g) s.clock.venue g)

/-- The writes of the records of zones in turn, numbered from `n` on. -/
def State.restartWrites (s : State) (n : Word) (l : List ZoneIx) : List PartWrite :=
  l.zipIdx.map fun q => s.restartWrite q.1 (n + BitVec.ofNat 32 q.2)

theorem State.restartWrites_cons (s : State) (n : Word) (z : ZoneIx) (l : List ZoneIx) :
    s.restartWrites n (z :: l) = s.restartWrite z n :: s.restartWrites (n + 1) l := by
  rw [State.restartWrites, List.zipIdx_cons', List.map_cons, List.map_map, State.restartWrites]
  refine congr (congrArg List.cons (congrArg (s.restartWrite z) (BitVec.add_zero n))) (List.map_congr_left fun q _ => ?_)
  have hsucc : n + BitVec.ofNat 32 (q.2 + 1) = n + 1 + BitVec.ofNat 32 q.2 := by
    rw [Nat.add_comm, BitVec.ofNat_add, ← BitVec.add_assoc]
    rfl
  exact congrArg (s.restartWrite q.1) hsucc

theorem State.restartWrites_congr {s t : State} {n : Word} {l : List ZoneIx}
    (h : ∀ y ∈ l, ∀ k, t.restartWrite y k = s.restartWrite y k) : t.restartWrites n l = s.restartWrites n l :=
  List.map_congr_left fun q hq => h q.1 (List.fst_mem_of_mem_zipIdx hq) _

theorem endShowing_venue (z : ZoneIx) (reason : ShowingEnd) (s : State) : (endShowing z reason s).clock.venue = s.clock.venue := by
  obtain ⟨_, _, _, _, _, e⟩ := endShowing_showingFrame z reason s
  rw [e]

/-- The end of one zone's showing does not touch the record another zone's will get. -/
theorem restartWrite_endShowing {s : State} (hexclusive : s.rotation.Exclusive) {y z : ZoneIx} (h : y ≠ z) (reason : ShowingEnd)
    (k : Word) : (endShowing z reason s).restartWrite y k = s.restartWrite y k := by
  rw [State.restartWrite, State.restartWrite, endShowing_zones_other h, endShowing_venue]
  cases hy : (s.rotation.zones[y]).showing with
  | none => rfl
  | some g =>
    have hspot : (endShowing z reason s).rotation.spot g.spotId = s.rotation.spot g.spotId := by
      rw [endShowing_rotation]
      cases hz : (s.rotation.zones[z]).showing with
      | none => rfl
      | some g' =>
        rw [Option.elim_some, ended_spot, if_neg]
        rintro ⟨hid, -⟩
        exact h (hexclusive.1 y z _ (SponsorZone.shows_iff.mpr ⟨g, hy, rfl⟩) (SponsorZone.shows_iff.mpr ⟨g', hz, hid.symm⟩))
    rw [Option.elim_some, Option.elim_some, RotationUnit.saturatedMark, RotationUnit.saturatedMark, hspot]

/-- The records of the showings that end follow what waits for the queue, as far as the log has room. -/
theorem endAllShowings_writes : ∀ (l : List ZoneIx) (s : State), l.Nodup → s.rotation.Exclusive →
    (endAllShowings l s).memctl.queue ++ (endAllShowings l s).memctl.waitExposure =
      s.memctl.queue ++ s.memctl.waitExposure ++ s.restartWrites s.exposure.nextRecord ((s.shownOf l).take s.logRoom)
  | [], s, _, _ => by
    rw [State.shownOf, List.filter_nil, List.take_nil]
    exact (List.append_nil _).symm
  | z :: rest, s, hl, hexclusive => by
    obtain ⟨hz, hrest⟩ := List.nodup_cons.mp hl
    have ih := endAllShowings_writes rest (endShowing z .restart s) hrest (endShowing_exclusive z .restart hexclusive)
    have hcongr : ∀ (n : Word) (m : Nat), (endShowing z .restart s).restartWrites n (((s.shownOf rest)).take m) =
        s.restartWrites n ((s.shownOf rest).take m) := fun n m => State.restartWrites_congr fun y hy k => by
      have hne : y ≠ z := fun e => hz (by rw [← e]; exact (List.mem_filter.mp (List.mem_of_mem_take hy)).1)
      exact restartWrite_endShowing hexclusive hne .restart k
    rw [State.shownOf_endShowing hz, hcongr] at ih
    rw [endAllShowings]
    cases hg : (s.rotation.zones[z]).showing with
    | none =>
      rw [endShowing_none .restart hg] at ih ⊢
      rw [ih, State.shownOf_none hg]
    | some g =>
      rw [ih, State.shownOf_some hg]
      by_cases hroom : s.exposure.unreleased < 1024
      · have heq := endShowing_room .restart hg hroom
        have hlog := logRoom_next (t := endShowing z .restart s) hroom (by rw [heq])
        have hnext : (endShowing z .restart s).exposure.nextRecord = s.exposure.nextRecord + 1 := by rw [heq]
        have hfirst : s.restartWrite z s.exposure.nextRecord = recordWrite s.exposure.nextRecord
            (proofRecord s.exposure.nextRecord z .restart (s.rotation.saturatedMark g) s.clock.venue g) := by
          rw [State.restartWrite, hg]
          rfl
        have hmemctl : (endShowing z .restart s).memctl = s.memctl.offerExposure (s.restartWrite z s.exposure.nextRecord) := by
          rw [heq, hfirst]
        rw [hlog, List.take_succ_cons, State.restartWrites_cons, hnext, hmemctl, (offerExposure_writes ..).1, List.append_assoc,
          List.singleton_append]
      · have hfull := Nat.not_lt.mp hroom
        have heq := endShowing_full .restart hg hfull
        have hlog : s.logRoom = 0 := Nat.sub_eq_zero_of_le hfull
        have hlog' : (endShowing z .restart s).logRoom = 0 := by
          rw [heq]
          exact hlog
        have hmemctl : (endShowing z .restart s).memctl = s.memctl := by rw [heq]
        rw [hlog, hlog', List.take_zero, List.take_zero, hmemctl]
        rfl

/-! ### Zones and spots after the showings have ended -/

theorem endAllShowings_showing : ∀ (l : List ZoneIx) (s : State) (y : ZoneIx), y ∈ l ∨ (s.rotation.zones[y]).showing = none →
    ((endAllShowings l s).rotation.zones[y]).showing = none
  | [], _, _, h => h.resolve_left List.not_mem_nil
  | z :: rest, s, y, h => by
    refine endAllShowings_showing rest _ y ?_
    by_cases hy : y = z
    · subst hy
      refine .inr ?_
      rw [endShowing_rotation]
      cases hg : (s.rotation.zones[y]).showing with
      | none => exact hg
      | some g =>
        rw [Option.elim_some, ended_zones_same]
    · refine h.imp (fun hmem => (List.mem_cons.mp hmem).resolve_left hy) fun hnone => ?_
      rwa [endShowing_zones_other hy]

theorem endShowing_spot (z : ZoneIx) (reason : ShowingEnd) (s : State) (i : Nat) : (endShowing z reason s).rotation.spot i =
    if (s.rotation.zones[z]).shows i = true ∧ (s.rotation.spot i).elim false Spot.withdrawing = true then none
    else s.rotation.spot i := by
  rw [endShowing_rotation]
  cases hg : (s.rotation.zones[z]).showing with
  | none =>
    rw [SponsorZone.shows_none hg, if_neg (fun h => Bool.false_ne_true h.1)]
    rfl
  | some g =>
    rw [Option.elim_some, ended_spot]
    refine if_congr (and_congr_left fun _ => ?_) rfl rfl
    rw [SponsorZone.shows_iff, hg]
    exact ⟨fun h => ⟨g, rfl, h.symm⟩, fun ⟨_, h, hid⟩ => by rw [← hid, Option.some.inj h]⟩

theorem endShowing_shows {y z : ZoneIx} {reason : ShowingEnd} {s : State} {i : Nat}
    (h : ((endShowing z reason s).rotation.zones[y]).shows i = true) : (s.rotation.zones[y]).shows i = true := by
  rw [endShowing_rotation] at h
  cases hg : (s.rotation.zones[z]).showing with
  | none => rwa [hg] at h
  | some g =>
    rw [hg, Option.elim_some] at h
    by_cases hy : y = z
    · subst hy
      rw [ended_zones_same, SponsorZone.shows_none rfl] at h
      cases h
    · rwa [ended_zones_other hy] at h

/-- A spot is deleted with the end of the showings of a list if it is withdrawing and one of them shows it. -/
theorem endAllShowings_spot : ∀ (l : List ZoneIx) (s : State) (i : Nat), (endAllShowings l s).rotation.spot i =
    if (∃ y ∈ l, (s.rotation.zones[y]).shows i = true) ∧ (s.rotation.spot i).elim false Spot.withdrawing = true then none
    else s.rotation.spot i
  | [], _, _ => (if_neg fun ⟨⟨_, h, _⟩, _⟩ => List.not_mem_nil h).symm
  | z :: rest, s, i => by
    rw [endAllShowings, endAllShowings_spot rest, endShowing_spot]
    by_cases hz : (s.rotation.zones[z]).shows i = true ∧ (s.rotation.spot i).elim false Spot.withdrawing = true
    · rw [if_pos hz, ite_self, if_pos ⟨⟨z, List.mem_cons_self, hz.1⟩, hz.2⟩]
    · rw [if_neg hz]
      refine if_congr (and_congr_left fun hw => ?_) rfl rfl
      have hoff : ¬ (s.rotation.zones[z]).shows i = true := fun h => hz ⟨h, hw⟩
      constructor
      · exact fun ⟨y, hy, h⟩ => ⟨y, List.mem_cons_of_mem _ hy, endShowing_shows h⟩
      · rintro ⟨y, hy, h⟩
        have hne : y ≠ z := fun e => hoff (by rwa [← e])
        exact ⟨y, (List.mem_cons.mp hy).resolve_left hne, by rwa [endShowing_zones_other hne]⟩

/-! ### RESTART -/

theorem restartRotation_eq (s : State) : restartRotation s =
    { endAllShowings allZones s with rotation := (endAllShowings allZones s).rotation.mapZones SponsorZone.emptied } := rfl

theorem restartRotation_recorded (s : State) : ShowingsRecorded allZones s (restartRotation s) := by
  obtain ⟨hnext, hread, hmissed, hflagged, hqueue⟩ := endAllShowings_recorded allZones s allZones_nodup
  rw [restartRotation_eq]
  generalize endAllShowings allZones s = t at hnext hread hmissed hflagged hqueue ⊢
  exact ⟨hnext, hread, hmissed, hflagged, hqueue⟩

theorem restartRotation_writes {s : State} (h : s.rotation.Exclusive) :
    (restartRotation s).memctl.queue ++ (restartRotation s).memctl.waitExposure =
      s.memctl.queue ++ s.memctl.waitExposure ++ s.restartWrites s.exposure.nextRecord ((s.shownOf allZones).take s.logRoom) := by
  have hwrites := endAllShowings_writes allZones s allZones_nodup h
  rw [restartRotation_eq]
  generalize endAllShowings allZones s = t at hwrites ⊢
  exact hwrites

theorem restartRotation_zone (s : State) (z : ZoneIx) : (restartRotation s).rotation.zones[z] =
    { rotation := [], cursor := -1, sting := none, stingPending := false, showing := none } := by
  have hnone := endAllShowings_showing allZones s z (.inl (mem_allZones z))
  rw [restartRotation_eq]
  refine (RotationUnit.mapZones_zones z SponsorZone.emptied _).trans ?_
  rw [SponsorZone.emptied, hnone]

theorem restartRotation_spot (s : State) (i : Nat) : (restartRotation s).rotation.spot i =
    if s.rotation.onAir i = true ∧ (s.rotation.spot i).elim false Spot.withdrawing = true then none else s.rotation.spot i := by
  rw [restartRotation_eq]
  refine (RotationUnit.mapZones_spot SponsorZone.emptied _ i).trans ((endAllShowings_spot allZones s i).trans ?_)
  refine if_congr (and_congr_left fun _ => ?_) rfl rfl
  rw [RotationUnit.onAir_iff]
  exact ⟨fun ⟨y, _, h⟩ => ⟨y, h⟩, fun ⟨y, h⟩ => ⟨y, mem_allZones y, h⟩⟩

/-- What a RESTART's state has apart from what the ended showings leave. -/
theorem ruleRestart_eq (s : State) : (ruleRestart s).1 = { s with
    rotation := (restartRotation s).rotation
    composer := s.composer.restarted
    roller := s.roller.restarted
    ticker := s.ticker.restarted
    exposure := { s.exposure with
      nextRecord := (restartRotation s).exposure.nextRecord, missed := (restartRotation s).exposure.missed }
    memctl := { s.memctl with
      queue := (restartRotation s).memctl.queue, waitExposure := (restartRotation s).memctl.waitExposure }
    command := { s.command with
      causes := { s.command.causes with restart := true }, flags := (restartRotation s).command.flags } } := by
  have hread := (restartRotation_recorded s).readMark
  obtain ⟨r, e, f, q, w, h⟩ := restartRotation_showingFrame s
  rw [ruleRestart_fst]
  generalize restartRotation s = t at hread h ⊢
  subst h
  obtain ⟨next, read, missed⟩ := e
  obtain rfl : read = s.exposure.readMark := hread
  rfl

theorem ruleRestart_snd (s : State) : (ruleRestart s).2 =
    { code := .ok, afterRecords := decide (s.memctl.waitExposure.length < (restartRotation s).memctl.waitExposure.length) } := rfl

/-- Settles O53, part by part of the state. -/
theorem restartClearsTheShow : Obligations.RestartClearsTheShow := by
  unfold Obligations.RestartClearsTheShow
  intro slot s hrun shown logged
  obtain ⟨hnext, -, hmissed, hflagged, hqueue⟩ := restartRotation_recorded s
  have hwrites : s.rotation.Exclusive → _ := restartRotation_writes
  have hzone := restartRotation_zone s
  have hspot := restartRotation_spot s
  have heq := ruleRestart_eq s
  have hanswer : Answers (.restart slot) slot s (ruleRestart s).1 (ruleRestart s).2 := answers_of_rule rfl hrun rfl
  rw [ruleRestart_snd, heq] at hanswer
  clear heq
  generalize restartRotation s = t at hnext hmissed hflagged hqueue hwrites hzone hspot hanswer
  refine ⟨_, _, hanswer, decide_eq_true_iff, hzone, fun id hoff => ?_, fun id p hp => ?_, fun id p hp hstays => ?_,
    fun id p hp hwithdrawing hon => ?_, rfl, fun z => ⟨Plan.empty_zone z, Plan.empty_zone z⟩, rfl, rfl, rfl, fun f hf => ?_, ?_,
    hnext, fun hle => ?_, hqueue, fun hexclusive => ?_, rfl⟩
  · exact (hspot id).trans (if_neg fun h => Bool.false_ne_true (hoff.symm.trans h.1))
  · have hkept := (hspot id).symm.trans hp
    split at hkept
    · exact nomatch hkept
    · exact hkept
  · refine (hspot id).trans ((if_neg fun h => ?_).trans hp)
    rw [hp, Option.elim_some, hstays] at h
    exact Bool.false_ne_true h.2
  · refine (hspot id).trans (if_pos ⟨hon, ?_⟩)
    rw [hp, Option.elim_some, hwithdrawing]
  · refine (hflagged f).trans ?_
    rw [decide_eq_false hf, Bool.and_false, Bool.or_false]
  · refine (hflagged .logFull).trans ?_
    rw [decide_eq_true rfl, Bool.and_true]
    refine congrArg (s.flagged .logFull || ·) (decide_eq_decide.mpr ?_)
    show s.logRoom < shown.length ↔ min shown.length s.logRoom < shown.length
    omega
  · refine (hmissed hle).trans (congrArg (fun n => min 65535 (s.exposure.missed + n)) ?_)
    show shown.length - s.logRoom = shown.length - min shown.length s.logRoom
    omega
  · refine (hwrites ((onAirExclusive_iff s).mp hexclusive)).trans ?_
    have htake : shown.take logged = shown.take s.logRoom := by
      show shown.take (min shown.length s.logRoom) = _
      rw [Nat.min_comm]
      exact List.take_eq_take_min.symm
    rw [htake]
    rfl

end Sys2Proof.Machine
end

section
/-! PROOFS. The ending stage of one zone (R122-R124, R133-R136): the accounting of a frame, the causes of an end, and what other zones and
spots keep. -/

namespace Sys2Proof.Machine

/-! ### What the rotation unit's frame work reads and leaves -/

/-- Two states that agree in what the rotation unit reads beside its own state. -/
structure SameScene (s t : State) : Prop where
  composer : t.composer = s.composer
  clock : t.clock = s.clock
  score : t.score = s.score
  straps : t.straps = s.straps

theorem SameScene.refl (s : State) : SameScene s s := ⟨rfl, rfl, rfl, rfl⟩

theorem SameScene.trans {s t u : State} (h : SameScene s t) (h' : SameScene t u) : SameScene s u :=
  ⟨h'.composer.trans h.composer, h'.clock.trans h.clock, h'.score.trans h.score, h'.straps.trans h.straps⟩

theorem ShowingFrame.sameScene {s t : State} (h : ShowingFrame s t) : SameScene s t := by
  obtain ⟨_, _, _, _, _, rfl⟩ := h
  exact ⟨rfl, rfl, rfl, rfl⟩

theorem RotationFrame.sameScene {s t : State} (h : RotationFrame s t) : SameScene s t := h.showingFrame.sameScene

theorem ReplayFrame.sameScene {s t : State} (h : ReplayFrame s t) : SameScene s t := by
  obtain ⟨_, _, _, rfl⟩ := h
  exact ⟨rfl, rfl, rfl, rfl⟩

theorem RotationUnit.mapZone_self (z : ZoneIx) (u : RotationUnit) : (u.mapZone z fun _ => u.zones[z]) = u := by
  obtain ⟨spots, zones⟩ := u
  exact congrArg (RotationUnit.mk spots) (Vector.set_getElem_self z.isLt)

/-- A spot that frames have been accounted to: its totals and marks may have changed. -/
def Spot.Aged (p q : Spot) : Prop :=
  q = { p with delivered := q.delivered, saturated := q.saturated, contractMet := q.contractMet }

theorem Spot.Aged.refl (p : Spot) : p.Aged p := rfl

theorem Spot.Aged.trans {p q r : Spot} (h : p.Aged q) (h' : q.Aged r) : p.Aged r := by
  obtain ⟨_, _, _, _, _, _, _, _, _, _, _, _, _⟩ := q
  cases h
  exact h'

/-! ### The accounting of a frame (R123, R133-R136) -/

/-- Whether the frame counts for a showing of a spot in a zone. -/
def State.counts (s : State) (z : ZoneIx) (p : Spot) : Bool :=
  frameCounts s.composer.record.mode s.composer.record.zones[z] p.minVisible

/-- The credit of the frame. -/
def State.credit (s : State) (z : ZoneIx) (p : Spot) : Nat :=
  if s.counts z p = true then frameCredit s.frameTicks s.composer.record.zones[z] else 0

/-- A showing after the frame has been accounted. -/
def State.accountedShowing (s : State) (z : ZoneIx) (p : Spot) (h : Showing) : Showing :=
  { h with
    framesOnAir := h.framesOnAir + 1
    countedFrames := h.countedFrames + (if s.counts z p = true then 1 else 0)
    credit := h.credit + s.credit z p }

/-- A spot after the frame has been accounted. -/
def State.accountedSpot (s : State) (z : ZoneIx) (p : Spot) : Spot :=
  if s.counts z p = true then (p.credited (s.credit z p)).tested else p

theorem SameScene.counts {s t : State} (h : SameScene s t) (z : ZoneIx) (p : Spot) : t.counts z p = s.counts z p := by
  rw [State.counts, State.counts, h.composer]

theorem SameScene.credit {s t : State} (h : SameScene s t) (z : ZoneIx) (p : Spot) : t.credit z p = s.credit z p := by
  rw [State.credit, State.credit, h.counts, State.frameTicks, State.frameTicks, h.straps, h.composer]

theorem SameScene.accountedShowing {s t : State} (h : SameScene s t) (z : ZoneIx) (p : Spot) (g : Showing) :
    t.accountedShowing z p g = s.accountedShowing z p g := by
  rw [State.accountedShowing, State.accountedShowing, h.counts, h.credit]

theorem SameScene.accountedSpot {s t : State} (h : SameScene s t) (z : ZoneIx) (p : Spot) :
    t.accountedSpot z p = s.accountedSpot z p := by
  rw [State.accountedSpot, State.accountedSpot, h.counts, h.credit]

/-- D and the saturated mark after a credit (R135). -/
theorem Spot.credited_eq (c : Nat) (p : Spot) : p.credited c = { p with
    delivered := min 4294967295 (p.delivered + c)
    saturated := p.saturated || decide (4294967295 < p.delivered + c) } := by
  rw [Spot.credited, creditMax]
  by_cases hsat : 4294967295 < p.delivered + c
  · rw [if_pos hsat, decide_eq_true hsat, Bool.or_true, Nat.min_eq_left (by omega)]
  · rw [if_neg hsat, decide_eq_false hsat, Bool.or_false, Nat.min_eq_right (by omega)]

theorem Spot.credited_aged (c : Nat) (p : Spot) : p.Aged (p.credited c) := by
  unfold Spot.credited
  split
  · rfl
  · rfl

theorem Spot.tested_aged (p : Spot) : p.Aged p.tested := by
  unfold Spot.tested
  split
  · rfl
  · rfl

theorem State.accountedSpot_aged (s : State) (z : ZoneIx) (p : Spot) : p.Aged (s.accountedSpot z p) := by
  unfold State.accountedSpot
  split
  · exact (Spot.credited_aged ..).trans (Spot.tested_aged _)
  · exact .refl p

/-- D and the two marks after a frame. -/
theorem State.accountedSpot_eq (s : State) (z : ZoneIx) {p : Spot} (h : p.delivered ≤ 4294967295) : s.accountedSpot z p = { p with
    delivered := min 4294967295 (p.delivered + s.credit z p)
    saturated := p.saturated || decide (4294967295 < p.delivered + s.credit z p)
    contractMet := p.contractMet ||
      (s.counts z p && decide (p.contract * 76800 ≤ min 4294967295 (p.delivered + s.credit z p))) } := by
  have hq8 : Config.q8PerSecond = 76800 := rfl
  cases hc : s.counts z p with
  | false =>
    have hcredit : s.credit z p = 0 := if_neg (by rw [hc]; exact Bool.false_ne_true)
    rw [State.accountedSpot, hc, hcredit, Nat.add_zero, Nat.min_eq_right h, decide_eq_false (Nat.not_lt.mpr h), Bool.false_and,
      Bool.or_false, Bool.or_false]
    rfl
  | true =>
    rw [State.accountedSpot, hc, if_pos rfl, Spot.credited_eq, Spot.tested, Spot.meets, hq8, Bool.true_and]
    dsimp only
    cases p.contractMet with
    | true => rfl
    | false =>
      cases decide (p.contract * 76800 ≤ min 4294967295 (p.delivered + s.credit z p)) with
      | true => rfl
      | false => rfl

theorem accountFrame_rotation (z : ZoneIx) (h : Showing) (p : Spot) (s : State) : (accountFrame z h p s).rotation =
    (s.rotation.mapZone z fun x => { x with showing := some (s.accountedShowing z p h) }).mapSpot p.id
      fun _ => s.accountedSpot z p := by
  unfold accountFrame
  dsimp only
  rw [State.accountedShowing, State.accountedSpot, State.credit, State.counts]
  split
  · rw [raiseIf_rotation, raiseIf_rotation, storeAccount, Spot.tested_id, Spot.credited_id]
    rfl
  · rfl

/-- The flags that the accounting raises (R135, R136). -/
theorem accountFrame_flagged (z : ZoneIx) (h : Showing) (p : Spot) (s : State) (f : Flag) : (accountFrame z h p s).flagged f =
    (s.flagged f || (s.counts z p && p.saturates (s.credit z p) && decide (f = .creditSaturated)) ||
      (s.counts z p && (p.credited (s.credit z p)).meets && decide (f = .contractMet))) := by
  unfold accountFrame
  dsimp only
  rw [State.credit, State.counts]
  split
  · next hc =>
    rw [State.raiseIf_flagged, State.raiseIf_flagged, hc, Bool.true_and, Bool.true_and]
    rfl
  · next hc =>
    rw [Bool.eq_false_iff.mpr hc, Bool.false_and, Bool.false_and, Bool.false_and, Bool.false_and, Bool.or_false, Bool.or_false]
    rfl

theorem raiseIf_log (c : Bool) (f : Flag) (s : State) : (s.raiseIf c f).exposure = s.exposure ∧ (s.raiseIf c f).memctl = s.memctl := by
  obtain ⟨_, e⟩ := State.raiseIf_frame c f s
  rw [e]
  exact ⟨rfl, rfl⟩

theorem accountFrame_log (z : ZoneIx) (h : Showing) (p : Spot) (s : State) :
    (accountFrame z h p s).exposure = s.exposure ∧ (accountFrame z h p s).memctl = s.memctl := by
  unfold accountFrame
  dsimp only
  split
  · rw [(raiseIf_log ..).1, (raiseIf_log ..).1, (raiseIf_log ..).2, (raiseIf_log ..).2]
    exact ⟨rfl, rfl⟩
  · exact ⟨rfl, rfl⟩

theorem accountFrame_flagsRise (z : ZoneIx) (h : Showing) (p : Spot) (s : State) : FlagsRise s (accountFrame z h p s) :=
  ⟨fun f hf => by rw [accountFrame_flagged, hf, Bool.true_or, Bool.true_or]⟩

section

variable {s : State} {z : ZoneIx} {h : Showing} {p : Spot}

theorem accountFrame_zone_same (z : ZoneIx) (h : Showing) (p : Spot) (s : State) : (accountFrame z h p s).rotation.zones[z] =
    { s.rotation.zones[z] with showing := some (s.accountedShowing z p h) } := by
  rw [accountFrame_rotation]
  exact RotationUnit.mapZone_zones_same z (fun x => { x with showing := some (s.accountedShowing z p h) }) s.rotation

theorem accountFrame_zone_other {y : ZoneIx} (hy : y ≠ z) (h : Showing) (p : Spot) (s : State) :
    (accountFrame z h p s).rotation.zones[y] = s.rotation.zones[y] := by
  rw [accountFrame_rotation]
  exact RotationUnit.mapZone_zones_other hy (fun x => { x with showing := some (s.accountedShowing z p h) }) s.rotation

theorem accountedSpot_id (s : State) (z : ZoneIx) (p : Spot) : (s.accountedSpot z p).id = p.id := by
  have haged := s.accountedSpot_aged z p
  rw [haged]

theorem accountFrame_spot (hp : s.rotation.spot h.spotId = some p) (i : Nat) : (accountFrame z h p s).rotation.spot i =
    if i = h.spotId then some (s.accountedSpot z p) else s.rotation.spot i := by
  have hid : p.id = h.spotId := RotationUnit.spot_id hp
  rw [accountFrame_rotation,
    RotationUnit.mapSpot_spot (f := fun _ => s.accountedSpot z p) (fun q _ => accountedSpot_id s z p), RotationUnit.mapZone_spot, hid]
  split
  · next hi => rw [hi, hp, Option.map_some]
  · rfl

/-! ### The causes of an end (R123) -/

/-- The first ordinary cause that ends a zone's showing once the frame is accounted, if any does. -/
def State.causeOf (s : State) (z : ZoneIx) (h : Showing) (p : Spot) : Option ShowingEnd :=
  endReason s.clock.game.state (s.rotation.zones[z]).stingPending (s.accountedShowing z p h) (s.accountedSpot z p)

theorem accountZone_none (hnone : (s.rotation.zones[z]).showing = none) : accountZone z s = (s, none) := by
  rw [accountZone, hnone]

theorem accountZone_some (hh : (s.rotation.zones[z]).showing = some h) (hp : s.rotation.spot h.spotId = some p) :
    accountZone z s = (endIf z (s.causeOf z h p) (accountFrame z h p s), s.causeOf z h p) := by
  have hcause : ordinaryEnd z (accountFrame z h p s) = s.causeOf z h p := by
    have hspot : (accountFrame z h p s).rotation.spot (s.accountedShowing z p h).spotId = some (s.accountedSpot z p) :=
      (accountFrame_spot hp _).trans (if_pos rfl)
    rw [ordinaryEnd, accountFrame_zone_same]
    dsimp only
    rw [hspot]
    dsimp only
    rw [((accountFrame_showingFrame z h p s).sameScene).clock]
    rfl
  rw [accountZone, hh]
  dsimp only
  rw [hp]
  dsimp only
  rw [hcause]

theorem endReason_eq_none {g : GameState} {pending : Bool} : endReason g pending h p = none ↔
    pending = false ∧ (h.sting = true ∨ p.spotClass.matches g = true) ∧ p.withdrawing = false ∧ h.countedFrames < p.dwell ∧
      h.framesOnAir < 4 * p.dwell := by
  unfold endReason
  cases pending with
  | true => simp
  | false =>
    cases hc : (!h.sting && !p.spotClass.matches g) with
    | true =>
      simp only [Bool.and_eq_true, Bool.not_eq_true'] at hc
      simp [hc.1, hc.2]
    | false =>
      have hclass : h.sting = true ∨ p.spotClass.matches g = true := by
        rcases Bool.and_eq_false_iff.mp hc with h' | h'
        · exact .inl ((Bool.not_eq_false' _).mp h')
        · exact .inr ((Bool.not_eq_false' _).mp h')
      cases p.withdrawing with
      | true => simp
      | false =>
        simp only [Bool.false_eq_true, if_false, hclass, true_and]
        split
        · simp; omega
        · split
          · simp; omega
          · simp; omega

end

end Sys2Proof.Machine
end

section
/-! PROOFS. The ending stages (R121-R124): what they keep of the zones and spots they do not end, what they do to the one zone in hand, and
what its record is. -/

namespace Sys2Proof.Machine

/-! ### What an ending keeps -/

/-- What becomes of a spot in the ending stages: frames may be accounted to it; one that is withdrawing, shown where a showing may end, may be
deleted. -/
def SpotFate (shown : Prop) (a b : Option Spot) : Prop :=
  (a = none → b = none) ∧
  ∀ p, a = some p → (∃ q, b = some q ∧ p.Aged q) ∨ (b = none ∧ p.withdrawing = true ∧ shown)

theorem SpotFate.refl (shown : Prop) (a : Option Spot) : SpotFate shown a a :=
  ⟨id, fun p hp => .inl ⟨p, hp, .refl p⟩⟩

theorem SpotFate.mono {shown shown' : Prop} {a b : Option Spot} (h : SpotFate shown a b) (hs : shown → shown') : SpotFate shown' a b :=
  ⟨h.1, fun p hp => (h.2 p hp).imp_right fun ⟨hb, hw, hshown⟩ => ⟨hb, hw, hs hshown⟩⟩

theorem SpotFate.trans {shown : Prop} {a b c : Option Spot} (h : SpotFate shown a b) (h' : SpotFate shown b c) : SpotFate shown a c := by
  refine ⟨fun ha => h'.1 (h.1 ha), fun p hp => ?_⟩
  rcases h.2 p hp with ⟨q, hq, haged⟩ | ⟨hb, hw, hs⟩
  · refine (h'.2 q hq).imp (fun ⟨r, hr, haged'⟩ => ⟨r, hr, haged.trans haged'⟩) fun ⟨hc, hw, hs⟩ => ⟨hc, ?_, hs⟩
    rw [haged] at hw
    exact hw
  · exact .inr ⟨h'.1 hb, hw, hs⟩

/-- The rotation unit after an ending stage for some of the zones. -/
structure EndingStep (P : ZoneIx → Prop) (u v : RotationUnit) : Prop where
  zones : ∀ y : ZoneIx, ¬ P y → v.zones[y] = u.zones[y]
  shows : ∀ (y : ZoneIx) (i : Nat), (v.zones[y]).shows i = true → (u.zones[y]).shows i = true
  kept : ∀ i, (∀ y : ZoneIx, P y → (u.zones[y]).shows i = false) → v.spot i = u.spot i
  spot : ∀ i, SpotFate (∃ y, P y ∧ (u.zones[y]).shows i = true) (u.spot i) (v.spot i)

namespace EndingStep

theorem refl (P : ZoneIx → Prop) (u : RotationUnit) : EndingStep P u u :=
  ⟨fun _ _ => rfl, fun _ _ h => h, fun _ _ => rfl, fun _ => .refl ..⟩

theorem trans {P : ZoneIx → Prop} {u v w : RotationUnit} (h : EndingStep P u v) (h' : EndingStep P v w) : EndingStep P u w where
  zones y hy := (h'.zones y hy).trans (h.zones y hy)
  shows y i hs := h.shows y i (h'.shows y i hs)
  kept i hi := by
    refine (h'.kept i fun y hy => ?_).trans (h.kept i hi)
    rw [Bool.eq_false_iff]
    exact fun hs => Bool.noConfusion ((hi y hy).symm.trans (h.shows y i hs))
  spot i := (h.spot i).trans ((h'.spot i).mono fun ⟨y, hy, hs⟩ => ⟨y, hy, h.shows y i hs⟩)

theorem mono {P Q : ZoneIx → Prop} {u v : RotationUnit} (h : EndingStep P u v) (hPQ : ∀ y, P y → Q y) : EndingStep Q u v where
  zones y hy := h.zones y fun hP => hy (hPQ y hP)
  shows := h.shows
  kept i hi := h.kept i fun y hy => hi y (hPQ y hy)
  spot i := (h.spot i).mono fun ⟨y, hy, hs⟩ => ⟨y, hPQ y hy, hs⟩

/-- A change of a zone's own items that shows nothing new. -/
theorem mapZone {z : ZoneIx} {f : SponsorZone → SponsorZone} (u : RotationUnit)
    (hf : ∀ i, (f u.zones[z]).shows i = true → (u.zones[z]).shows i = true) : EndingStep (· = z) u (u.mapZone z f) where
  zones y hy := RotationUnit.mapZone_zones_other hy f u
  shows y i hs := by
    by_cases hy : y = z
    · subst hy
      rw [RotationUnit.mapZone_zones_same] at hs
      exact hf i hs
    · rwa [RotationUnit.mapZone_zones_other hy] at hs
  kept _ _ := rfl
  spot _ := .refl ..

theorem ended {z : ZoneIx} {g : Showing} {u : RotationUnit} (hg : (u.zones[z]).showing = some g) :
    EndingStep (· = z) u (u.ended z g) where
  zones y hy := ended_zones_other hy g u
  shows y i hs := by
    by_cases hy : y = z
    · subst hy
      rw [ended_zones_same, SponsorZone.shows_none rfl] at hs
      cases hs
    · rwa [ended_zones_other hy] at hs
  kept i hi := by
    rw [ended_spot, if_neg]
    rintro ⟨rfl, -⟩
    exact Bool.noConfusion ((hi z rfl).symm.trans (SponsorZone.shows_iff.mpr ⟨g, hg, rfl⟩))
  spot i := by
    rw [ended_spot]
    refine ⟨fun hnone => by rw [hnone, ite_self], fun p hp => ?_⟩
    by_cases hw : i = g.spotId ∧ (u.spot i).elim false Spot.withdrawing = true
    · rw [if_pos hw]
      obtain ⟨rfl, hw⟩ := hw
      rw [hp] at hw
      exact .inr ⟨rfl, hw, z, rfl, SponsorZone.shows_iff.mpr ⟨g, hg, rfl⟩⟩
    · rw [if_neg hw]
      exact .inl ⟨p, hp, .refl p⟩

theorem endShowing (z : ZoneIx) (reason : ShowingEnd) (s : State) :
    EndingStep (· = z) s.rotation (endShowing z reason s).rotation := by
  rw [endShowing_rotation]
  cases hg : (s.rotation.zones[z]).showing with
  | none => exact .refl ..
  | some g => exact .ended hg

theorem accountFrame {z : ZoneIx} {h : Showing} {p : Spot} {s : State} (hh : (s.rotation.zones[z]).showing = some h)
    (hp : s.rotation.spot h.spotId = some p) : EndingStep (· = z) s.rotation (accountFrame z h p s).rotation where
  zones y hy := accountFrame_zone_other hy h p s
  shows y i hs := by
    by_cases hy : y = z
    · subst hy
      rw [accountFrame_zone_same] at hs
      obtain ⟨g, hg, rfl⟩ := SponsorZone.shows_iff.mp hs
      obtain rfl := Option.some.inj hg
      exact SponsorZone.shows_iff.mpr ⟨h, hh, rfl⟩
    · rwa [accountFrame_zone_other hy] at hs
  kept i hi := by
    rw [accountFrame_spot hp, if_neg]
    rintro rfl
    exact Bool.noConfusion ((hi z rfl).symm.trans (SponsorZone.shows_iff.mpr ⟨h, hh, rfl⟩))
  spot i := by
    rw [accountFrame_spot hp]
    split
    · next hi =>
      subst hi
      refine ⟨fun hnone => (nomatch hnone.symm.trans hp), fun q hq => .inl ⟨_, rfl, ?_⟩⟩
      obtain rfl := Option.some.inj (hq.symm.trans hp)
      exact s.accountedSpot_aged z _
    · exact .refl ..

theorem endIf (z : ZoneIx) (reason : Option ShowingEnd) (s : State) : EndingStep (· = z) s.rotation (endIf z reason s).rotation := by
  cases reason with
  | none => exact .refl ..
  | some r => exact .endShowing z r s

theorem accountZone (z : ZoneIx) (s : State) : EndingStep (· = z) s.rotation (accountZone z s).1.rotation := by
  cases hh : (s.rotation.zones[z]).showing with
  | none =>
    rw [accountZone_none hh]
    exact .refl ..
  | some h =>
    cases hp : s.rotation.spot h.spotId with
    | none =>
      rw [Machine.accountZone, hh]
      dsimp only
      rw [hp]
      exact .refl ..
    | some p =>
      rw [accountZone_some hh hp]
      exact (EndingStep.accountFrame hh hp).trans (.endIf ..)

theorem planStage (z : ZoneIx) (s : State) : EndingStep (· = z) s.rotation (planStage z s).rotation := by
  have hend : EndingStep (· = z) s.rotation
      (if planEnds s.composer.record.zones[z] then Machine.endShowing z .planChange s else s).rotation := by
    split
    · exact .endShowing ..
    · exact .refl ..
  unfold Machine.planStage
  dsimp only
  split
  · exact hend.trans (.mapZone _ fun _ hs => hs)
  · exact hend

theorem endingStage (z : ZoneIx) (s : State) : EndingStep (· = z) s.rotation (endingStage z s).1.rotation := by
  have hplan := EndingStep.planStage z s
  rw [endingStage_eq]
  split
  · exact (hplan.trans (.endShowing z .outputMode _)).trans (.mapZone _ fun _ hs => hs)
  · split
    · exact hplan
    · exact hplan.trans (.accountZone ..)

theorem endingStages : ∀ (l : List ZoneIx) (s : State), EndingStep (· ∈ l) s.rotation (endingStages l s).1.rotation
  | [], s => .refl ..
  | z :: rest, s => by
    refine ((EndingStep.endingStage z s).mono fun y hy => ?_).trans ((endingStages rest _).mono fun y hy => List.mem_cons_of_mem _ hy)
    rw [hy]
    exact List.mem_cons_self

end EndingStep

theorem endingStages_append (l l' : List ZoneIx) (s : State) : endingStages (l ++ l') s =
    ((endingStages l' (endingStages l s).1).1, (endingStages l s).2 ++ (endingStages l' (endingStages l s).1).2) := by
  induction l generalizing s with
  | nil => rfl
  | cons z rest ih =>
    rw [List.cons_append, endingStages, endingStages, ih]
    cases (endingStage z s).2 with
    | none => rfl
    | some r => rfl

/-! ### A zone without a showing -/

theorem planStage_silent {z : ZoneIx} {s : State} (h : (s.rotation.zones[z]).showing = none) : RotationFrame s (planStage z s) := by
  unfold planStage
  dsimp only
  rw [endShowing_none .planChange h, ite_self]
  split
  · exact ⟨_, rfl⟩
  · exact .refl s

/-- A zone without a showing leaves everything but its own list and sting, and nothing ends in it. -/
theorem endingStage_silent {z : ZoneIx} {s : State} (h : (s.rotation.zones[z]).showing = none) :
    RotationFrame s (endingStage z s).1 ∧ (endingStage z s).2 = none := by
  have hplan := planStage_silent h
  have hnone : ((planStage z s).rotation.zones[z]).showing = none := by
    cases hg : ((planStage z s).rotation.zones[z]).showing with
    | none => rfl
    | some g =>
      have hshows := (EndingStep.planStage z s).shows z _ (SponsorZone.shows_iff.mpr ⟨g, hg, rfl⟩)
      rw [SponsorZone.shows_none h] at hshows
      cases hshows
  rw [endingStage_eq]
  split
  · refine ⟨hplan.trans ?_, rfl⟩
    rw [modeStage, endShowing_none .outputMode hnone]
    exact ⟨_, rfl⟩
  · split
    · exact ⟨hplan, rfl⟩
    · rw [accountZone_none hnone]
      exact ⟨hplan, rfl⟩

theorem endingStages_silent : ∀ (l : List ZoneIx) (s : State), (∀ y ∈ l, (s.rotation.zones[y]).showing = none) →
    RotationFrame s (endingStages l s).1 ∧ (endingStages l s).2 = []
  | [], s, _ => ⟨.refl s, rfl⟩
  | z :: rest, s, h => by
    obtain ⟨hframe, hevent⟩ := endingStage_silent (h z List.mem_cons_self)
    have hrest : ∀ y ∈ rest, (((endingStage z s).1).rotation.zones[y]).showing = none := fun y hy => by
      cases hg : (((endingStage z s).1).rotation.zones[y]).showing with
      | none => rfl
      | some g =>
        have hshows := (EndingStep.endingStage z s).shows y _ (SponsorZone.shows_iff.mpr ⟨g, hg, rfl⟩)
        rw [SponsorZone.shows_none (h y (List.mem_cons_of_mem _ hy))] at hshows
        cases hshows
    obtain ⟨hframe', hevents⟩ := endingStages_silent rest _ hrest
    rw [endingStages]
    dsimp only
    rw [hevent]
    exact ⟨hframe.trans hframe', hevents⟩

end Sys2Proof.Machine
end

section
/-! PROOFS. The ending stage at the zone in hand (R122-R124, R140): its list and sting, its showing, and the record of one that ends. -/

namespace Sys2Proof.Machine

/-! ### The zone's plan (R122) -/

theorem planEnds_eq_false {zr : ZoneRecord} :
    planEnds zr = false ↔ zr.changed = false ∧ zr.desc.enable = true ∧ zr.desc.source = .sponsor := by
  rw [planEnds, Bool.or_eq_false_iff, Bool.not_eq_false', ZoneDesc.isOn, Bool.and_eq_true, beq_iff_eq]

/-- A zone's state once a resize has emptied it. -/
def State.readied (s : State) (z : ZoneIx) : SponsorZone :=
  if (s.composer.record.zones[z]).resized = true then (s.rotation.zones[z]).emptied else s.rotation.zones[z]

/-- The state in which a zone is accounted or closed. -/
def State.ready (s : State) (z : ZoneIx) : State := { s with rotation := s.rotation.mapZone z fun _ => s.readied z }

theorem State.readied_showing (s : State) (z : ZoneIx) : (s.readied z).showing = (s.rotation.zones[z]).showing := by
  unfold State.readied
  split
  · rfl
  · rfl

theorem State.ready_zone (s : State) (z : ZoneIx) : (s.ready z).rotation.zones[z] = s.readied z :=
  RotationUnit.mapZone_zones_same z (fun _ => s.readied z) s.rotation

theorem State.ready_showing (s : State) (z : ZoneIx) : ((s.ready z).rotation.zones[z]).showing = (s.rotation.zones[z]).showing := by
  rw [State.ready_zone, State.readied_showing]

theorem State.ready_spot (s : State) (z : ZoneIx) (i : Nat) : (s.ready z).rotation.spot i = s.rotation.spot i := rfl

theorem State.ready_sameScene (s : State) (z : ZoneIx) : SameScene s (s.ready z) := ⟨rfl, rfl, rfl, rfl⟩

theorem planStage_planned {z : ZoneIx} {s : State} (h : planEnds s.composer.record.zones[z] = false) : planStage z s = s.ready z := by
  have hon : (s.composer.record.zones[z]).desc.isOn .sponsor = true := by
    obtain ⟨-, henable, hsource⟩ := planEnds_eq_false.mp h
    exact isOn_sponsor henable hsource
  unfold planStage State.ready State.readied
  dsimp only
  rw [h, hon, Bool.not_true, Bool.false_or]
  cases (s.composer.record.zones[z]).resized with
  | true =>
    have hset : s.rotation.mapZone z SponsorZone.emptied = s.rotation.mapZone z fun _ => (s.rotation.zones[z]).emptied := rfl
    simp only [Bool.false_eq_true, if_false, if_true, hset]
  | false =>
    simp only [Bool.false_eq_true, if_false]
    rw [RotationUnit.mapZone_self]

theorem endingStage_unplanned {z : ZoneIx} {s : State} (hmode : s.composer.record.mode = .normal)
    (h : planEnds s.composer.record.zones[z] = true) : endingStage z s = (planStage z s, none) := by
  rw [endingStage_eq, hmode]
  exact if_pos h

theorem endingStage_accounts {z : ZoneIx} {s : State} (hmode : s.composer.record.mode = .normal)
    (h : planEnds s.composer.record.zones[z] = false) : endingStage z s = accountZone z (s.ready z) := by
  rw [endingStage_eq, hmode, h, planStage_planned h]
  rfl

theorem endingStage_closes {z : ZoneIx} {s : State} (hmode : s.composer.record.mode ≠ .normal) :
    endingStage z s = (modeStage z (planStage z s), none) := by
  rw [endingStage_eq]
  exact if_pos (bne_iff_ne.mpr hmode)

/-! ### The record of a showing that ends (R124, R140) -/

/-- A record of a showing has been numbered and written, or missed. -/
def State.Logs (s t : State) (z : ZoneIx) (reason : ShowingEnd) (saturated : Bool) (g : Showing) : Prop :=
  (s.exposure.unreleased < 1024 →
    t.exposure = { s.exposure with nextRecord := s.exposure.nextRecord + 1 } ∧
    t.memctl = s.memctl.offerExposure
      { offset := 0x8000 + 32 * (s.exposure.nextRecord.toNat % 1024)
        data := proofRecord s.exposure.nextRecord z reason saturated s.clock.venue g }) ∧
  (1024 ≤ s.exposure.unreleased →
    t.exposure = { s.exposure with missed := min 65535 (s.exposure.missed + 1) } ∧ t.memctl = s.memctl ∧ t.flagged .logFull = true)

theorem endShowing_logs {z : ZoneIx} (reason : ShowingEnd) {s : State} {g : Showing} (hg : (s.rotation.zones[z]).showing = some g) :
    s.Logs (endShowing z reason s) z reason (s.rotation.saturatedMark g) g := by
  refine ⟨fun hroom => ?_, fun hfull => ?_⟩
  · rw [endShowing_room reason hg hroom]
    exact ⟨rfl, rfl⟩
  · rw [endShowing_full reason hg hfull]
    exact ⟨rfl, rfl, State.raise_flagged .logFull s⟩

/-- The log's counters and the queue are the same, and so is venue time; no flag has fallen. -/
structure SameLog (s t : State) : Prop where
  exposure : t.exposure = s.exposure
  memctl : t.memctl = s.memctl
  venue : t.clock.venue = s.clock.venue
  flags : FlagsRise s t

theorem SameLog.refl (s : State) : SameLog s s := ⟨rfl, rfl, rfl, .refl s⟩

theorem SameLog.trans {s t u : State} (h : SameLog s t) (h' : SameLog t u) : SameLog s u :=
  ⟨h'.exposure.trans h.exposure, h'.memctl.trans h.memctl, h'.venue.trans h.venue, h.flags.trans h'.flags⟩

theorem RotationFrame.sameLog {s t : State} (h : RotationFrame s t) : SameLog s t := by
  obtain ⟨_, rfl⟩ := h
  exact ⟨rfl, rfl, rfl, .of_flags rfl⟩

theorem accountFrame_sameLog (z : ZoneIx) (h : Showing) (p : Spot) (s : State) : SameLog s (accountFrame z h p s) :=
  ⟨(accountFrame_log z h p s).1, (accountFrame_log z h p s).2,
    congrArg ClockUnit.venue (accountFrame_showingFrame z h p s).sameScene.clock, accountFrame_flagsRise z h p s⟩

theorem State.Logs.after {s s' t : State} {z : ZoneIx} {reason : ShowingEnd} {saturated : Bool} {g : Showing}
    (hexposure : s'.exposure = s.exposure) (hmemctl : s'.memctl = s.memctl) (hvenue : s'.clock.venue = s.clock.venue)
    (h : s'.Logs t z reason saturated g) : s.Logs t z reason saturated g := by
  unfold State.Logs at h ⊢
  rw [hexposure, hmemctl, hvenue] at h
  exact h

theorem State.Logs.then {s t t' : State} {z : ZoneIx} {reason : ShowingEnd} {saturated : Bool} {g : Showing}
    (h : s.Logs t z reason saturated g) (ht : SameLog t t') : s.Logs t' z reason saturated g := by
  obtain ⟨hroom, hfull⟩ := h
  refine ⟨fun hlt => ?_, fun hle => ?_⟩
  · rw [ht.exposure, ht.memctl]
    exact hroom hlt
  · rw [ht.exposure, ht.memctl]
    obtain ⟨hexposure, hmemctl, hflag⟩ := hfull hle
    exact ⟨hexposure, hmemctl, ht.flags.flagged _ hflag⟩

/-! ### The zone that plan or mode end -/

theorem planStage_unplanned {z : ZoneIx} {s : State} (h : planEnds s.composer.record.zones[z] = true) :
    RotationFrame (endShowing z .planChange s) (planStage z s) ∧
    ((planStage z s).rotation.zones[z]).showing = none ∧
    (∀ i, (planStage z s).rotation.spot i = (endShowing z .planChange s).rotation.spot i) ∧
    ((s.composer.record.zones[z]).desc.isOn .sponsor = false ∨ (s.composer.record.zones[z]).resized = true →
      (planStage z s).rotation.zones[z] =
        { rotation := [], cursor := -1, sting := none, stingPending := false, showing := none }) := by
  have hnone : ((endShowing z .planChange s).rotation.zones[z]).showing = none := by
    rw [endShowing_rotation]
    cases hg : (s.rotation.zones[z]).showing with
    | none => exact hg
    | some g => rw [Option.elim_some, ended_zones_same]
  unfold planStage
  dsimp only
  rw [if_pos h]
  generalize endShowing z .planChange s = t at hnone ⊢
  have hzone : (t.rotation.mapZone z SponsorZone.emptied).zones[z] =
      { rotation := [], cursor := -1, sting := none, stingPending := false, showing := none } := by
    rw [RotationUnit.mapZone_zones_same, SponsorZone.emptied, hnone]
  split
  · exact ⟨⟨_, rfl⟩, congrArg SponsorZone.showing hzone, fun _ => rfl, fun _ => hzone⟩
  · next hkept =>
    rw [Bool.or_eq_true, Bool.not_eq_true'] at hkept
    exact ⟨.refl t, hnone, fun _ => rfl, fun hempty => absurd hempty hkept⟩

/-- The zone's showing is gone after a mode that is not NORMAL, and its sting is not pending. -/
theorem modeStage_zone (z : ZoneIx) (s : State) :
    (modeStage z s).rotation.zones[z] = { s.rotation.zones[z] with showing := none, stingPending := false } := by
  have hzone : (endShowing z .outputMode s).rotation.zones[z] = { s.rotation.zones[z] with showing := none } := by
    rw [endShowing_rotation]
    cases hg : (s.rotation.zones[z]).showing with
    | none =>
      rw [Option.elim_none, ← hg]
    | some g => rw [Option.elim_some, ended_zones_same]
  refine (RotationUnit.mapZone_zones_same z SponsorZone.unpended (endShowing z .outputMode s).rotation).trans ?_
  rw [hzone]
  rfl

theorem modeStage_spot (z : ZoneIx) (s : State) (i : Nat) :
    (modeStage z s).rotation.spot i = (endShowing z .outputMode s).rotation.spot i := rfl

theorem modeStage_frame (z : ZoneIx) (s : State) : RotationFrame (endShowing z .outputMode s) (modeStage z s) := ⟨_, rfl⟩

/-! ### The zone that is accounted -/

section

variable {s : State} {z : ZoneIx} {h : Showing} {p : Spot}

/-- The cause that ends the zone's showing at a NORMAL frame whose plan keeps it. -/
def State.readyCause (s : State) (z : ZoneIx) (h : Showing) (p : Spot) : Option ShowingEnd :=
  endReason s.clock.game.state (s.readied z).stingPending (s.accountedShowing z p h) (s.accountedSpot z p)

theorem ready_causeOf (s : State) (z : ZoneIx) (h : Showing) (p : Spot) : (s.ready z).causeOf z h p = s.readyCause z h p := by
  have hscene := s.ready_sameScene z
  rw [State.causeOf, State.readyCause, State.ready_zone, hscene.accountedShowing, hscene.accountedSpot, hscene.clock]

theorem accounting_snd (hmode : s.composer.record.mode = .normal) (hplan : planEnds s.composer.record.zones[z] = false)
    (hh : (s.rotation.zones[z]).showing = some h) (hp : s.rotation.spot h.spotId = some p) :
    endingStage z s = (endIf z (s.readyCause z h p) (accountFrame z h p (s.ready z)), s.readyCause z h p) := by
  rw [endingStage_accounts hmode hplan, accountZone_some ((s.ready_showing z).trans hh) ((s.ready_spot z _).trans hp), ready_causeOf]

theorem accountFrame_ready_zone (s : State) (z : ZoneIx) (h : Showing) (p : Spot) :
    (accountFrame z h p (s.ready z)).rotation.zones[z] = { s.readied z with showing := some (s.accountedShowing z p h) } := by
  rw [accountFrame_zone_same, State.ready_zone, (s.ready_sameScene z).accountedShowing]

theorem accountFrame_ready_spot (hp : s.rotation.spot h.spotId = some p) (i : Nat) :
    (accountFrame z h p (s.ready z)).rotation.spot i = if i = h.spotId then some (s.accountedSpot z p) else s.rotation.spot i := by
  rw [accountFrame_spot ((s.ready_spot z _).trans hp), (s.ready_sameScene z).accountedSpot, State.ready_spot]

/-- A showing that goes on has the frame accounted to it and to its spot. -/
theorem endingStage_goesOn (hmode : s.composer.record.mode = .normal) (hplan : planEnds s.composer.record.zones[z] = false)
    (hh : (s.rotation.zones[z]).showing = some h) (hp : s.rotation.spot h.spotId = some p) (hcause : s.readyCause z h p = none) :
    (endingStage z s).1.rotation.zones[z] = { s.readied z with showing := some (s.accountedShowing z p h) } ∧
    (endingStage z s).1.rotation.spot h.spotId = some (s.accountedSpot z p) := by
  rw [accounting_snd hmode hplan hh hp, hcause]
  exact ⟨accountFrame_ready_zone s z h p, (accountFrame_ready_spot hp _).trans (if_pos rfl)⟩

/-- A showing that a cause ends is gone, with its record and, if it is withdrawing, its spot. -/
theorem endingStage_ends {r : ShowingEnd} (hmode : s.composer.record.mode = .normal)
    (hplan : planEnds s.composer.record.zones[z] = false) (hh : (s.rotation.zones[z]).showing = some h)
    (hp : s.rotation.spot h.spotId = some p) (hcause : s.readyCause z h p = some r) :
    (endingStage z s).1.rotation.zones[z] = { s.readied z with showing := none } ∧
    (p.withdrawing = true → (endingStage z s).1.rotation.spot h.spotId = none) ∧
    s.Logs (endingStage z s).1 z r (s.accountedSpot z p).saturated (s.accountedShowing z p h) ∧ (endingStage z s).2 = some r := by
  have hzone := accountFrame_ready_zone s z h p
  have hspot := (accountFrame_ready_spot (z := z) hp h.spotId).trans (if_pos rfl)
  have hlog : SameLog s (accountFrame z h p (s.ready z)) := RotationFrame.sameLog ⟨_, rfl⟩ |>.trans (accountFrame_sameLog z h p _)
  have hw : (s.accountedSpot z p).withdrawing = p.withdrawing := by rw [s.accountedSpot_aged z p]
  rw [accounting_snd hmode hplan hh hp, hcause]
  dsimp only [endIf]
  generalize accountFrame z h p (s.ready z) = t at hzone hspot hlog ⊢
  have hshowing : (t.rotation.zones[z]).showing = some (s.accountedShowing z p h) := congrArg SponsorZone.showing hzone
  have hmark : t.rotation.saturatedMark (s.accountedShowing z p h) = (s.accountedSpot z p).saturated := by
    rw [RotationUnit.saturatedMark, show (s.accountedShowing z p h).spotId = h.spotId from rfl, hspot]
    rfl
  refine ⟨?_, fun hwithdrawing => ?_, ?_, rfl⟩
  · rw [endShowing_rotation, hshowing, Option.elim_some, ended_zones_same, hzone]
  · rw [endShowing_spot, if_pos]
    refine ⟨SponsorZone.shows_iff.mpr ⟨_, hshowing, rfl⟩, ?_⟩
    rw [hspot, Option.elim_some, hw, hwithdrawing]
  · have hlogs := endShowing_logs r hshowing
    rw [hmark] at hlogs
    exact hlogs.after hlog.exposure hlog.memctl hlog.venue

end

end Sys2Proof.Machine
end

section
/-! PROOFS. The selection stages (R125-R127): which showing a zone begins, and what a selection keeps. -/

namespace Sys2Proof.Machine

/-! ### What a selection can do -/

/-- The showing of a spot that begins now. -/
def State.fresh (s : State) (id : Nat) (sting overrun : Bool) : Showing :=
  { spotId := id, startVenue := s.clock.venue, gameValue := s.clock.game.value, period := s.score.fields[2], framesOnAir := 0,
    countedFrames := 0, credit := 0, sting := sting, overrun := overrun }

/-- A spot whose showings have risen by 1. -/
def Spot.bumped (p : Spot) : Spot := { p with showings := saturating 65535 p.showings }

/-- A showing has begun in a zone, of a spot that was not on air, and the cursor stands at `c`. -/
structure Begins (z : ZoneIx) (h : Showing) (c : Int) (s t : State) : Prop where
  zone : t.rotation.zones[z] = { s.rotation.zones[z] with cursor := c, stingPending := false, showing := some h }
  other : ∀ y : ZoneIx, y ≠ z → t.rotation.zones[y] = s.rotation.zones[y]
  spot : ∀ i, t.rotation.spot i = if i = h.spotId then (s.rotation.spot i).map Spot.bumped else s.rotation.spot i
  off : s.rotation.onAir h.spotId = false
  frame : RotationFrame s t

/-- No showing has begun in a zone. -/
structure Rests (z : ZoneIx) (s t : State) : Prop where
  zone : t.rotation.zones[z] = { s.rotation.zones[z] with stingPending := false }
  other : ∀ y : ZoneIx, y ≠ z → t.rotation.zones[y] = s.rotation.zones[y]
  spot : ∀ i, t.rotation.spot i = s.rotation.spot i
  frame : RotationFrame s t

/-- The zone's sting no longer pending. -/
def State.unpend (s : State) (z : ZoneIx) : State := { s with rotation := s.rotation.mapZone z SponsorZone.unpended }

theorem unpend_rests (z : ZoneIx) (s : State) : Rests z s (s.unpend z) where
  zone := RotationUnit.mapZone_zones_same z SponsorZone.unpended s.rotation
  other _ hy := RotationUnit.mapZone_zones_other hy SponsorZone.unpended s.rotation
  spot _ := rfl
  frame := ⟨_, rfl⟩

theorem rests_refl {z : ZoneIx} {s : State} (h : (s.rotation.zones[z]).stingPending = false) : Rests z s s where
  zone := by rw [← h]
  other _ _ := rfl
  spot _ := rfl
  frame := .refl s

theorem unpend_onAir (z : ZoneIx) (s : State) (i : Nat) : (s.unpend z).rotation.onAir i = s.rotation.onAir i :=
  RotationUnit.onAir_mapZone z s.rotation i fun x => SponsorZone.unpended_shows x i

theorem unpend_zone (z : ZoneIx) (s : State) : (s.unpend z).rotation.zones[z] = (s.rotation.zones[z]).unpended :=
  RotationUnit.mapZone_zones_same z SponsorZone.unpended s.rotation

theorem unpend_eligible (z : ZoneIx) (s : State) (i : Nat) : eligible (s.unpend z) i = eligible s i := by
  unfold eligible
  rw [unpend_onAir]
  rfl

theorem Begins.of_unpend {z : ZoneIx} {h : Showing} {c : Int} {s t : State} (hb : Begins z h c (s.unpend z) t) : Begins z h c s t where
  zone := by
    rw [hb.zone, unpend_zone]
    rfl
  other y hy := (hb.other y hy).trans ((unpend_rests z s).other y hy)
  spot i := hb.spot i
  off := by rw [← unpend_onAir z]; exact hb.off
  frame := RotationFrame.trans ⟨_, rfl⟩ hb.frame

theorem Rests.of_unpend {z : ZoneIx} {s t : State} (hr : Rests z (s.unpend z) t) : Rests z s t where
  zone := by
    rw [hr.zone, unpend_zone]
    rfl
  other y hy := (hr.other y hy).trans ((unpend_rests z s).other y hy)
  spot i := hr.spot i
  frame := RotationFrame.trans ⟨_, rfl⟩ hr.frame

/-! ### A showing that begins (R127) -/

theorem beginShowing_zone_same (z : ZoneIx) (id : Nat) (sting overrun : Bool) (s : State) :
    (beginShowing z id sting overrun s).rotation.zones[z] =
      { s.rotation.zones[z] with showing := some (s.fresh id sting overrun) } :=
  RotationUnit.mapZone_zones_same z (fun x => { x with showing := some (s.fresh id sting overrun) }) s.rotation

theorem beginShowing_zone_other {y z : ZoneIx} (hy : y ≠ z) (id : Nat) (sting overrun : Bool) (s : State) :
    (beginShowing z id sting overrun s).rotation.zones[y] = s.rotation.zones[y] :=
  RotationUnit.mapZone_zones_other hy (fun x => { x with showing := some (s.fresh id sting overrun) }) s.rotation

theorem beginShowing_spot (z : ZoneIx) (id : Nat) (sting overrun : Bool) (s : State) (i : Nat) :
    (beginShowing z id sting overrun s).rotation.spot i =
      if i = id then (s.rotation.spot i).map Spot.bumped else s.rotation.spot i :=
  RotationUnit.mapSpot_spot (f := Spot.bumped) (fun _ hp => hp) _ i

section

variable {z : ZoneIx} {s : State}

theorem beginShowing_begins {id : Nat} (sting overrun : Bool) (hpending : (s.rotation.zones[z]).stingPending = false)
    (hoff : s.rotation.onAir id = false) :
    Begins z (s.fresh id sting overrun) (s.rotation.zones[z]).cursor s (beginShowing z id sting overrun s) where
  zone := by rw [beginShowing_zone_same, ← hpending]
  other y hy := beginShowing_zone_other hy ..
  spot i := beginShowing_spot ..
  off := hoff
  frame := beginShowing_rotationFrame ..

theorem takeEntry_begins {pos : Nat} (overrun : Bool) (hpending : (s.rotation.zones[z]).stingPending = false)
    (h : eligible s ((s.rotation.zones[z]).rotation.getD pos 0) = true) :
    Begins z (s.fresh ((s.rotation.zones[z]).rotation.getD pos 0) false overrun) pos s (takeEntry z pos overrun s) where
  zone := by
    refine (RotationUnit.mapZone_zones_same z (fun x => { x with cursor := (pos : Int) }) _).trans ?_
    rw [beginShowing_zone_same, ← hpending]
  other y hy := (RotationUnit.mapZone_zones_other hy (fun x => { x with cursor := (pos : Int) }) _).trans (beginShowing_zone_other hy ..)
  spot i := beginShowing_spot ..
  off := (eligible_spec h).1
  frame := ⟨_, rfl⟩

/-! ### The search (R126) -/

/-- The k-th place the search of a zone visits. -/
def SponsorZone.place (x : SponsorZone) (k : Nat) : Nat := ((x.cursor + 1 + (k : Int)) % (x.rotation.length : Int)).toNat

/-- The spot entered at the k-th place visited. -/
def SponsorZone.visited (x : SponsorZone) (k : Nat) : Nat := x.rotation.getD (x.place k) 0

theorem SponsorZone.place_lt {x : SponsorZone} {k : Nat} (hk : k < x.rotation.length) : x.place k < x.rotation.length := by
  have hpos : (0 : Int) < x.rotation.length := by omega
  have hlow := Int.emod_nonneg (x.cursor + 1 + (k : Int)) (by omega : (x.rotation.length : Int) ≠ 0)
  have hhigh := Int.emod_lt_of_pos (x.cursor + 1 + (k : Int)) hpos
  unfold SponsorZone.place
  omega

theorem SponsorZone.test_place {x : SponsorZone} {k : Nat} (hk : k < x.rotation.length) (test : Nat → Bool) :
    (x.rotation[x.place k]?).elim false test = test (x.visited k) := by
  have hlt := SponsorZone.place_lt hk
  rw [SponsorZone.visited, List.getElem?_eq_getElem hlt, Option.elim_some, List.getD_eq_getElem?_getD, List.getElem?_eq_getElem hlt]
  rfl

theorem searchOrder_eq (n : Nat) (cursor : Int) :
    searchOrder n cursor = (List.range n).map fun k : Nat => ((cursor + 1 + (k : Int)) % (n : Int)).toNat := by
  have hcast : (do let k ← List.range n; pure (k : Int)) = (List.range n).map fun k : Nat => (k : Int) :=
    List.flatMap_pure_eq_map (fun k : Nat => (k : Int)) (List.range n)
  rw [searchOrder, hcast, List.map_map]
  rfl

theorem firstVisited_eq (x : SponsorZone) (test : Nat → Bool) : firstVisited x.rotation x.cursor test =
    ((List.range x.rotation.length).find? fun k => (x.rotation[x.place k]?).elim false test).map x.place := by
  rw [firstVisited, searchOrder_eq, List.find?_map]
  rfl

/-- The search stops at the first place visited whose entry satisfies its test. -/
theorem firstVisited_some {x : SponsorZone} {test : Nat → Bool} {k : Nat} (hk : k < x.rotation.length) (htest : test (x.visited k) = true)
    (hfirst : ∀ j, j < k → test (x.visited j) = false) : firstVisited x.rotation x.cursor test = some (x.place k) := by
  rw [firstVisited_eq, List.find?_range_eq_some.mpr, Option.map_some]
  refine ⟨(SponsorZone.test_place hk test).trans htest, List.mem_range.mpr hk, fun j hj => ?_⟩
  rw [SponsorZone.test_place (hj.trans hk), hfirst j hj]
  rfl

theorem firstVisited_none {x : SponsorZone} {test : Nat → Bool} (h : ∀ k, k < x.rotation.length → test (x.visited k) = false) :
    firstVisited x.rotation x.cursor test = none := by
  rw [firstVisited_eq, List.find?_eq_none.mpr, Option.map_none]
  intro k hk
  rw [SponsorZone.test_place (List.mem_range.mp hk), h k (List.mem_range.mp hk)]
  exact Bool.false_ne_true

/-! ### The two passes (R126) -/

theorem passes_owed (hpending : (s.rotation.zones[z]).stingPending = false) {k : Nat} (hk : k < (s.rotation.zones[z]).rotation.length)
    (h : eligible s ((s.rotation.zones[z]).visited k) = true) (howed : owedSpot s ((s.rotation.zones[z]).visited k) = true)
    (hfirst : ∀ j, j < k →
      (eligible s ((s.rotation.zones[z]).visited j) && owedSpot s ((s.rotation.zones[z]).visited j)) = false) :
    Begins z (s.fresh ((s.rotation.zones[z]).visited k) false false) ((s.rotation.zones[z]).place k) s (passes z s) := by
  unfold passes
  dsimp only
  rw [firstVisited_some (x := s.rotation.zones[z]) (test := fun id => eligible s id && owedSpot s id) hk (by rw [h, howed]; rfl) hfirst]
  exact takeEntry_begins false hpending h

theorem passes_overrun (hpending : (s.rotation.zones[z]).stingPending = false) {k : Nat}
    (hk : k < (s.rotation.zones[z]).rotation.length) (h : eligible s ((s.rotation.zones[z]).visited k) = true)
    (hnone : ∀ j, j < (s.rotation.zones[z]).rotation.length →
      (eligible s ((s.rotation.zones[z]).visited j) && owedSpot s ((s.rotation.zones[z]).visited j)) = false)
    (hfirst : ∀ j, j < k → eligible s ((s.rotation.zones[z]).visited j) = false) :
    Begins z (s.fresh ((s.rotation.zones[z]).visited k) false true) ((s.rotation.zones[z]).place k) s (passes z s) := by
  unfold passes
  dsimp only
  rw [firstVisited_none (x := s.rotation.zones[z]) (test := fun id => eligible s id && owedSpot s id) hnone,
    firstVisited_some (x := s.rotation.zones[z]) (test := fun id => eligible s id) hk h hfirst]
  exact takeEntry_begins true hpending h

theorem passes_rests (hpending : (s.rotation.zones[z]).stingPending = false)
    (hnone : ∀ j, j < (s.rotation.zones[z]).rotation.length → eligible s ((s.rotation.zones[z]).visited j) = false) :
    Rests z s (passes z s) := by
  unfold passes
  dsimp only
  rw [firstVisited_none (x := s.rotation.zones[z]) (test := fun id => eligible s id && owedSpot s id)
      (fun j hj => by rw [hnone j hj]; rfl),
    firstVisited_none (x := s.rotation.zones[z]) (test := fun id => eligible s id) hnone]
  exact rests_refl hpending

theorem passes_cases (hpending : (s.rotation.zones[z]).stingPending = false) :
    Rests z s (passes z s) ∨ ∃ id overrun c, Begins z (s.fresh id false overrun) c s (passes z s) := by
  unfold passes
  dsimp only
  split
  · next pos hpos =>
    have htest := firstVisited_spec hpos
    rw [Bool.and_eq_true] at htest
    exact .inr ⟨_, _, _, takeEntry_begins false hpending htest.1⟩
  · split
    · next pos hpos => exact .inr ⟨_, _, _, takeEntry_begins true hpending (firstVisited_spec hpos)⟩
    · exact .inl (rests_refl hpending)

/-! ### The selection of a zone (R125) -/

theorem answerSting_taken {id : Nat} (hsting : (s.rotation.zones[z]).sting = some id) (hoff : s.rotation.onAir id = false)
    (hdefined : (s.rotation.spot id).isSome = true) :
    Begins z (s.fresh id true false) (s.rotation.zones[z]).cursor s (answerSting z s) := by
  have hbegins := beginShowing_begins (s := s.unpend z) (id := id) true false
    (congrArg SponsorZone.stingPending (unpend_zone z s)) ((unpend_onAir z s id).trans hoff)
  have hcursor : ((s.unpend z).rotation.zones[z]).cursor = (s.rotation.zones[z]).cursor :=
    (congrArg SponsorZone.cursor (unpend_zone z s)).trans rfl
  have hcond : ¬ (s.rotation.onAir id || (s.rotation.spot id).isNone) = true := by
    rw [hoff, Bool.false_or, Option.isNone_iff_eq_none]
    exact Option.isSome_iff_ne_none.mp hdefined
  rw [hcursor] at hbegins
  rw [answerSting, hsting]
  dsimp only
  rw [if_neg hcond]
  exact hbegins.of_unpend

theorem answerSting_dropped (h : ∀ id, (s.rotation.zones[z]).sting = some id → s.rotation.onAir id = true ∨ s.rotation.spot id = none) :
    answerSting z s = passes z (s.unpend z) := by
  unfold answerSting
  dsimp only
  split
  · next id hid =>
    refine if_pos ?_
    rw [Bool.or_eq_true, Option.isNone_iff_eq_none]
    exact h id hid
  · rfl

theorem selectionStage_idle (h : selects s z = false) : selectionStage z s = s := by
  unfold selectionStage
  exact if_neg (by rw [h]; exact Bool.false_ne_true)

/-- With no sting to answer a zone that selects makes the two passes. -/
theorem selectionStage_passes (h : selects s z = true)
    (hsting : (s.rotation.zones[z]).stingPending = false ∨
      ∀ id, (s.rotation.zones[z]).sting = some id → s.rotation.onAir id = true ∨ s.rotation.spot id = none) :
    selectionStage z s = passes z s ∧ (s.rotation.zones[z]).stingPending = false ∨ selectionStage z s = passes z (s.unpend z) := by
  unfold selectionStage
  rw [if_pos h]
  cases hpending : (s.rotation.zones[z]).stingPending with
  | false => exact .inl ⟨rfl, rfl⟩
  | true => exact .inr (answerSting_dropped (hsting.resolve_left (by rw [hpending]; exact nofun)))

theorem selectionStage_sting {id : Nat} (h : selects s z = true) (hpending : (s.rotation.zones[z]).stingPending = true)
    (hsting : (s.rotation.zones[z]).sting = some id) (hoff : s.rotation.onAir id = false)
    (hdefined : (s.rotation.spot id).isSome = true) :
    Begins z (s.fresh id true false) (s.rotation.zones[z]).cursor s (selectionStage z s) := by
  unfold selectionStage
  rw [if_pos h, if_pos hpending]
  exact answerSting_taken hsting hoff hdefined

/-- The outcome of a selection stage. -/
theorem selectionStage_cases (z : ZoneIx) (s : State) : (selects s z = false ∧ selectionStage z s = s) ∨
    (selects s z = true ∧
      (Rests z s (selectionStage z s) ∨ ∃ id sting overrun c, Begins z (s.fresh id sting overrun) c s (selectionStage z s))) := by
  cases hselects : selects s z with
  | false => exact .inl ⟨rfl, selectionStage_idle hselects⟩
  | true =>
    refine .inr ⟨rfl, ?_⟩
    by_cases hsting : (s.rotation.zones[z]).stingPending = false ∨
        ∀ id, (s.rotation.zones[z]).sting = some id → s.rotation.onAir id = true ∨ s.rotation.spot id = none
    · rcases selectionStage_passes hselects hsting with ⟨heq, hpending⟩ | heq
      · rw [heq]
        exact (passes_cases hpending).imp_right fun ⟨id, overrun, c, h⟩ => ⟨id, false, overrun, c, h⟩
      · rw [heq]
        exact (passes_cases (congrArg SponsorZone.stingPending (unpend_zone z s))).imp (fun h => h.of_unpend)
          fun ⟨id, overrun, c, h⟩ => ⟨id, false, overrun, c, h.of_unpend⟩
    · obtain ⟨hpending, hanswers⟩ := not_or.mp hsting
      rw [not_forall] at hanswers
      obtain ⟨id, hanswers⟩ := hanswers
      rw [Classical.not_imp, not_or] at hanswers
      obtain ⟨hid, hoff, hdefined⟩ := hanswers
      exact .inr ⟨id, true, false, _, selectionStage_sting hselects (Bool.not_eq_false _ ▸ hpending) hid (Bool.eq_false_iff.mpr hoff)
        (Option.isSome_iff_ne_none.mpr hdefined)⟩

end

end Sys2Proof.Machine
end

section
/-! PROOFS. The selection stages in turn, the turn of one zone in a FRAME_END's ending stages, and the credit of a showing that goes on
(R121-R127, R133-R136). -/

namespace Sys2Proof.Machine

/-! ### The selection stages in turn -/

theorem selects_spec {s : State} {z : ZoneIx} (h : selects s z = true) : (s.rotation.zones[z]).showing = none := by
  rw [selects, Bool.and_eq_true] at h
  exact Option.isNone_iff_eq_none.mp h.2

theorem selects_of_showing {s : State} {z : ZoneIx} {g : Showing} (h : (s.rotation.zones[z]).showing = some g) : selects s z = false := by
  rw [Bool.eq_false_iff]
  exact fun hs => nomatch h.symm.trans (selects_spec hs)

theorem selectionStage_zone_other {z y : ZoneIx} (hy : y ≠ z) (s : State) :
    (selectionStage z s).rotation.zones[y] = s.rotation.zones[y] := by
  rcases selectionStage_cases z s with ⟨-, heq⟩ | ⟨-, hrests | ⟨_, _, _, _, hbegins⟩⟩
  · rw [heq]
  · exact hrests.other y hy
  · exact hbegins.other y hy

theorem selectionStages_zone_away : ∀ {l : List ZoneIx} {y : ZoneIx} (s : State), y ∉ l →
    (selectionStages l s).rotation.zones[y] = s.rotation.zones[y]
  | [], _, _, _ => rfl
  | z :: rest, y, s, h => by
    obtain ⟨hz, hrest⟩ := not_or.mp (mt List.mem_cons.mpr h)
    exact (selectionStages_zone_away (selectionStage z s) hrest).trans (selectionStage_zone_other hz s)

theorem selectionStages_append (l l' : List ZoneIx) (s : State) :
    selectionStages (l ++ l') s = selectionStages l' (selectionStages l s) := by
  induction l generalizing s with
  | nil => rfl
  | cons z rest ih => exact ih _

/-- A zone with a showing is as it was. -/
theorem selectionStage_zone_showing {s : State} {y : ZoneIx} {g : Showing} (h : (s.rotation.zones[y]).showing = some g) (z : ZoneIx) :
    (selectionStage z s).rotation.zones[y] = s.rotation.zones[y] := by
  by_cases hy : y = z
  · subst hy
    rw [selectionStage_idle (selects_of_showing h)]
  · exact selectionStage_zone_other hy s

theorem selectionStages_zone_showing : ∀ (l : List ZoneIx) {s : State} {y : ZoneIx} {g : Showing},
    (s.rotation.zones[y]).showing = some g → (selectionStages l s).rotation.zones[y] = s.rotation.zones[y]
  | [], _, _, _, _ => rfl
  | z :: rest, s, y, g, h => by
    have hzone := selectionStage_zone_showing h z
    exact (selectionStages_zone_showing rest ((congrArg SponsorZone.showing hzone).trans h)).trans hzone

/-- A spot on air is not selected. -/
theorem selectionStage_spot_onAir {s : State} {i : Nat} (h : s.rotation.onAir i = true) (z : ZoneIx) :
    (selectionStage z s).rotation.spot i = s.rotation.spot i := by
  rcases selectionStage_cases z s with ⟨-, heq⟩ | ⟨-, hrests | ⟨_, _, _, _, hbegins⟩⟩
  · rw [heq]
  · exact hrests.spot i
  · rw [hbegins.spot, if_neg]
    rintro rfl
    exact Bool.noConfusion (h.symm.trans hbegins.off)

theorem selectionStage_onAir {s : State} {i : Nat} (h : s.rotation.onAir i = true) (z : ZoneIx) :
    (selectionStage z s).rotation.onAir i = true := by
  obtain ⟨y, hy⟩ := RotationUnit.onAir_iff.mp h
  obtain ⟨g, hg, -⟩ := SponsorZone.shows_iff.mp hy
  refine RotationUnit.onAir_iff.mpr ⟨y, ?_⟩
  rw [selectionStage_zone_showing hg]
  exact hy

theorem selectionStages_spot_onAir : ∀ (l : List ZoneIx) {s : State} {i : Nat}, s.rotation.onAir i = true →
    (selectionStages l s).rotation.spot i = s.rotation.spot i
  | [], _, _, _ => rfl
  | z :: rest, _, _, h => (selectionStages_spot_onAir rest (selectionStage_onAir h z)).trans (selectionStage_spot_onAir h z)

/-! ### The turn of one zone in the ending stages -/

/-- The state the ending stages of a FRAME_END leave to the selection. -/
def rotationEnded (b : Bool) (s : State) : State := (endingStages allZones (replayFrameWork b s)).1

theorem rotationWorked_eq (b : Bool) (s : State) : rotationWorked b s = selectionStages allZones (rotationEnded b s) := by
  rw [rotationWorked, rotationFrameWork_fst, rotationEnded]

theorem rotationFrameWork_snd (s : State) : (rotationFrameWork s).2 = (endingStages allZones s).2 := by
  simp only [rotationFrameWork]

theorem frameEnd_endings (b : Bool) (s : State) : (frameEnd b s).2.endings = (endingStages allZones (replayFrameWork b s)).2 := by
  rw [← rotationFrameWork_snd]
  simp only [frameEnd]

theorem endingStages_flagsRise (l : List ZoneIx) (s : State) : FlagsRise s (endingStages l s).1 :=
  ⟨fun f hf => (keptByRecords_flagged f).endingStages l hf⟩

theorem endingStage_flagsRise (z : ZoneIx) (s : State) : FlagsRise s (endingStage z s).1 :=
  ⟨fun f hf => (keptByRecords_flagged f).endingStage z hf⟩

theorem rotationEnded_sameScene (b : Bool) (s : State) : SameScene s (rotationEnded b s) :=
  (replayFrameWork_replayFrame b s).sameScene.trans (endingStages_showingFrame allZones _).sameScene

theorem rotationWorked_flagsRise (b : Bool) (s : State) : FlagsRise (rotationEnded b s) (rotationWorked b s) := by
  rw [rotationWorked_eq]
  exact (selectionStages_rotationFrame allZones _).sameLog.flags

/-- The state in which a zone has its turn in the ending stages of a FRAME_END. -/
structure ZoneTurn (b : Bool) (z : ZoneIx) (s t : State) : Prop where
  scene : SameScene s t
  zone : t.rotation.zones[z] = s.rotation.zones[z]
  before : EndingStep (· ≠ z) s.rotation t.rotation
  after : EndingStep (· ≠ z) (endingStage z t).1.rotation (rotationEnded b s).rotation
  flags : FlagsRise (endingStage z t).1 (rotationEnded b s)
  aloneBefore : (∀ y : ZoneIx, y ≠ z → (s.rotation.zones[y]).showing = none) → t.exposure = s.exposure ∧ t.memctl = s.memctl
  aloneAfter : (∀ y : ZoneIx, y ≠ z → (s.rotation.zones[y]).showing = none) → SameLog (endingStage z t).1 (rotationEnded b s)
  events : ∀ r, (endingStage z t).2 = some r → (z, r) ∈ (frameEnd b s).2.endings

theorem replayFrameWork_rotation (b : Bool) (s : State) : (replayFrameWork b s).rotation = s.rotation := by
  obtain ⟨_, _, _, e⟩ := replayFrameWork_replayFrame b s
  rw [e]

theorem EndingStep.showing_none {P : ZoneIx → Prop} {u v : RotationUnit} (h : EndingStep P u v) {y : ZoneIx}
    (hy : (u.zones[y]).showing = none) : (v.zones[y]).showing = none := by
  cases hg : (v.zones[y]).showing with
  | none => rfl
  | some g =>
    have hshows := h.shows y _ (SponsorZone.shows_iff.mpr ⟨g, hg, rfl⟩)
    rw [SponsorZone.shows_none hy] at hshows
    cases hshows

theorem exists_zoneTurn (b : Bool) (z : ZoneIx) (s : State) : ∃ t, ZoneTurn b z s t := by
  obtain ⟨before, after, hsplit⟩ := List.append_of_mem (mem_allZones z)
  have hnodup := allZones_nodup
  rw [hsplit, List.nodup_append] at hnodup
  obtain ⟨-, hafter, hapart⟩ := hnodup
  have hz : ∀ y ∈ before, y ≠ z := fun y hy => hapart y hy z List.mem_cons_self
  have hz' : ∀ y ∈ after, y ≠ z := fun y hy e => (List.nodup_cons.mp hafter).1 (by rwa [← e])
  have hrotation := replayFrameWork_rotation b s
  have hreplay := replayFrameWork_replayFrame b s
  have hevents := frameEnd_endings b s
  have hended : rotationEnded b s = (endingStages allZones (replayFrameWork b s)).1 := rfl
  rw [hsplit, endingStages_append, endingStages] at hended hevents
  dsimp only at hended hevents
  generalize replayFrameWork b s = r at hrotation hreplay hended hevents
  have hbefore : EndingStep (· ≠ z) s.rotation (endingStages before r).1.rotation := by
    rw [← hrotation]
    exact (EndingStep.endingStages before r).mono hz
  have hscene : SameScene s (endingStages before r).1 := hreplay.sameScene.trans (endingStages_showingFrame before r).sameScene
  have hsilent : (∀ y : ZoneIx, y ≠ z → (s.rotation.zones[y]).showing = none) → RotationFrame r (endingStages before r).1 := fun h =>
    (endingStages_silent before r fun y hy => by rw [hrotation]; exact h y (hz y hy)).1
  generalize (endingStages before r).1 = t at hbefore hscene hsilent hended hevents
  have hstep := EndingStep.endingStage z t
  have hlast := EndingStep.endingStages after (endingStage z t).1
  refine ⟨t, hscene, hbefore.zones z (fun h => h rfl), hbefore, ?_, ?_, fun h => ?_, fun h => ?_, fun reason hreason => ?_⟩
  · rw [hended]
    exact hlast.mono hz'
  · rw [hended]
    exact endingStages_flagsRise after _
  · have hlog := (hsilent h).sameLog
    obtain ⟨_, _, _, e⟩ := hreplay
    rw [hlog.exposure, hlog.memctl, e]
    exact ⟨rfl, rfl⟩
  · rw [hended]
    exact (endingStages_silent after _ fun y hy => hstep.showing_none (hbefore.showing_none (h y (hz' y hy)))).1.sameLog
  · rw [hevents, hreason]
    exact List.mem_append_right _ List.mem_cons_self

theorem ZoneTurn.spot {b : Bool} {z : ZoneIx} {s t : State} (h : ZoneTurn b z s t) {i : Nat}
    (halone : ∀ y : ZoneIx, y ≠ z → (s.rotation.zones[y]).shows i = false) : t.rotation.spot i = s.rotation.spot i :=
  h.before.kept i halone

/-- A spot that only the zone shows is after the ending stages as the zone's own stage left it. -/
theorem ZoneTurn.ended_spot {b : Bool} {z : ZoneIx} {s t : State} (h : ZoneTurn b z s t) {i : Nat}
    (halone : ∀ y : ZoneIx, y ≠ z → (s.rotation.zones[y]).shows i = false) :
    (rotationEnded b s).rotation.spot i = (endingStage z t).1.rotation.spot i := by
  refine h.after.kept i fun y hy => ?_
  rw [Bool.eq_false_iff]
  exact fun hs => Bool.noConfusion
    ((halone y hy).symm.trans (h.before.shows y i ((EndingStep.endingStage z t).shows y i hs)))

theorem ZoneTurn.ended_zone {b : Bool} {z : ZoneIx} {s t : State} (h : ZoneTurn b z s t) :
    (rotationEnded b s).rotation.zones[z] = (endingStage z t).1.rotation.zones[z] := h.after.zones z fun h => h rfl

theorem frameEnd_zone (b : Bool) (s : State) (z : ZoneIx) :
    (frameEnd b s).1.rotation.zones[z] = (selectionStages allZones (rotationEnded b s)).rotation.zones[z] := by
  rw [← rotationWorked_eq, ← frameEnd_rotation]

theorem frameEnd_spot (b : Bool) (s : State) (i : Nat) :
    (frameEnd b s).1.rotation.spot i = (selectionStages allZones (rotationEnded b s)).rotation.spot i := by
  rw [← rotationWorked_eq, ← frameEnd_rotation]

/-! ### The showing that goes on -/

theorem matches_readied {s : State} {z : ZoneIx} (h : (s.rotation.zones[z]).stingPending = false) :
    (s.readied z).stingPending = false := by
  unfold State.readied
  split
  · rfl
  · exact h

theorem State.counts_normal {s : State} (hmode : s.composer.record.mode = .normal) (z : ZoneIx) (p : Spot) : s.counts z p =
    (!(s.composer.record.zones[z]).inLeadIn &&
      decide (p.minVisible * ((s.composer.record.zones[z]).desc.w.toNat * (s.composer.record.zones[z]).desc.h.toNat) ≤
        (s.composer.record.zones[z]).visible * 100)) := by
  rw [State.counts, frameCounts, hmode]
  rfl

theorem State.credit_eq (s : State) (z : ZoneIx) (p : Spot) : s.credit z p =
    if s.counts z p = true then
      (if s.straps.frate = true then 5 else 6) * 256 * (s.composer.record.zones[z]).visible /
        ((s.composer.record.zones[z]).desc.w.toNat * (s.composer.record.zones[z]).desc.h.toNat)
    else 0 := rfl

/-- The accounting finds the contract met, or D saturated, and says so. -/
theorem accountFrame_raises {s : State} {z : ZoneIx} {h : Showing} {p : Spot} (hle : p.delivered ≤ 4294967295) :
    (s.counts z p = true → p.contractMet = false → p.contract * 76800 ≤ min 4294967295 (p.delivered + s.credit z p) →
      (accountFrame z h p s).flagged .contractMet = true) ∧
    (4294967295 < p.delivered + s.credit z p → p.saturated = false → (accountFrame z h p s).flagged .creditSaturated = true) := by
  refine ⟨fun hcounts hmet htotal => ?_, fun hover hsat => ?_⟩
  · have hmeets : (p.credited (s.credit z p)).meets = true := by
      rw [Spot.credited_eq, Spot.meets]
      dsimp only
      rw [hmet]
      exact decide_eq_true htotal
    rw [accountFrame_flagged, hcounts, hmeets, decide_eq_true rfl]
    exact Bool.or_true _
  · have hcounts : s.counts z p = true := by
      by_contra hno
      rw [State.credit, if_neg hno] at hover
      omega
    have hsaturates : p.saturates (s.credit z p) = true := by
      rw [Spot.saturates, hsat]
      exact Bool.and_eq_true_iff.mpr ⟨decide_eq_true hover, rfl⟩
    rw [accountFrame_flagged, hcounts, hsaturates, decide_eq_true rfl]
    exact Bool.or_eq_true_iff.mpr (.inl (Bool.or_true _))

/-- Settles O38: the zone's turn in the ending stages accounts the frame, and no selection undoes it. -/
theorem frameEndCreditsTheShowing : Obligations.FrameEndCreditsTheShowing := by
  unfold Obligations.FrameEndCreditsTheShowing
  intro b s z h p hrun hscan hexclusive hmode hchanged henable hsource hh hp hpending hclass hstays zr cells counts credit counted
    total hle hdwell hcover
  obtain ⟨hone, -⟩ := (onAirExclusive_iff s).mp hexclusive
  have hshows : (s.rotation.zones[z]).shows h.spotId = true := SponsorZone.shows_iff.mpr ⟨h, hh, rfl⟩
  have halone : ∀ y : ZoneIx, y ≠ z → (s.rotation.zones[y]).shows h.spotId = false := fun y hy => by
    rw [Bool.eq_false_iff]
    exact fun hs => hy (hone y z _ hs hshows)
  have hcounts : s.counts z p = counts := s.counts_normal hmode z p
  have hcredit : s.credit z p = credit := by
    rw [s.credit_eq, hcounts]
  obtain ⟨t, ht⟩ := exists_zoneTurn b z s
  have hscene := ht.scene
  have hmodet : t.composer.record.mode = .normal := by rw [hscene.composer, hmode]
  have hplant : planEnds t.composer.record.zones[z] = false := by
    rw [hscene.composer]
    exact planEnds_eq_false.mpr ⟨hchanged, henable, hsource⟩
  have hht : (t.rotation.zones[z]).showing = some h := by rw [ht.zone, hh]
  have hpt : t.rotation.spot h.spotId = some p := by rw [ht.spot halone, hp]
  have hpendingt : (t.readied z).stingPending = false := matches_readied (by rw [ht.zone, hpending])
  have hcause : t.readyCause z h p = none := by
    rw [State.readyCause, endReason_eq_none, hscene.accountedShowing, hscene.accountedSpot, s.accountedSpot_eq z hle]
    refine ⟨hpendingt, ?_, hstays, ?_, hcover⟩
    · rw [hscene.clock]
      exact hclass
    · rw [State.accountedShowing, hcounts]
      exact hdwell
  obtain ⟨hzone, hspot⟩ := endingStage_goesOn hmodet hplant hht hpt hcause
  rw [← ht.ended_zone, hscene.accountedShowing] at hzone
  rw [← ht.ended_spot halone, hscene.accountedSpot] at hspot
  have hshowing : ((rotationEnded b s).rotation.zones[z]).showing = some (s.accountedShowing z p h) := congrArg SponsorZone.showing hzone
  have honAir : (rotationEnded b s).rotation.onAir h.spotId = true :=
    RotationUnit.onAir_iff.mpr ⟨z, SponsorZone.shows_iff.mpr ⟨_, hshowing, rfl⟩⟩
  have hflags : FlagsRise (accountFrame z h p (t.ready z)) (frameEnd b s).1 := by
    have hturn := ht.flags
    rw [accounting_snd hmodet hplant hht hpt, hcause] at hturn
    exact (hturn.trans (rotationWorked_flagsRise b s)).trans (frameEnd_flagsRise b s)
  have hready : SameScene s (t.ready z) := hscene.trans (t.ready_sameScene z)
  obtain ⟨hmet, hsaturated⟩ := accountFrame_raises (s := t.ready z) (z := z) (h := h) hle
  rw [hready.counts, hready.credit, hcounts, hcredit] at hmet
  rw [hready.credit, hcredit] at hsaturated
  refine ⟨_, exec_frameEnd b hrun hscan, ?_, ?_, fun hc hm htotal => hflags.flagged _ (hmet hc hm htotal), fun hover hs =>
    hflags.flagged _ (hsaturated hover hs)⟩
  · rw [frameEnd_zone, selectionStages_zone_showing allZones hshowing, hshowing, State.accountedShowing, hcounts, hcredit]
  · rw [frameEnd_spot, selectionStages_spot_onAir allZones honAir, hspot, s.accountedSpot_eq z hle, hcounts, hcredit]

end Sys2Proof.Machine
end

section
/-! PROOFS. Showings that end at a FRAME_END, their records and what follows them (R122-R124, R138-R141, Table 11.7). -/

namespace Sys2Proof.Machine

/-! ### The bytes of a record (Table 11.7) -/

/-- A number stored as the k-th field of a list of fields is read back at the field's offset. -/
theorem fieldBytes_numAt {frame : Nat} {l : List StatusField} (k : Nat) {n v o : Nat} (hk : l[k]? = some (.num n v))
    (ho : fieldsSize (l.take k) = o) : ofLeBytes (((fieldBytes frame 0 l).drop o).take n) = v % 256 ^ n := by
  obtain ⟨hlt, hget⟩ := List.getElem?_eq_some_iff.mp hk
  have hsplit : l = l.take k ++ .num n v :: l.drop (k + 1) := by
    rw [← hget, ← List.drop_eq_getElem_cons hlt, List.take_append_drop]
  have hnum := fieldBytes_num frame (l.take k) (l.drop (k + 1)) n v o ho.symm
  rwa [← hsplit] at hnum

/-- The fields of a record. -/
def recordFields (number : Word) (zone : ZoneIx) (reason : ShowingEnd) (saturated : Bool) (endVenue : Word) (h : Showing) :
    List StatusField :=
  [ .num 4 number.toNat, .num 1 h.spotId, .num 1 zone.val, .num 1 reason.code, .num 1 (recordFlags h.sting h.overrun saturated),
    .num 4 h.startVenue.toNat, .num 4 endVenue.toNat, .num 2 h.framesOnAir, .num 2 h.countedFrames, .num 4 h.credit,
    .num 4 h.gameValue, .num 1 h.period, .num 3 0 ]

theorem proofRecord_eq (number : Word) (zone : ZoneIx) (reason : ShowingEnd) (saturated : Bool) (endVenue : Word) (h : Showing) :
    proofRecord number zone reason saturated endVenue h = fieldBytes 0 0 (recordFields number zone reason saturated endVenue h) := by
  simp only [proofRecord, recordFields, fieldBytes, StatusField.bytes, List.append_nil, List.append_assoc]

/-- A field of a record read back. -/
theorem proofRecord_field {number : Word} {zone : ZoneIx} {reason : ShowingEnd} {saturated : Bool} {endVenue : Word} {h : Showing} (k : Nat)
    {n v o : Nat} (hk : (recordFields number zone reason saturated endVenue h)[k]? = some (.num n v))
    (ho : fieldsSize ((recordFields number zone reason saturated endVenue h).take k) = o) :
    ofLeBytes (((proofRecord number zone reason saturated endVenue h).drop o).take n) = v % 256 ^ n := by
  rw [proofRecord_eq]
  exact fieldBytes_numAt k hk ho

/-! ### The first cause that applies (R123) -/

section

variable {g : GameState} {h : Showing} {p : Spot}

theorem endReason_sting : endReason g true h p = some .sting := rfl

theorem endReason_clockClass (hsting : h.sting = false) (hclass : p.spotClass.matches g = false) :
    endReason g false h p = some .clockClass := by
  rw [endReason, hsting, hclass]
  rfl

theorem endReason_inClass (hclass : h.sting = true ∨ p.spotClass.matches g = true) : endReason g false h p =
    if p.withdrawing then some .withdrawn
    else if p.dwell ≤ h.countedFrames then some .dwellDone
    else if 4 * p.dwell ≤ h.framesOnAir then some .coverLimit
    else none := by
  have hno : (!h.sting && !p.spotClass.matches g) = false := by
    rcases hclass with hsting | hmatches
    · rw [hsting]
      rfl
    · rw [hmatches]
      exact Bool.and_false _
  rw [endReason, hno]
  rfl

end

/-! ### What follows a showing that has ended -/

/-- A zone that selects shows nothing or a new showing. -/
theorem selectionStage_showing {s : State} {y : ZoneIx} (h : (s.rotation.zones[y]).showing = none) (z : ZoneIx) :
    ((selectionStage z s).rotation.zones[y]).showing = none ∨
      ∃ id sting overrun, ((selectionStage z s).rotation.zones[y]).showing = some (s.fresh id sting overrun) := by
  by_cases hy : y = z
  · subst hy
    rcases selectionStage_cases y s with ⟨-, heq⟩ | ⟨-, hrests | ⟨id, sting, overrun, c, hbegins⟩⟩
    · rw [heq]
      exact .inl h
    · rw [hrests.zone]
      exact .inl h
    · rw [hbegins.zone]
      exact .inr ⟨id, sting, overrun, rfl⟩
  · rw [selectionStage_zone_other hy]
    exact .inl h

theorem SameScene.fresh {s t : State} (h : SameScene s t) (id : Nat) (sting overrun : Bool) :
    t.fresh id sting overrun = s.fresh id sting overrun := by
  rw [State.fresh, State.fresh, h.clock, h.score]

theorem selectionStages_showing : ∀ (l : List ZoneIx) {s : State} {y : ZoneIx}, (s.rotation.zones[y]).showing = none →
    ((selectionStages l s).rotation.zones[y]).showing = none ∨
      ∃ id sting overrun, ((selectionStages l s).rotation.zones[y]).showing = some (s.fresh id sting overrun)
  | [], _, _, h => .inl h
  | z :: rest, s, y, h => by
    rcases selectionStage_showing h z with hnone | ⟨id, sting, overrun, hfresh⟩
    · have hscene := (selectionStage_rotationFrame z s).sameScene
      refine (selectionStages_showing rest hnone).imp_right fun ⟨id, sting, overrun, hfresh⟩ => ⟨id, sting, overrun, ?_⟩
      rw [← hscene.fresh]
      exact hfresh
    · refine .inr ⟨id, sting, overrun, ?_⟩
      rw [selectionStages, selectionStages_zone_showing rest hfresh, hfresh]

theorem selectionStages_spot_none : ∀ (l : List ZoneIx) {s : State} {i : Nat}, s.rotation.spot i = none →
    (selectionStages l s).rotation.spot i = none
  | [], _, _, h => h
  | z :: rest, s, i, h => by
    refine selectionStages_spot_none rest ?_
    rcases selectionStage_cases z s with ⟨-, heq⟩ | ⟨-, hrests | ⟨_, _, _, _, hbegins⟩⟩
    · rw [heq]
      exact h
    · rw [hrests.spot]
      exact h
    · rw [hbegins.spot, h]
      exact ite_self _

/-- Under a mode other than NORMAL no zone selects. -/
theorem selectionStages_off : ∀ (l : List ZoneIx) {s : State}, s.composer.record.mode ≠ .normal → selectionStages l s = s
  | [], _, _ => rfl
  | z :: rest, s, h => by
    have hidle : selects s z = false := by
      rw [selects, beq_eq_false_iff_ne.mpr h, Bool.and_false, Bool.false_and]
    rw [selectionStages, selectionStage_idle hidle]
    exact selectionStages_off rest h

/-- A zone with nothing to show. -/
def SponsorZone.bare : SponsorZone := { rotation := [], cursor := -1, sting := none, stingPending := false, showing := none }

theorem selectionStage_bare {s : State} {z : ZoneIx} (h : s.rotation.zones[z] = .bare) :
    (selectionStage z s).rotation.zones[z] = .bare := by
  have hpending : (s.rotation.zones[z]).stingPending = false := by rw [h]; rfl
  cases hselects : selects s z with
  | false => rw [selectionStage_idle hselects, h]
  | true =>
    have hrests : ∀ t : State, t.rotation.zones[z] = .bare → (passes z t).rotation.zones[z] = .bare := fun t ht => by
      rw [(passes_rests (by rw [ht]; rfl) fun j hj => absurd hj (by rw [ht]; exact Nat.not_lt_zero j)).zone, ht]
      rfl
    rcases selectionStage_passes hselects (.inl hpending) with ⟨heq, -⟩ | heq
    · rw [heq]
      exact hrests s h
    · rw [heq]
      refine hrests _ ?_
      rw [unpend_zone, h]
      rfl

theorem selectionStages_bare : ∀ (l : List ZoneIx) {s : State} {z : ZoneIx}, s.rotation.zones[z] = .bare →
    (selectionStages l s).rotation.zones[z] = .bare
  | [], _, _, h => h
  | y :: rest, s, z, h => by
    refine selectionStages_bare rest ?_
    by_cases hz : z = y
    · subst hz
      exact selectionStage_bare h
    · rw [selectionStage_zone_other hz, h]

/-! ### The one showing on the wall -/

theorem closeScan_log {u v : State} (h : TickerFrame u v) :
    (closeScan v).exposure = u.exposure ∧ (closeScan v).memctl = u.memctl ∧ (closeScan v).clock.venue = u.clock.venue := by
  obtain ⟨_, _, rfl⟩ := h
  exact ⟨rfl, rfl, rfl⟩

theorem frameEnd_sameLog (b : Bool) (s : State) : SameLog (rotationWorked b s) (frameEnd b s).1 := by
  have hticker := tickerFrameWork_tickerFrame (rotationWorked b s)
  have hflags := frameEnd_flagsRise b s
  rw [frameEnd_fst, sourcesWork_eq] at hflags ⊢
  generalize (tickerFrameWork (rotationWorked b s)).1 = v at hticker hflags ⊢
  obtain ⟨hexposure, hmemctl, hvenue⟩ := closeScan_log hticker
  exact ⟨hexposure, hmemctl, hvenue, hflags⟩

theorem rotationWorked_sameLog (b : Bool) (s : State) : SameLog (rotationEnded b s) (rotationWorked b s) := by
  rw [rotationWorked_eq]
  exact (selectionStages_rotationFrame allZones _).sameLog

section

variable {b : Bool} {z : ZoneIx} {s t : State}

/-- The record of the one showing on the wall is what the FRAME_END leaves in the log and the queue. -/
theorem ZoneTurn.logs (ht : ZoneTurn b z s t) (halone : ∀ y : ZoneIx, y ≠ z → (s.rotation.zones[y]).showing = none)
    {reason : ShowingEnd} {saturated : Bool} {g : Showing} (h : t.Logs (endingStage z t).1 z reason saturated g) :
    s.Logs (frameEnd b s).1 z reason saturated g := by
  obtain ⟨hexposure, hmemctl⟩ := ht.aloneBefore halone
  have hvenue : t.clock.venue = s.clock.venue := by rw [ht.scene.clock]
  have hlog : SameLog (endingStage z t).1 (rotationWorked b s) := (ht.aloneAfter halone).trans (rotationWorked_sameLog b s)
  exact (h.after hexposure hmemctl hvenue).then (hlog.trans (frameEnd_sameLog b s))

/-- After the end of a zone's showing any showing in it is a new one. -/
theorem ZoneTurn.newShowing (ht : ZoneTurn b z s t) (hnone : ((endingStage z t).1.rotation.zones[z]).showing = none) :
    ∀ g ∈ ((frameEnd b s).1.rotation.zones[z]).showing, g.framesOnAir = 0 ∧ g.startVenue = s.clock.venue := by
  have hended : ((rotationEnded b s).rotation.zones[z]).showing = none := by rw [ht.ended_zone, hnone]
  intro g hg
  rw [frameEnd_zone] at hg
  rcases selectionStages_showing allZones hended with hno | ⟨id, sting, overrun, hfresh⟩
  · rw [hno] at hg
    exact nomatch hg
  · rw [hfresh] at hg
    obtain rfl := Option.some.inj hg
    refine ⟨rfl, ?_⟩
    rw [(rotationEnded_sameScene b s).fresh]
    rfl

theorem ZoneTurn.spotGone (ht : ZoneTurn b z s t) {i : Nat} (h : (endingStage z t).1.rotation.spot i = none) :
    (frameEnd b s).1.rotation.spot i = none := by
  rw [frameEnd_spot]
  exact selectionStages_spot_none allZones ((ht.after.spot i).1 h)

end

end Sys2Proof.Machine
end

section
/-! PROOFS. The end of the one showing on the wall, by its cause (R122-R124, R140, R141). -/

namespace Sys2Proof.Machine

/-- What the end of a zone's showing leaves: its record, a new showing or none, and its spot deleted if it is withdrawing. -/
structure EndedWith (s u : State) (z : ZoneIx) (h : Showing) (p : Spot) (reason : ShowingEnd) (saturated : Bool) (g : Showing) : Prop where
  newShowing : ∀ g' ∈ (u.rotation.zones[z]).showing, g'.framesOnAir = 0 ∧ g'.startVenue = s.clock.venue
  logs : s.Logs u z reason saturated g
  gone : p.withdrawing = true → u.rotation.spot h.spotId = none

section

variable {b : Bool} {z : ZoneIx} {s t : State} {h : Showing} {p : Spot} {reason : ShowingEnd} {saturated : Bool} {g : Showing}

theorem ZoneTurn.endedWith (ht : ZoneTurn b z s t) (halone : ∀ y : ZoneIx, y ≠ z → (s.rotation.zones[y]).showing = none)
    (hnone : ((endingStage z t).1.rotation.zones[z]).showing = none)
    (hlogs : t.Logs (endingStage z t).1 z reason saturated g)
    (hgone : p.withdrawing = true → (endingStage z t).1.rotation.spot h.spotId = none) :
    EndedWith s (frameEnd b s).1 z h p reason saturated g :=
  ⟨ht.newShowing hnone, ht.logs halone hlogs, fun hw => ht.spotGone (hgone hw)⟩

theorem shows_of_alone (halone : ∀ y : ZoneIx, y ≠ z → (s.rotation.zones[y]).showing = none) (i : Nat) :
    ∀ y : ZoneIx, y ≠ z → (s.rotation.zones[y]).shows i = false := fun y hy => SponsorZone.shows_none (halone y hy) i

/-- In its turn the zone has its showing, and the showing its spot. -/
theorem ZoneTurn.showing (ht : ZoneTurn b z s t) (halone : ∀ y : ZoneIx, y ≠ z → (s.rotation.zones[y]).showing = none)
    (hh : (s.rotation.zones[z]).showing = some h) (hp : s.rotation.spot h.spotId = some p) :
    (t.rotation.zones[z]).showing = some h ∧ t.rotation.spot h.spotId = some p := by
  rw [ht.zone, ht.spot (shows_of_alone halone _)]
  exact ⟨hh, hp⟩

theorem ZoneTurn.readied (ht : ZoneTurn b z s t) : t.readied z = s.readied z := by
  rw [State.readied, State.readied, ht.zone, ht.scene.composer]

theorem ZoneTurn.readyCause (ht : ZoneTurn b z s t) (h : Showing) (p : Spot) : t.readyCause z h p = s.readyCause z h p := by
  rw [State.readyCause, State.readyCause, ht.readied, ht.scene.clock, ht.scene.accountedShowing, ht.scene.accountedSpot]

theorem ZoneTurn.normal (ht : ZoneTurn b z s t) (hmode : s.composer.record.mode = .normal) : t.composer.record.mode = .normal := by
  rw [ht.scene.composer, hmode]

theorem ZoneTurn.plan (ht : ZoneTurn b z s t) : planEnds t.composer.record.zones[z] = planEnds s.composer.record.zones[z] := by
  rw [ht.scene.composer]

variable (b)

/-- An ordinary cause ends the showing after the frame has been accounted. -/
theorem endedWith_cause (halone : ∀ y : ZoneIx, y ≠ z → (s.rotation.zones[y]).showing = none)
    (hh : (s.rotation.zones[z]).showing = some h) (hp : s.rotation.spot h.spotId = some p) (hmode : s.composer.record.mode = .normal)
    (hplan : planEnds s.composer.record.zones[z] = false) (hcause : s.readyCause z h p = some reason) :
    EndedWith s (frameEnd b s).1 z h p reason (s.accountedSpot z p).saturated (s.accountedShowing z p h) ∧
      (z, reason) ∈ (frameEnd b s).2.endings := by
  obtain ⟨t, ht⟩ := exists_zoneTurn b z s
  obtain ⟨hht, hpt⟩ := ht.showing halone hh hp
  obtain ⟨hzone, hgone, hlogs, hevent⟩ :=
    endingStage_ends (ht.normal hmode) (ht.plan.trans hplan) hht hpt ((ht.readyCause h p).trans hcause)
  rw [ht.scene.accountedSpot, ht.scene.accountedShowing] at hlogs
  exact ⟨ht.endedWith halone (congrArg SponsorZone.showing hzone) hlogs hgone, ht.events reason hevent⟩

theorem spot_gone_endShowing (reason : ShowingEnd) (hh : (t.rotation.zones[z]).showing = some h) (hp : t.rotation.spot h.spotId = some p)
    (hw : p.withdrawing = true) : (endShowing z reason t).rotation.spot h.spotId = none := by
  rw [endShowing_spot, if_pos]
  refine ⟨SponsorZone.shows_iff.mpr ⟨h, hh, rfl⟩, ?_⟩
  rw [hp, Option.elim_some, hw]

theorem saturatedMark_eq (hp : t.rotation.spot h.spotId = some p) : t.rotation.saturatedMark h = p.saturated := by
  rw [RotationUnit.saturatedMark, hp, Option.elim_some]

/-- A mode other than NORMAL ends the showing without accounting. -/
theorem endedWith_mode (halone : ∀ y : ZoneIx, y ≠ z → (s.rotation.zones[y]).showing = none)
    (hh : (s.rotation.zones[z]).showing = some h) (hp : s.rotation.spot h.spotId = some p) (hmode : s.composer.record.mode ≠ .normal)
    (hplan : planEnds s.composer.record.zones[z] = false) :
    EndedWith s (frameEnd b s).1 z h p .outputMode p.saturated h ∧ ((frameEnd b s).1.rotation.zones[z]).showing = none ∧
      ((frameEnd b s).1.rotation.zones[z]).stingPending = false := by
  obtain ⟨t, ht⟩ := exists_zoneTurn b z s
  obtain ⟨hht, hpt⟩ := ht.showing halone hh hp
  have hmodet : t.composer.record.mode ≠ .normal := by rwa [ht.scene.composer]
  have hstage : (endingStage z t).1 = modeStage z (t.ready z) := by
    rw [endingStage_closes hmodet, planStage_planned (ht.plan.trans hplan)]
  have hready : ((t.ready z).rotation.zones[z]).showing = some h := (t.ready_showing z).trans hht
  have hreadyp : (t.ready z).rotation.spot h.spotId = some p := hpt
  have hzone := modeStage_zone z (t.ready z)
  have hlogs : t.Logs (modeStage z (t.ready z)) z .outputMode p.saturated h := by
    have hend := endShowing_logs .outputMode hready
    rw [saturatedMark_eq hreadyp] at hend
    exact State.Logs.after (s' := t.ready z) rfl rfl rfl (hend.then (modeStage_frame z _).sameLog)
  have hgone : p.withdrawing = true → (modeStage z (t.ready z)).rotation.spot h.spotId = none := fun hw =>
    (modeStage_spot ..).trans (spot_gone_endShowing .outputMode hready hreadyp hw)
  rw [← hstage] at hlogs hgone hzone
  have hfinal : (frameEnd b s).1.rotation.zones[z] = (endingStage z t).1.rotation.zones[z] := by
    have hmode' : (rotationEnded b s).composer.record.mode ≠ .normal := by rwa [(rotationEnded_sameScene b s).composer]
    rw [frameEnd_zone, selectionStages_off allZones hmode', ht.ended_zone]
  rw [hfinal, hzone]
  exact ⟨ht.endedWith halone (by rw [hzone]) hlogs hgone, rfl, rfl⟩

/-- A plan change ends the showing without accounting; a zone that is not an enabled SPONSOR zone, or was resized, is bare. -/
theorem endedWith_plan (halone : ∀ y : ZoneIx, y ≠ z → (s.rotation.zones[y]).showing = none)
    (hh : (s.rotation.zones[z]).showing = some h) (hp : s.rotation.spot h.spotId = some p)
    (hplan : planEnds s.composer.record.zones[z] = true) :
    EndedWith s (frameEnd b s).1 z h p .planChange p.saturated h ∧
      ((s.composer.record.zones[z]).desc.isOn .sponsor = false ∨ (s.composer.record.zones[z]).resized = true →
        (frameEnd b s).1.rotation.zones[z] = .bare) := by
  obtain ⟨t, ht⟩ := exists_zoneTurn b z s
  obtain ⟨hht, hpt⟩ := ht.showing halone hh hp
  obtain ⟨hframe, hnone, hspot, hbare⟩ := planStage_unplanned (ht.plan.trans hplan)
  have hlogs : t.Logs (planStage z t) z .planChange p.saturated h := by
    have hend := endShowing_logs .planChange hht
    rw [saturatedMark_eq hpt] at hend
    exact hend.then hframe.sameLog
  have hgone : p.withdrawing = true → (planStage z t).rotation.spot h.spotId = none := fun hw =>
    (hspot _).trans (spot_gone_endShowing .planChange hht hpt hw)
  rw [ht.scene.composer] at hbare
  have hstage : (∃ v, RotationFrame (planStage z t) v ∧ (endingStage z t).1 = v ∧ (v.rotation.zones[z]).showing = none ∧
      (∀ i, v.rotation.spot i = (planStage z t).rotation.spot i) ∧
      ((planStage z t).rotation.zones[z] = .bare → v.rotation.zones[z] = .bare)) := by
    by_cases hmode : t.composer.record.mode = .normal
    · exact ⟨_, .refl _, by rw [endingStage_unplanned hmode (ht.plan.trans hplan)], hnone, fun _ => rfl, id⟩
    · have hend := endShowing_none .outputMode hnone
      have hzone := modeStage_zone z (planStage z t)
      have hkept := modeStage_spot z (planStage z t)
      have hframe' := modeStage_frame z (planStage z t)
      rw [hend] at hframe'
      refine ⟨_, hframe', by rw [endingStage_closes hmode], by rw [hzone], fun i => ?_, fun hz => ?_⟩
      · rw [hkept, hend]
      · rw [hzone, hz]
        rfl
  obtain ⟨v, hv, hstage, hshowing, hkept, hbare'⟩ := hstage
  subst hstage
  refine ⟨ht.endedWith halone hshowing (hlogs.then hv.sameLog) fun hw => (hkept _).trans (hgone hw), fun hempty => ?_⟩
  rw [frameEnd_zone]
  exact selectionStages_bare allZones (ht.ended_zone.trans (hbare' (hbare hempty)))

end

/-! ### The obligation -/

theorem accountedSpot_saturated (s : State) (z : ZoneIx) {p : Spot} (h : p.delivered ≤ 4294967295) :
    (s.accountedSpot z p).saturated = (p.saturated || decide (4294967295 < p.delivered + s.credit z p)) := by
  rw [s.accountedSpot_eq z h]

theorem accountedSpot_spotClass (s : State) (z : ZoneIx) (p : Spot) : (s.accountedSpot z p).spotClass = p.spotClass := by
  rw [s.accountedSpot_aged z p]

theorem accountedSpot_withdrawing (s : State) (z : ZoneIx) (p : Spot) : (s.accountedSpot z p).withdrawing = p.withdrawing := by
  rw [s.accountedSpot_aged z p]

theorem accountedSpot_dwell (s : State) (z : ZoneIx) (p : Spot) : (s.accountedSpot z p).dwell = p.dwell := by
  rw [s.accountedSpot_aged z p]

/-- A row named after an ending is the whole FRAME_END in which the ending comes about. -/
theorem exec_dwellDone {b : Bool} {z : ZoneIx} {s : State} (hrun : s.phase = .running) (hscan : s.timing.blanking = false)
    (h : (z, ShowingEnd.dwellDone) ∈ (frameEnd b s).2.endings) : exec (.dwellDone z b) s = .next (frameEnd b s).1 :=
  congrArg Host.Outcome.next (frameEndWith_due hrun hscan (List.contains_iff_mem.mpr h))

theorem exec_coverLimit {b : Bool} {z : ZoneIx} {s : State} (hrun : s.phase = .running) (hscan : s.timing.blanking = false)
    (h : (z, ShowingEnd.coverLimit) ∈ (frameEnd b s).2.endings) : exec (.coverLimit z b) s = .next (frameEnd b s).1 :=
  congrArg Host.Outcome.next (frameEndWith_due hrun hscan (List.contains_iff_mem.mpr h))

theorem accountedShowing_eq {s : State} {z : ZoneIx} {p : Spot} {counts : Bool} {credit : Nat} (h : Showing)
    (hcounts : s.counts z p = counts) (hcredit : s.credit z p = credit) : s.accountedShowing z p h = { h with
      framesOnAir := h.framesOnAir + 1
      countedFrames := h.countedFrames + (if counts = true then 1 else 0)
      credit := h.credit + credit } := by
  rw [State.accountedShowing, hcounts, hcredit]

/-- The cause of a showing in its class whose sting is not pending and whose spot stays. -/
theorem readyCause_staying {s : State} {z : ZoneIx} {h : Showing} {p : Spot} (hpending : (s.readied z).stingPending = false)
    (hclass : h.sting = true ∨ p.spotClass.matches s.clock.game.state = true) (hstays : p.withdrawing = false) :
    s.readyCause z h p =
      if p.dwell ≤ (s.accountedShowing z p h).countedFrames then some .dwellDone
      else if 4 * p.dwell ≤ (s.accountedShowing z p h).framesOnAir then some .coverLimit
      else none := by
  have hclass' : (s.accountedShowing z p h).sting = true ∨ (s.accountedSpot z p).spotClass.matches s.clock.game.state = true := by
    rw [accountedSpot_spotClass]
    exact hclass
  rw [State.readyCause, hpending, endReason_inClass hclass', accountedSpot_withdrawing, hstays, accountedSpot_dwell]
  rfl

theorem offerExposure_joins {m : MemoryController} {w : PartWrite} (hwait : m.waitExposure = []) (hroom : m.queue.length < 64) :
    m.offerExposure w = { m with queue := m.queue ++ [w] } := by
  rw [MemoryController.offerExposure, hwait, hasRoom_iff.mpr hroom]
  rfl

theorem offerExposure_waits {m : MemoryController} {w : PartWrite} (h : m.waitExposure ≠ [] ∨ 64 ≤ m.queue.length) :
    m.offerExposure w = { m with waitExposure := m.waitExposure ++ [w] } := by
  refine if_neg fun hjoins => ?_
  rw [Bool.and_eq_true, List.isEmpty_iff, hasRoom_iff] at hjoins
  exact h.elim (fun hne => hne hjoins.1) fun hfull => Nat.not_lt.mpr hfull hjoins.2

/-- Settles O37: the zone's turn in the ending stages ends its showing by the first cause that applies. -/
theorem showingEndsAreLogged : Obligations.ShowingEndsAreLogged := by
  unfold Obligations.ShowingEndsAreLogged
  refine ⟨?_, ?_, fun m w => ⟨offerExposure_joins, offerExposure_waits⟩, ?_⟩
  · intro b s z h p hrun hscan hmode hchanged henable hsource hh halone hp hpending hclass hstays zr cells counts credit h' saturated logged
    have hplan : planEnds s.composer.record.zones[z] = false := planEnds_eq_false.mpr ⟨hchanged, henable, hsource⟩
    have hcounts : s.counts z p = counts := s.counts_normal hmode z p
    have hcredit : s.credit z p = credit := by rw [s.credit_eq, hcounts]
    have hshowing : s.accountedShowing z p h = h' := accountedShowing_eq h hcounts hcredit
    have hcause := readyCause_staying (z := z) (matches_readied hpending) hclass hstays
    have hended : ∀ reason, p.delivered ≤ 4294967295 → s.readyCause z h p = some reason →
        logged reason (frameEnd b s).1 ∧ (z, reason) ∈ (frameEnd b s).2.endings := fun reason hle hreason => by
      obtain ⟨⟨hnew, hlogs, -⟩, hevent⟩ := endedWith_cause b halone hh hp hmode hplan hreason
      rw [accountedSpot_saturated s z hle, hcredit, hshowing] at hlogs
      exact ⟨⟨hnew, hlogs.1, hlogs.2⟩, hevent⟩
    rw [hshowing] at hcause
    refine ⟨fun hle hdwell => ?_, fun hle hlow hcover => ?_⟩
    · obtain ⟨hlogged, hevent⟩ := hended .dwellDone hle (hcause.trans (if_pos hdwell))
      exact ⟨_, exec_dwellDone hrun hscan hevent, exec_frameEnd b hrun hscan, hlogged⟩
    · obtain ⟨hlogged, hevent⟩ := hended .coverLimit hle
        (hcause.trans ((if_neg (Nat.not_le.mpr hlow)).trans (if_pos hcover)))
      exact ⟨_, exec_coverLimit hrun hscan hevent, exec_frameEnd b hrun hscan, hlogged⟩
  · intro b s z h p hrun hscan hh halone hp hle zr normal planned pending mismatched cells counts credit accounted saturated
    refine ⟨_, exec_frameEnd b hrun hscan, ?_⟩
    intro logged
    have hplanned : planned → planEnds s.composer.record.zones[z] = false := planEnds_eq_false.mpr
    have hunplanned : ¬ planned → planEnds s.composer.record.zones[z] = true := fun h =>
      (Bool.not_eq_false _).mp fun hends => h (planEnds_eq_false.mp hends)
    have hcause : ∀ reason, planned → normal → s.readyCause z h p = some reason → logged reason saturated accounted :=
      fun reason hplan hmode hreason => by
        have hcounts : s.counts z p = counts := s.counts_normal hmode z p
        have hcredit : s.credit z p = credit := by rw [s.credit_eq, hcounts]
        obtain ⟨⟨hnew, hlogs, hgone⟩, -⟩ := endedWith_cause b halone hh hp hmode (hplanned hplan) hreason
        rw [accountedSpot_saturated s z hle, hcredit, accountedShowing_eq h hcounts hcredit] at hlogs
        exact ⟨hnew, hlogs.1, hlogs.2, hgone⟩
    have hquiet : ¬ pending → (s.readied z).stingPending = false := fun hno => by
      rw [State.readied]
      cases hresized : (s.composer.record.zones[z]).resized with
      | true => rfl
      | false => exact Bool.eq_false_iff.mpr fun hp => hno ⟨hresized, hp⟩
    refine ⟨fun hplan => ?_, fun hempty hplan => ?_, fun hplan hmode => ?_, fun hplan hmode hp => ?_, fun hplan hmode hno hclass => ?_,
      fun hplan hmode hno hclass hw => ?_⟩
    · obtain ⟨⟨hnew, hlogs, hgone⟩, -⟩ := endedWith_plan b halone hh hp (hunplanned hplan)
      exact ⟨hnew, hlogs.1, hlogs.2, hgone⟩
    · refine (endedWith_plan b halone hh hp (hunplanned hplan)).2 (hempty.imp_left fun hoff => ?_)
      rw [ZoneDesc.isOn, ← Bool.not_eq_true, Bool.and_eq_true, beq_iff_eq]
      exact hoff
    · obtain ⟨⟨hnew, hlogs, hgone⟩, hnone, hquiet⟩ := endedWith_mode b halone hh hp hmode (hplanned hplan)
      exact ⟨⟨hnew, hlogs.1, hlogs.2, hgone⟩, hnone, hquiet⟩
    · refine hcause .sting hplan hmode ?_
      obtain ⟨hresized, hsting⟩ := hp
      have hpending : (s.readied z).stingPending = true := by
        rw [State.readied, if_neg (by rw [hresized]; exact Bool.false_ne_true), hsting]
      rw [State.readyCause, hpending, endReason_sting]
    · refine hcause .clockClass hplan hmode ?_
      rw [State.readyCause, hquiet hno]
      exact endReason_clockClass hclass.1 (by rw [accountedSpot_spotClass]; exact hclass.2)
    · refine hcause .withdrawn hplan hmode ?_
      have hin : h.sting = true ∨ p.spotClass.matches s.clock.game.state = true := by
        by_contra hout
        obtain ⟨hsting, hmatches⟩ := not_or.mp hout
        exact hclass ⟨Bool.eq_false_iff.mpr hsting, Bool.eq_false_iff.mpr hmatches⟩
      have hin' : (s.accountedShowing z p h).sting = true ∨ (s.accountedSpot z p).spotClass.matches s.clock.game.state = true := by
        rw [accountedSpot_spotClass]
        exact hin
      rw [State.readyCause, hquiet hno, endReason_inClass hin', accountedSpot_withdrawing, hw]
      rfl
  · intro number zone reason saturated endVenue h record holds
    have hreason : ofLeBytes ((record.drop 6).take 1) = reason.code % 256 ^ 1 := proofRecord_field 3 rfl rfl
    refine ⟨proofRecord_length .., proofRecord_field 0 rfl rfl, proofRecord_field 1 rfl rfl, proofRecord_field 2 rfl rfl,
      hreason.trans ?_, proofRecord_field 4 rfl rfl, proofRecord_field 5 rfl rfl, proofRecord_field 6 rfl rfl,
      proofRecord_field 7 rfl rfl, proofRecord_field 8 rfl rfl, proofRecord_field 9 rfl rfl, proofRecord_field 10 rfl rfl,
      proofRecord_field 11 rfl rfl, proofRecord_field 12 rfl rfl⟩
    cases reason <;> rfl

end Sys2Proof.Machine
end

section
/-! PROOFS. What the ending stages of a FRAME_END in mode NORMAL leave in every zone and of every spot (R121-R124). -/

namespace Sys2Proof.Machine

/-! ### The causes of an end, read from the state before the FRAME_END -/

/-- Every showing's spot is defined, and one that is withdrawing is shown in one zone only. -/
def RotationUnit.ShowsDefined (u : RotationUnit) : Prop :=
  ∀ (y : ZoneIx) (h : Showing), (u.zones[y]).showing = some h →
    ∃ p, u.spot h.spotId = some p ∧ (p.withdrawing = true → ∀ y' : ZoneIx, (u.zones[y']).shows h.spotId = true → y' = y)

/-- No showing of a zone goes on at a FRAME_END in mode NORMAL. -/
def State.ZoneEnds (s : State) (z : ZoneIx) : Prop :=
  ∀ h p, (s.rotation.zones[z]).showing = some h → s.rotation.spot h.spotId = some p →
    planEnds s.composer.record.zones[z] = true ∨ s.readyCause z h p ≠ none

theorem Spot.Aged.minVisible {p q : Spot} (h : p.Aged q) : q.minVisible = p.minVisible := by rw [h]

/-- Accounting to a spot does not change what its end depends on. -/
theorem readyCause_aged {s : State} {z : ZoneIx} {h : Showing} {p q : Spot} (haged : p.Aged q) :
    s.readyCause z h q = none ↔ s.readyCause z h p = none := by
  have hcounts : s.counts z q = s.counts z p := by rw [State.counts, State.counts, haged.minVisible]
  have hboth : ∀ r : Spot, p.Aged r → s.counts z r = s.counts z p → (s.readyCause z h r = none ↔
      (s.readied z).stingPending = false ∧ (h.sting = true ∨ p.spotClass.matches s.clock.game.state = true) ∧ p.withdrawing = false ∧
        h.countedFrames + (if s.counts z p = true then 1 else 0) < p.dwell ∧ h.framesOnAir + 1 < 4 * p.dwell) := fun r hr hc => by
    rw [State.readyCause, endReason_eq_none, accountedSpot_spotClass, accountedSpot_withdrawing, accountedSpot_dwell, ← hc, hr]
    rfl
  exact (hboth q haged hcounts).trans (hboth p (.refl p) rfl).symm

/-! ### The zone -/

theorem planStage_changed {z : ZoneIx} {s : State} (h : planEnds s.composer.record.zones[z] = true)
    (hon : (s.composer.record.zones[z]).desc.isOn .sponsor = true) :
    (planStage z s).rotation.zones[z] = { s.readied z with showing := none } := by
  have hzone : (endShowing z .planChange s).rotation.zones[z] = { s.rotation.zones[z] with showing := none } := by
    rw [endShowing_rotation]
    cases hg : (s.rotation.zones[z]).showing with
    | none => rw [Option.elim_none, ← hg]
    | some g => rw [Option.elim_some, ended_zones_same]
  unfold planStage State.readied
  dsimp only
  rw [if_pos h, hon, Bool.not_true, Bool.false_or]
  split
  · refine (RotationUnit.mapZone_zones_same z SponsorZone.emptied _).trans ?_
    rw [hzone]
    rfl
  · exact hzone

section

variable {b : Bool} {s : State} {z : ZoneIx}

theorem rotationEnded_zone_off (hmode : s.composer.record.mode = .normal)
    (hoff : (s.composer.record.zones[z]).desc.isOn .sponsor = false) : (rotationEnded b s).rotation.zones[z] = .bare := by
  obtain ⟨t, ht⟩ := exists_zoneTurn b z s
  have hplan : planEnds t.composer.record.zones[z] = true := by
    rw [ht.plan, planEnds, hoff]
    exact Bool.or_true _
  obtain ⟨-, -, -, hbare⟩ := planStage_unplanned hplan
  rw [ht.ended_zone, endingStage_unplanned (ht.normal hmode) hplan]
  exact hbare (.inl (by rw [ht.scene.composer]; exact hoff))

/-- In its turn the spot of the zone's showing is defined, if with frames accounted to it. -/
theorem ZoneTurn.spot_aged {t : State} (ht : ZoneTurn b z s t) (hdefined : s.rotation.ShowsDefined) {h : Showing} {p : Spot}
    (hh : (s.rotation.zones[z]).showing = some h) (hp : s.rotation.spot h.spotId = some p) :
    ∃ q, t.rotation.spot h.spotId = some q ∧ p.Aged q := by
  refine ((ht.before.spot h.spotId).2 p hp).resolve_right fun ⟨_, hw, y, hy, hshows⟩ => ?_
  obtain ⟨p', hp', hunique⟩ := hdefined z h hh
  obtain rfl := Option.some.inj (hp.symm.trans hp')
  exact hy (hunique hw y hshows)

theorem rotationEnded_zone_ends (hmode : s.composer.record.mode = .normal) (hdefined : s.rotation.ShowsDefined)
    (hon : (s.composer.record.zones[z]).desc.isOn .sponsor = true) (hends : s.ZoneEnds z) :
    (rotationEnded b s).rotation.zones[z] = { s.readied z with showing := none } := by
  obtain ⟨t, ht⟩ := exists_zoneTurn b z s
  rw [ht.ended_zone, ← ht.readied]
  cases hplan : planEnds t.composer.record.zones[z] with
  | true =>
    rw [endingStage_unplanned (ht.normal hmode) hplan]
    exact planStage_changed hplan (by rw [ht.scene.composer]; exact hon)
  | false =>
    cases hh : (s.rotation.zones[z]).showing with
    | none =>
      have hnone : ((t.ready z).rotation.zones[z]).showing = none := by rw [State.ready_showing, ht.zone, hh]
      rw [endingStage_accounts (ht.normal hmode) hplan, accountZone_none hnone, ← hnone, State.ready_zone]
    | some h =>
      obtain ⟨p, hp, -⟩ := hdefined z h hh
      obtain ⟨q, hq, haged⟩ := ht.spot_aged hdefined hh hp
      have hcause : s.readyCause z h p ≠ none :=
        (hends h p hh hp).resolve_left fun hplan' => Bool.noConfusion (hplan.symm.trans (ht.plan.trans hplan'))
      obtain ⟨r, hr⟩ := Option.ne_none_iff_exists'.mp fun hnone : t.readyCause z h q = none =>
        hcause ((readyCause_aged haged).mp ((ht.readyCause h q).symm.trans hnone))
      exact (endingStage_ends (ht.normal hmode) hplan (by rw [ht.zone, hh]) hq hr).1

theorem rotationEnded_zone_goesOn (hmode : s.composer.record.mode = .normal) (hdefined : s.rotation.ShowsDefined)
    (hends : ¬ s.ZoneEnds z) : ∃ h p, (s.rotation.zones[z]).showing = some h ∧
      (rotationEnded b s).rotation.zones[z] = { s.readied z with showing := some (s.accountedShowing z p h) } := by
  obtain ⟨t, ht⟩ := exists_zoneTurn b z s
  rw [State.ZoneEnds] at hends
  push Not at hends
  obtain ⟨h, p, hh, hp, hplan, hcause⟩ := hends
  obtain ⟨q, hq, haged⟩ := ht.spot_aged hdefined hh hp
  refine ⟨h, q, hh, ?_⟩
  rw [ht.ended_zone, ← ht.readied, ← ht.scene.accountedShowing]
  exact (endingStage_goesOn (ht.normal hmode) (ht.plan.trans (Bool.eq_false_iff.mpr hplan)) (by rw [ht.zone, hh]) hq
    ((ht.readyCause h q).trans ((readyCause_aged haged).mpr hcause))).1

/-! ### The spots -/

theorem rotationEnded_step (b : Bool) (s : State) : EndingStep (fun _ => True) s.rotation (rotationEnded b s).rotation := by
  have hrotation := replayFrameWork_rotation b s
  unfold rotationEnded
  generalize replayFrameWork b s = r at hrotation ⊢
  have hstep := EndingStep.endingStages allZones r
  rw [hrotation] at hstep
  exact hstep.mono fun _ _ => trivial

/-- A withdrawing spot on air is deleted. -/
theorem rotationEnded_spot_withdrawn (hmode : s.composer.record.mode = .normal) (hdefined : s.rotation.ShowsDefined) {i : Nat} {p : Spot}
    (hp : s.rotation.spot i = some p) (hw : p.withdrawing = true) (honAir : s.rotation.onAir i = true) :
    (rotationEnded b s).rotation.spot i = none := by
  obtain ⟨y, hy⟩ := RotationUnit.onAir_iff.mp honAir
  obtain ⟨h, hh, rfl⟩ := SponsorZone.shows_iff.mp hy
  obtain ⟨p', hp', hunique⟩ := hdefined y h hh
  obtain rfl := Option.some.inj (hp.symm.trans hp')
  obtain ⟨t, ht⟩ := exists_zoneTurn b y s
  have halone : ∀ y' : ZoneIx, y' ≠ y → (s.rotation.zones[y']).shows h.spotId = false := fun y' hne => by
    rw [Bool.eq_false_iff]
    exact fun hs => hne (hunique hw y' hs)
  have hht : (t.rotation.zones[y]).showing = some h := by rw [ht.zone, hh]
  have hpt : t.rotation.spot h.spotId = some p := by rw [ht.spot halone, hp]
  refine (ht.after.spot _).1 ?_
  cases hplan : planEnds t.composer.record.zones[y] with
  | true =>
    rw [endingStage_unplanned (ht.normal hmode) hplan]
    exact ((planStage_unplanned hplan).2.2.1 _).trans (spot_gone_endShowing .planChange hht hpt hw)
  | false =>
    have hcause : t.readyCause y h p ≠ none := fun hnone => by
      rw [State.readyCause, endReason_eq_none, accountedSpot_withdrawing] at hnone
      exact Bool.noConfusion (hw.symm.trans hnone.2.2.1)
    obtain ⟨r, hr⟩ := Option.ne_none_iff_exists'.mp hcause
    exact (endingStage_ends (ht.normal hmode) hplan hht hpt hr).2.1 hw

theorem rotationEnded_spot_stays {i : Nat} {p : Spot} (hp : s.rotation.spot i = some p)
    (hstays : p.withdrawing = false ∨ s.rotation.onAir i = false) :
    ∃ q, (rotationEnded b s).rotation.spot i = some q ∧ p.Aged q ∧ (s.rotation.onAir i = false → q = p) := by
  cases honAir : s.rotation.onAir i with
  | false =>
    have hoff := RotationUnit.onAir_eq_false.mp honAir
    exact ⟨p, ((rotationEnded_step b s).kept i fun y _ => hoff y).trans hp, .refl p, fun _ => rfl⟩
  | true =>
    have hw : p.withdrawing = false := hstays.resolve_right (by rw [honAir]; exact nofun)
    obtain ⟨q, hq, haged⟩ := (((rotationEnded_step b s).spot i).2 p hp).resolve_right fun h =>
      Bool.noConfusion (hw.symm.trans h.2.1)
    exact ⟨q, hq, haged, nofun⟩

end

end Sys2Proof.Machine
end

section
/-! PROOFS. The selection stages taken together: which zones select, what is on air elsewhere when one does, and which spots begin a showing
(R125-R127). -/

namespace Sys2Proof.Machine

/-! ### What no selection changes -/

/-- A spot but for its number of showings. -/
def Spot.unnumbered (p : Spot) : Spot := { p with showings := 0 }

theorem selectionStage_unnumbered (z : ZoneIx) (s : State) (i : Nat) :
    ((selectionStage z s).rotation.spot i).map Spot.unnumbered = (s.rotation.spot i).map Spot.unnumbered := by
  rcases selectionStage_cases z s with ⟨-, heq⟩ | ⟨-, hrests | ⟨_, _, _, _, hbegins⟩⟩
  · rw [heq]
  · rw [hrests.spot]
  · rw [hbegins.spot]
    split
    · rw [Option.map_map]
      rfl
    · rfl

theorem selectionStages_unnumbered : ∀ (l : List ZoneIx) (s : State) (i : Nat),
    ((selectionStages l s).rotation.spot i).map Spot.unnumbered = (s.rotation.spot i).map Spot.unnumbered
  | [], _, _ => rfl
  | z :: rest, s, i => (selectionStages_unnumbered rest _ i).trans (selectionStage_unnumbered z s i)

/-- Spots that agree but for their number of showings are both there, or neither. -/
theorem spot_of_unnumbered {a b : Option Spot} (h : b.map Spot.unnumbered = a.map Spot.unnumbered) {p : Spot} (hp : a = some p) :
    ∃ q, b = some q ∧ q = { p with showings := q.showings } := by
  subst hp
  obtain ⟨q, hq, heq⟩ := Option.map_eq_some_iff.mp h
  refine ⟨q, hq, ?_⟩
  obtain ⟨_, _, _, _, _, _, _, _, _, _, _, _, _⟩ := p
  obtain ⟨_, _, _, _, _, _, _, _, _, _, _, _, _⟩ := q
  cases heq
  rfl

theorem selects_congr {s t : State} {y : ZoneIx} (hscene : SameScene s t) (hzone : t.rotation.zones[y] = s.rotation.zones[y]) :
    selects t y = selects s y := by
  rw [selects, selects, hscene.composer, hzone]

/-- A zone that does not select is as it was. -/
theorem selectionStages_zone_unselected : ∀ (l : List ZoneIx) {s : State} {y : ZoneIx}, selects s y = false →
    (selectionStages l s).rotation.zones[y] = s.rotation.zones[y]
  | [], _, _, _ => rfl
  | z :: rest, s, y, h => by
    have hzone : (selectionStage z s).rotation.zones[y] = s.rotation.zones[y] := by
      by_cases hy : y = z
      · subst hy
        rw [selectionStage_idle h]
      · exact selectionStage_zone_other hy s
    have hselects := selects_congr (selectionStage_rotationFrame z s).sameScene hzone
    exact (selectionStages_zone_unselected rest (hselects.trans h)).trans hzone

/-! ### The number of showings (R127) -/

/-- A spot's showings rise by 1 exactly if a zone begins a showing of it. -/
theorem selectionStages_spot : ∀ (l : List ZoneIx) (s : State) (i : Nat), l.Nodup → (selectionStages l s).rotation.spot i =
    if ∃ z ∈ l, selects s z = true ∧ ((selectionStages l s).rotation.zones[z]).shows i = true then (s.rotation.spot i).map Spot.bumped
    else s.rotation.spot i
  | [], _, _, _ => (if_neg fun ⟨_, h, _⟩ => List.not_mem_nil h).symm
  | z :: rest, s, i, hl => by
    obtain ⟨hz, hrest⟩ := List.nodup_cons.mp hl
    have hzone := selectionStages_zone_away (selectionStage z s) hz
    have hscene := (selectionStage_rotationFrame z s).sameScene
    have ih := selectionStages_spot rest (selectionStage z s) i hrest
    have hselects : ∀ y ∈ rest, selects (selectionStage z s) y = selects s y := fun y hy =>
      selects_congr hscene (selectionStage_zone_other (fun e => hz (by rwa [← e])) s)
    have hsame : (¬ (selects s z = true ∧ ((selectionStage z s).rotation.zones[z]).shows i = true)) →
        (selectionStage z s).rotation.spot i = s.rotation.spot i → (selectionStages (z :: rest) s).rotation.spot i =
          if ∃ y ∈ z :: rest, selects s y = true ∧ ((selectionStages (z :: rest) s).rotation.zones[y]).shows i = true then
            (s.rotation.spot i).map Spot.bumped
          else s.rotation.spot i := fun hno hspot => by
      rw [selectionStages, ih, hspot]
      refine if_congr ⟨fun ⟨y, hy, hsel, hs⟩ => ⟨y, List.mem_cons_of_mem _ hy, (hselects y hy).symm.trans hsel, hs⟩,
        fun ⟨y, hy, hsel, hs⟩ => ?_⟩ rfl rfl
      rcases List.mem_cons.mp hy with heq | hy
      · subst heq
        rw [hzone] at hs
        exact absurd ⟨hsel, hs⟩ hno
      · exact ⟨y, hy, (hselects y hy).trans hsel, hs⟩
    rcases selectionStage_cases z s with ⟨hidle, heq⟩ | ⟨hsel, hrests | ⟨id, sting, overrun, c, hbegins⟩⟩
    · exact hsame (fun h => Bool.noConfusion (hidle.symm.trans h.1)) (by rw [heq])
    · have hnone : ((selectionStage z s).rotation.zones[z]).showing = none := by
        rw [hrests.zone]
        exact selects_spec hsel
      exact hsame (fun h => Bool.noConfusion ((SponsorZone.shows_none hnone i).symm.trans h.2)) (hrests.spot i)
    · have hshows : ∀ j, ((selectionStage z s).rotation.zones[z]).shows j = true ↔ j = id := fun j => by
        rw [hbegins.zone, SponsorZone.shows_iff]
        exact ⟨fun ⟨_, h, hj⟩ => by rw [← hj, ← Option.some.inj h]; rfl, fun h => ⟨_, rfl, h.symm⟩⟩
      by_cases hi : i = id
      · have honAir : (selectionStage z s).rotation.onAir i = true := RotationUnit.onAir_iff.mpr ⟨z, (hshows i).mpr hi⟩
        rw [if_pos ⟨z, List.mem_cons_self, hsel, by rw [selectionStages, hzone]; exact (hshows i).mpr hi⟩, selectionStages,
          selectionStages_spot_onAir rest honAir, hbegins.spot]
        exact if_pos hi
      · exact hsame (fun h => hi ((hshows i).mp h.2)) ((hbegins.spot i).trans (if_neg hi))

/-! ### The turn of one zone in the selection stages -/

/-- The state in which a zone has its turn in the selection stages. -/
structure SelectionTurn (z : ZoneIx) (s t : State) : Prop where
  scene : SameScene s t
  zone : t.rotation.zones[z] = s.rotation.zones[z]
  lower : ∀ y : ZoneIx, y < z → t.rotation.zones[y] = (selectionStages allZones s).rotation.zones[y]
  higher : ∀ y : ZoneIx, z < y → t.rotation.zones[y] = s.rotation.zones[y]
  final : (selectionStages allZones s).rotation.zones[z] = (selectionStage z t).rotation.zones[z]
  spot : ∀ i, ((selectionStages allZones s).rotation.spot i).map Spot.unnumbered = (t.rotation.spot i).map Spot.unnumbered

theorem allZones_ascending : allZones.Pairwise (· < ·) := by decide

theorem exists_selectionTurn (z : ZoneIx) (s : State) : ∃ t, SelectionTurn z s t := by
  obtain ⟨before, after, hsplit⟩ := List.append_of_mem (mem_allZones z)
  have hascending := allZones_ascending
  rw [hsplit, List.pairwise_append, List.pairwise_cons] at hascending
  obtain ⟨-, ⟨hafter, -⟩, hbefore⟩ := hascending
  have hall : ∀ y : ZoneIx, y ∈ before ∨ y = z ∨ y ∈ after := fun y => by
    have hy := mem_allZones y
    rw [hsplit, List.mem_append, List.mem_cons] at hy
    exact hy
  have hlow : ∀ y ∈ before, y < z := fun y hy => hbefore y hy z List.mem_cons_self
  have hnot : ∀ y : ZoneIx, y ≤ z → y ∉ after := fun y hy h => absurd (hafter y h) (not_lt.mpr hy)
  have hnot' : ∀ y : ZoneIx, z ≤ y → y ∉ before := fun y hy h => absurd (hlow y h) (not_lt.mpr hy)
  have hfinal : selectionStages allZones s = selectionStages after (selectionStage z (selectionStages before s)) := by
    rw [hsplit, selectionStages_append]
    rfl
  have hspot := fun i => (selectionStages_unnumbered after (selectionStage z (selectionStages before s)) i).trans
    (selectionStage_unnumbered z (selectionStages before s) i)
  rw [← hfinal] at hspot
  refine ⟨selectionStages before s, (selectionStages_rotationFrame before s).sameScene, selectionStages_zone_away s (hnot' z le_rfl),
    fun y hy => ?_, fun y hy => selectionStages_zone_away s (hnot' y hy.le), ?_, hspot⟩
  · rw [hfinal, selectionStages_zone_away _ (hnot y hy.le), selectionStage_zone_other hy.ne]
  · rw [hfinal, selectionStages_zone_away _ (hnot z le_rfl)]

section

variable {z : ZoneIx} {s t : State}

/-- What is on air in a zone's turn is what a lower zone shows in the end, or what goes on in a zone that does not select. -/
theorem SelectionTurn.onAir_iff (ht : SelectionTurn z s t) (hselects : selects s z = true) {i : Nat} : t.rotation.onAir i = true ↔
    ∃ y : ZoneIx, y ≠ z ∧ (y < z ∨ selects s y = false) ∧ ((selectionStages allZones s).rotation.zones[y]).shows i = true := by
  rw [RotationUnit.onAir_iff]
  constructor
  · rintro ⟨y, hy⟩
    have hne : y ≠ z := fun e => by
      subst e
      rw [ht.zone, SponsorZone.shows_none (selects_spec hselects)] at hy
      cases hy
    rcases lt_or_gt_of_ne hne with hlt | hgt
    · refine ⟨y, hne, .inl hlt, ?_⟩
      rwa [← ht.lower y hlt]
    · rw [ht.higher y hgt] at hy
      obtain ⟨g, hg, -⟩ := SponsorZone.shows_iff.mp hy
      refine ⟨y, hne, .inr (selects_of_showing hg), ?_⟩
      rwa [selectionStages_zone_showing allZones hg]
  · rintro ⟨y, hne, hturn, hy⟩
    refine ⟨y, ?_⟩
    rcases lt_or_gt_of_ne hne with hlt | hgt
    · rwa [ht.lower y hlt]
    · rw [selectionStages_zone_unselected allZones (hturn.resolve_left (not_lt.mpr hgt.le))] at hy
      rwa [ht.higher y hgt]

theorem SelectionTurn.selects (ht : SelectionTurn z s t) : selects t z = selects s z := selects_congr ht.scene ht.zone

theorem SelectionTurn.isSome (ht : SelectionTurn z s t) (i : Nat) :
    (t.rotation.spot i).isSome = ((selectionStages allZones s).rotation.spot i).isSome := by
  have h := congrArg Option.isSome (ht.spot i)
  rw [Option.isSome_map, Option.isSome_map] at h
  exact h.symm

theorem eligible_iff {s : State} {i : Nat} : eligible s i = true ↔
    ∃ p, s.rotation.spot i = some p ∧ p.withdrawing = false ∧ p.spotClass.matches s.clock.game.state = true ∧
      s.rotation.onAir i = false := by
  unfold eligible
  cases hp : s.rotation.spot i with
  | none => exact ⟨fun h => (nomatch h), fun ⟨_, h, _⟩ => (nomatch h)⟩
  | some p =>
    dsimp only
    rw [Bool.and_eq_true, Bool.and_eq_true, Bool.not_eq_true', Bool.not_eq_true', and_assoc]
    exact ⟨fun h => ⟨p, rfl, h⟩, fun ⟨q, hq, h⟩ => by rwa [Option.some.inj hq]⟩

/-- Whether an entry is eligible in the zone's turn, by the spots as the FRAME_END leaves them. -/
theorem SelectionTurn.eligible_iff (ht : SelectionTurn z s t) {i : Nat} : eligible t i = true ↔
    ∃ p, (selectionStages allZones s).rotation.spot i = some p ∧ p.withdrawing = false ∧
      p.spotClass.matches s.clock.game.state = true ∧ t.rotation.onAir i = false := by
  rw [Machine.eligible_iff, ht.scene.clock]
  constructor
  · rintro ⟨p, hp, h⟩
    obtain ⟨q, hq, heq⟩ := spot_of_unnumbered (ht.spot i) hp
    refine ⟨q, hq, ?_⟩
    rw [heq]
    exact h
  · rintro ⟨p, hp, h⟩
    obtain ⟨q, hq, heq⟩ := spot_of_unnumbered (ht.spot i).symm hp
    refine ⟨q, hq, ?_⟩
    rw [heq]
    exact h

theorem owedSpot_iff {s : State} {i : Nat} :
    owedSpot s i = true ↔ ∃ p, s.rotation.spot i = some p ∧ p.delivered < p.contract * 76800 := by
  unfold owedSpot
  cases hp : s.rotation.spot i with
  | none => exact ⟨fun h => (nomatch h), fun ⟨_, h, _⟩ => (nomatch h)⟩
  | some p =>
    rw [Option.elim_some, Spot.owed, decide_eq_true_iff]
    exact ⟨fun h => ⟨p, rfl, h⟩, fun ⟨q, hq, h⟩ => by rwa [Option.some.inj hq]⟩

theorem SelectionTurn.owed_iff (ht : SelectionTurn z s t) {i : Nat} : owedSpot t i = true ↔
    ∃ p, (selectionStages allZones s).rotation.spot i = some p ∧ p.delivered < p.contract * 76800 := by
  rw [owedSpot_iff]
  constructor
  · rintro ⟨p, hp, h⟩
    obtain ⟨q, hq, heq⟩ := spot_of_unnumbered (ht.spot i) hp
    refine ⟨q, hq, ?_⟩
    rw [heq]
    exact h
  · rintro ⟨p, hp, h⟩
    obtain ⟨q, hq, heq⟩ := spot_of_unnumbered (ht.spot i).symm hp
    refine ⟨q, hq, ?_⟩
    rw [heq]
    exact h

end

/-! ### The outcome of a zone's selection -/

/-- The end of a zone's selection: a new showing with the cursor at a place, or none. -/
def SponsorZone.Chose (x : SponsorZone) (v : SponsorZone) (g : Option Showing) (c : Int) : Prop :=
  v = { x with cursor := c, stingPending := false, showing := g }

theorem Begins.chose {z : ZoneIx} {g : Showing} {c : Int} {s t : State} (h : Begins z g c s t) :
    (s.rotation.zones[z]).Chose t.rotation.zones[z] (some g) c := h.zone

theorem Rests.chose {z : ZoneIx} {s t : State} (h : Rests z s t) (hnone : (s.rotation.zones[z]).showing = none) :
    (s.rotation.zones[z]).Chose t.rotation.zones[z] none (s.rotation.zones[z]).cursor := by
  rw [SponsorZone.Chose, h.zone, ← hnone]

section

variable {z : ZoneIx} {t : State}

/-- The passes' outcome, whether or not a sting was dropped before. -/
theorem selectionStage_passes_chose (hselects : selects t z = true)
    (hsting : (t.rotation.zones[z]).stingPending = false ∨
      ∀ id, (t.rotation.zones[z]).sting = some id → t.rotation.onAir id = true ∨ t.rotation.spot id = none) :
    (∀ k, k < (t.rotation.zones[z]).rotation.length → eligible t ((t.rotation.zones[z]).visited k) = true →
      owedSpot t ((t.rotation.zones[z]).visited k) = true →
      (∀ j, j < k → (eligible t ((t.rotation.zones[z]).visited j) && owedSpot t ((t.rotation.zones[z]).visited j)) = false) →
      (t.rotation.zones[z]).Chose (selectionStage z t).rotation.zones[z]
        (some (t.fresh ((t.rotation.zones[z]).visited k) false false)) ((t.rotation.zones[z]).place k)) ∧
    (∀ k, k < (t.rotation.zones[z]).rotation.length → eligible t ((t.rotation.zones[z]).visited k) = true →
      (∀ j, j < (t.rotation.zones[z]).rotation.length →
        (eligible t ((t.rotation.zones[z]).visited j) && owedSpot t ((t.rotation.zones[z]).visited j)) = false) →
      (∀ j, j < k → eligible t ((t.rotation.zones[z]).visited j) = false) →
      (t.rotation.zones[z]).Chose (selectionStage z t).rotation.zones[z]
        (some (t.fresh ((t.rotation.zones[z]).visited k) false true)) ((t.rotation.zones[z]).place k)) ∧
    ((∀ j, j < (t.rotation.zones[z]).rotation.length → eligible t ((t.rotation.zones[z]).visited j) = false) →
      (t.rotation.zones[z]).Chose (selectionStage z t).rotation.zones[z] none (t.rotation.zones[z]).cursor) := by
  rcases selectionStage_passes hselects hsting with ⟨heq, hpending⟩ | heq
  · rw [heq]
    exact ⟨fun k hk he ho hf => (passes_owed hpending hk he ho hf).chose,
      fun k hk he hn hf => (passes_overrun hpending hk he hn hf).chose,
      fun hn => (passes_rests hpending hn).chose (selects_spec hselects)⟩
  · have hzone := unpend_zone z t
    have hpending : ((t.unpend z).rotation.zones[z]).stingPending = false := congrArg SponsorZone.stingPending hzone
    have hvisited : ∀ k, ((t.unpend z).rotation.zones[z]).visited k = (t.rotation.zones[z]).visited k := fun k => by
      rw [hzone]
      rfl
    have hplace : ∀ k, ((t.unpend z).rotation.zones[z]).place k = (t.rotation.zones[z]).place k := fun k => by
      rw [hzone]
      rfl
    have hlength : ((t.unpend z).rotation.zones[z]).rotation.length = (t.rotation.zones[z]).rotation.length := by
      rw [hzone]
      rfl
    have howed : ∀ i, owedSpot (t.unpend z) i = owedSpot t i := fun _ => rfl
    have heligible := unpend_eligible z t
    have hfirst := fun k hk => passes_owed (s := t.unpend z) (k := k) hpending hk
    have hsecond := fun k hk => passes_overrun (s := t.unpend z) (k := k) hpending hk
    have hneither := passes_rests (s := t.unpend z) hpending
    simp only [hvisited, hplace, hlength, howed, heligible] at hfirst hsecond hneither
    rw [heq]
    exact ⟨fun k hk he ho hf => (hfirst k hk he ho hf).of_unpend.chose, fun k hk he hn hf => (hsecond k hk he hn hf).of_unpend.chose,
      fun hn => (hneither hn).of_unpend.chose (selects_spec hselects)⟩

end

end Sys2Proof.Machine
end

section
/-! PROOFS. What the rotation unit leaves of zones and spots at a FRAME_END in mode NORMAL, in the terms of R121-R127. -/

namespace Sys2Proof.Machine

theorem isOn_sponsor_iff {d : ZoneDesc} : d.isOn .sponsor = true ↔ d.enable = true ∧ d.source = .sponsor := by
  rw [ZoneDesc.isOn, Bool.and_eq_true, beq_iff_eq]

theorem matches_iff (c : SpotClass) (g : GameState) :
    c.matches g = true ↔ (c = .runningOnly → g = .running) ∧ (c = .stoppedOnly → g ≠ .running) := by
  cases c with
  | any => exact ⟨fun _ => ⟨nofun, nofun⟩, fun _ => rfl⟩
  | runningOnly => exact ⟨fun h => ⟨fun _ => beq_iff_eq.mp h, nofun⟩, fun h => beq_iff_eq.mpr (h.1 rfl)⟩
  | stoppedOnly => exact ⟨fun h => ⟨nofun, fun _ => bne_iff_ne.mp h⟩, fun h => bne_iff_ne.mpr (h.2 rfl)⟩

/-- The cause of an end, if any, by the figures before the frame. -/
theorem readyCause_ne_none {s : State} {z : ZoneIx} {h : Showing} {p : Spot} : s.readyCause z h p ≠ none ↔
    (s.readied z).stingPending = true ∨ (h.sting = false ∧ ¬ p.spotClass.matches s.clock.game.state = true) ∨ p.withdrawing = true ∨
      p.dwell ≤ h.countedFrames ∨ (s.counts z p = true ∧ p.dwell ≤ h.countedFrames + 1) ∨ 4 * p.dwell ≤ h.framesOnAir + 1 := by
  rw [ne_eq, State.readyCause, endReason_eq_none, accountedSpot_spotClass, accountedSpot_withdrawing, accountedSpot_dwell]
  have hsting : (s.accountedShowing z p h).sting = h.sting := rfl
  have hframes : (s.accountedShowing z p h).framesOnAir = h.framesOnAir + 1 := rfl
  have hcounted : (s.accountedShowing z p h).countedFrames = h.countedFrames + (if s.counts z p = true then 1 else 0) := rfl
  rw [hsting, hframes, hcounted, ← Bool.not_eq_true (s.readied z).stingPending, ← Bool.not_eq_true p.withdrawing,
    ← Bool.not_eq_true h.sting]
  have hdwell : ¬ (h.countedFrames + (if s.counts z p = true then 1 else 0) < p.dwell) ↔
      p.dwell ≤ h.countedFrames ∨ (s.counts z p = true ∧ p.dwell ≤ h.countedFrames + 1) := by
    by_cases hc : s.counts z p = true
    · rw [if_pos hc, and_iff_right hc]
      omega
    · rw [if_neg hc, or_iff_left fun h => hc h.1]
      omega
  have hcover : ¬ (h.framesOnAir + 1 < 4 * p.dwell) ↔ 4 * p.dwell ≤ h.framesOnAir + 1 := Nat.not_lt
  rw [← hcover, ← or_assoc (a := p.dwell ≤ h.countedFrames), ← hdwell]
  tauto

section

variable {b : Bool} {s : State} {z : ZoneIx}

/-- The state in which a zone has its turn, after a FRAME_END in mode NORMAL has ended what ends, selects if it is an enabled SPONSOR zone
whose showing has ended. -/
theorem selects_rotationEnded (hmode : s.composer.record.mode = .normal) (hdefined : s.rotation.ShowsDefined) :
    selects (rotationEnded b s) z = true ↔ (s.composer.record.zones[z]).desc.isOn .sponsor = true ∧ s.ZoneEnds z := by
  have hnormal : (s.composer.record.mode == OutputMode.normal) = true := beq_iff_eq.mpr hmode
  rw [selects, (rotationEnded_sameScene b s).composer, hnormal, Bool.and_true, Bool.and_eq_true]
  refine and_congr_right fun hon => ⟨fun hnone => ?_, fun hends => ?_⟩
  · by_contra hgoes
    obtain ⟨h, p, -, hzone⟩ := rotationEnded_zone_goesOn (b := b) hmode hdefined hgoes
    rw [hzone] at hnone
    cases hnone
  · rw [rotationEnded_zone_ends hmode hdefined hon hends]
    rfl

/-- A zone that selects comes out of the ending stages emptied if it was resized, and without a showing. -/
theorem rotationEnded_selecting (hmode : s.composer.record.mode = .normal) (hdefined : s.rotation.ShowsDefined)
    (hselects : selects (rotationEnded b s) z = true) :
    (rotationEnded b s).rotation.zones[z] = { s.readied z with showing := none } := by
  obtain ⟨hon, hends⟩ := (selects_rotationEnded hmode hdefined).mp hselects
  exact rotationEnded_zone_ends hmode hdefined hon hends

end

/-! ### The spots (R124, R127) -/

theorem frameEnd_spot_gone {b : Bool} {s : State} (hmode : s.composer.record.mode = .normal) (hdefined : s.rotation.ShowsDefined) {i : Nat}
    {p : Spot} (hp : s.rotation.spot i = some p) (hw : p.withdrawing = true) (honAir : s.rotation.onAir i = true) :
    (frameEnd b s).1.rotation.spot i = none := by
  rw [frameEnd_spot]
  exact selectionStages_spot_none allZones (rotationEnded_spot_withdrawn hmode hdefined hp hw honAir)

theorem frameEnd_spot_none {b : Bool} {s : State} {i : Nat} (h : s.rotation.spot i = none) : (frameEnd b s).1.rotation.spot i = none := by
  rw [frameEnd_spot]
  exact selectionStages_spot_none allZones (((rotationEnded_step b s).spot i).1 h)

/-- A spot that stays keeps its definition, off air its totals too, and its showings rise by 1 if a zone begins one. -/
theorem frameEnd_spot_stays {b : Bool} {s : State} {i : Nat} {p : Spot} (hp : s.rotation.spot i = some p)
    (hstays : p.withdrawing = false ∨ s.rotation.onAir i = false) : ∃ q, (frameEnd b s).1.rotation.spot i = some q ∧
      q = { p with
        delivered := q.delivered
        saturated := q.saturated
        contractMet := q.contractMet
        showings := q.showings } ∧
      (s.rotation.onAir i = false →
        q.delivered = p.delivered ∧ q.saturated = p.saturated ∧ q.contractMet = p.contractMet) ∧
      ((∃ z : ZoneIx, selects (rotationEnded b s) z = true ∧ ((frameEnd b s).1.rotation.zones[z]).shows i = true) →
        q.showings = min 65535 (p.showings + 1)) ∧
      ((∀ z : ZoneIx, selects (rotationEnded b s) z = true → ((frameEnd b s).1.rotation.zones[z]).shows i = false) →
        q.showings = p.showings) := by
  obtain ⟨r, hr, haged, hoff⟩ := rotationEnded_spot_stays (b := b) hp hstays
  have hspot := selectionStages_spot allZones (rotationEnded b s) i allZones_nodup
  simp only [← frameEnd_zone, ← frameEnd_spot, hr, Option.map_some] at hspot
  have hshowings : r.showings = p.showings := by rw [haged]
  by_cases hbegun : ∃ z ∈ allZones, selects (rotationEnded b s) z = true ∧ ((frameEnd b s).1.rotation.zones[z]).shows i = true
  · rw [if_pos hbegun] at hspot
    refine ⟨_, hspot, ?_, fun h => ?_, fun _ => ?_, fun hnone => ?_⟩
    · rw [haged]
      rfl
    · rw [hoff h]
      exact ⟨rfl, rfl, rfl⟩
    · exact congrArg (fun n => min 65535 (n + 1)) hshowings
    · obtain ⟨z, -, hselects, hshows⟩ := hbegun
      exact Bool.noConfusion ((hnone z hselects).symm.trans hshows)
  · rw [if_neg hbegun] at hspot
    refine ⟨_, hspot, ?_, fun h => ?_, fun ⟨z, hz⟩ => absurd ⟨z, mem_allZones z, hz⟩ hbegun, fun _ => hshowings⟩
    · rw [haged]
    · rw [hoff h]
      exact ⟨rfl, rfl, rfl⟩

/-! ### The zone that selects (R125-R127) -/

section

variable {b : Bool} {s : State} {z : ZoneIx}

/-- A zone's selection at a FRAME_END: what the zone chose from, and in which state. -/
structure FrameSelection (b : Bool) (s : State) (z : ZoneIx) (t : State) : Prop where
  zone : t.rotation.zones[z] = { s.readied z with showing := none }
  selecting : selects t z = true
  fresh : ∀ (id : Nat) (sting overrun : Bool), t.fresh id sting overrun = s.fresh id sting overrun
  final : (frameEnd b s).1.rotation.zones[z] = (selectionStage z t).rotation.zones[z]
  onAir_iff : ∀ i, t.rotation.onAir i = true ↔ ∃ y : ZoneIx, y ≠ z ∧ (y < z ∨ selects (rotationEnded b s) y = false) ∧
    ((frameEnd b s).1.rotation.zones[y]).shows i = true
  isSome : ∀ i, (t.rotation.spot i).isSome = ((frameEnd b s).1.rotation.spot i).isSome
  eligible_iff : ∀ i, eligible t i = true ↔ ∃ p, (frameEnd b s).1.rotation.spot i = some p ∧ p.withdrawing = false ∧
    p.spotClass.matches s.clock.game.state = true ∧ t.rotation.onAir i = false
  owed_iff : ∀ i, owedSpot t i = true ↔ ∃ p, (frameEnd b s).1.rotation.spot i = some p ∧ p.delivered < p.contract * 76800

theorem exists_frameSelection (hmode : s.composer.record.mode = .normal) (hdefined : s.rotation.ShowsDefined)
    (hselects : selects (rotationEnded b s) z = true) : ∃ t, FrameSelection b s z t := by
  obtain ⟨t, ht⟩ := exists_selectionTurn z (rotationEnded b s)
  have hscene := rotationEnded_sameScene b s
  refine ⟨t, ?_, ht.selects.trans hselects, fun id sting overrun => ?_, ?_, fun i => ?_, fun i => ?_, fun i => ?_, fun i => ?_⟩
  · rw [ht.zone, rotationEnded_selecting hmode hdefined hselects]
  · rw [ht.scene.fresh, hscene.fresh]
  · rw [frameEnd_zone, ht.final]
  · simp only [frameEnd_zone]
    exact ht.onAir_iff hselects
  · rw [frameEnd_spot]
    exact ht.isSome i
  · rw [frameEnd_spot, ht.eligible_iff, hscene.clock]
  · rw [frameEnd_spot]
    exact ht.owed_iff

/-- What the zone chose is told from its items as a resize leaves them. -/
theorem FrameSelection.chose {t : State} (h : FrameSelection b s z t) {g : Option Showing} {c : Int}
    (hc : (t.rotation.zones[z]).Chose (selectionStage z t).rotation.zones[z] g c) :
    (frameEnd b s).1.rotation.zones[z] = { s.readied z with cursor := c, stingPending := false, showing := g } := by
  rw [h.final, hc, h.zone]

theorem FrameSelection.kept {t : State} (h : FrameSelection b s z t) :
    ((frameEnd b s).1.rotation.zones[z]).rotation = (s.readied z).rotation ∧
      ((frameEnd b s).1.rotation.zones[z]).sting = (s.readied z).sting ∧
      ((frameEnd b s).1.rotation.zones[z]).stingPending = false := by
  rcases selectionStage_cases z t with ⟨hidle, -⟩ | ⟨-, hrests | ⟨_, _, _, _, hbegins⟩⟩
  · exact Bool.noConfusion (hidle.symm.trans h.selecting)
  · rw [h.chose (hrests.chose (selects_spec h.selecting))]
    exact ⟨rfl, rfl, rfl⟩
  · rw [h.chose hbegins.chose]
    exact ⟨rfl, rfl, rfl⟩

theorem FrameSelection.sting {t : State} (h : FrameSelection b s z t) {i : Nat} (hpending : (s.readied z).stingPending = true)
    (hsting : (s.readied z).sting = some i) (hoff : ¬ t.rotation.onAir i = true)
    (hdefined : ((frameEnd b s).1.rotation.spot i).isSome = true) :
    ((frameEnd b s).1.rotation.zones[z]).showing = some (s.fresh i true false) ∧
      ((frameEnd b s).1.rotation.zones[z]).cursor = (s.readied z).cursor := by
  have hbegins := selectionStage_sting h.selecting (by rw [h.zone]; exact hpending) (by rw [h.zone]; exact hsting)
    (Bool.eq_false_iff.mpr hoff) ((h.isSome i).trans hdefined)
  rw [h.fresh] at hbegins
  rw [h.chose hbegins.chose, h.zone]
  exact ⟨rfl, rfl⟩

theorem FrameSelection.passes {t : State} (h : FrameSelection b s z t)
    (hsting : (s.readied z).stingPending = false ∨
      ∀ i, (s.readied z).sting = some i → t.rotation.onAir i = true ∨ (frameEnd b s).1.rotation.spot i = none) :
    (∀ k, k < (s.readied z).rotation.length → eligible t ((s.readied z).visited k) = true → owedSpot t ((s.readied z).visited k) = true →
      (∀ j, j < k → ¬ (eligible t ((s.readied z).visited j) = true ∧ owedSpot t ((s.readied z).visited j) = true)) →
      ((frameEnd b s).1.rotation.zones[z]).showing = some (s.fresh ((s.readied z).visited k) false false) ∧
        ((frameEnd b s).1.rotation.zones[z]).cursor = (s.readied z).place k) ∧
    (∀ k, k < (s.readied z).rotation.length → eligible t ((s.readied z).visited k) = true →
      (∀ j, j < (s.readied z).rotation.length →
        ¬ (eligible t ((s.readied z).visited j) = true ∧ owedSpot t ((s.readied z).visited j) = true)) →
      (∀ j, j < k → ¬ eligible t ((s.readied z).visited j) = true) →
      ((frameEnd b s).1.rotation.zones[z]).showing = some (s.fresh ((s.readied z).visited k) false true) ∧
        ((frameEnd b s).1.rotation.zones[z]).cursor = (s.readied z).place k) ∧
    ((∀ k, k < (s.readied z).rotation.length → ¬ eligible t ((s.readied z).visited k) = true) →
      ((frameEnd b s).1.rotation.zones[z]).showing = none ∧ ((frameEnd b s).1.rotation.zones[z]).cursor = (s.readied z).cursor) := by
  have hchose := selectionStage_passes_chose (z := z) h.selecting (hsting.imp (fun hp => by rw [h.zone]; exact hp) fun hi id hid => by
    rw [h.zone] at hid
    refine (hi id hid).imp_right fun hnone => ?_
    rw [← Option.not_isSome_iff_eq_none, h.isSome, hnone]
    exact Bool.false_ne_true)
  have hvisited : ∀ k, (t.rotation.zones[z]).visited k = (s.readied z).visited k := fun k => by
    rw [h.zone]
    rfl
  have hplace : ∀ k, (t.rotation.zones[z]).place k = (s.readied z).place k := fun k => by
    rw [h.zone]
    rfl
  have hlength : (t.rotation.zones[z]).rotation.length = (s.readied z).rotation.length := by rw [h.zone]
  have hcursor : (t.rotation.zones[z]).cursor = (s.readied z).cursor := by rw [h.zone]
  simp only [hvisited, hplace, hlength, hcursor, h.fresh, ← Bool.not_eq_true, Bool.and_eq_true] at hchose
  obtain ⟨howed, hoverrun, hnone⟩ := hchose
  refine ⟨fun k hk he ho hf => ?_, fun k hk he hn hf => ?_, fun hn => ?_⟩
  · rw [h.chose (howed k hk he ho hf)]
    exact ⟨rfl, rfl⟩
  · rw [h.chose (hoverrun k hk he hn hf)]
    exact ⟨rfl, rfl⟩
  · rw [h.chose (hnone hn)]
    exact ⟨rfl, rfl⟩

end

end Sys2Proof.Machine
end

section
/-! PROOFS. FRAME_END as the work of its sources: what it changes, the showings, and the ticker's cuts and taking (R11, R104, R121-R127,
R156, R159, R160). -/

namespace Sys2Proof.Machine

/-! ### What a FRAME_END changes -/

theorem keptByRecords_readMark (m : Word) : KeptByRecords fun t => t.exposure.readMark = m where
  rotation := by
    rintro s t ⟨_, rfl⟩ h
    exact h
  flag c f s h := by
    rw [(raiseIf_log c f s).1]
    exact h
  record z reason saturated g s h := by
    unfold offerRecord
    split
    · exact h
    · exact h

theorem frameEnd_readMark (b : Bool) (s : State) : (frameEnd b s).1.exposure.readMark = s.exposure.readMark := by
  refine (keptByRecords_readMark s.exposure.readMark).frameEnd ?_ ?_ (fun _ h => h) b rfl
  · rintro s t ⟨_, _, _, rfl⟩ h
    exact h
  · rintro s t ⟨_, _, rfl⟩ h
    exact h

theorem frameEnd_eq (b : Bool) (s : State) : (frameEnd b s).1 = { s with
    timing := { s.timing with blanking := true }
    panel := { lineBuffer := [], fetchAt := 0, late := [] }
    score := { s.score with homeFlash := s.score.homeFlash - 1, guestFlash := s.score.guestFlash - 1 }
    intake := (frameEnd b s).1.intake
    roller := (frameEnd b s).1.roller
    rotation := (frameEnd b s).1.rotation
    exposure := { s.exposure with
      nextRecord := (frameEnd b s).1.exposure.nextRecord, missed := (frameEnd b s).1.exposure.missed }
    ticker := (frameEnd b s).1.ticker
    memctl := { s.memctl with
      queue := (frameEnd b s).1.memctl.queue, waitExposure := (frameEnd b s).1.memctl.waitExposure }
    command := { s.command with flags := (frameEnd b s).1.command.flags } } := by
  have hread := frameEnd_readMark b s
  obtain ⟨n, o, r, e, k, f, q, w, h⟩ := frameEnd_frame b s
  generalize (frameEnd b s).1 = u at hread h ⊢
  subst h
  obtain ⟨next, read, missed⟩ := e
  obtain rfl : read = s.exposure.readMark := hread
  rfl

/-! ### The ticker's last two steps (R159, R160) -/

section

variable {w : State} {z : ZoneRecord}

/-- With the wall free the first waiting entry that may show is taken. -/
theorem tickerTaking_found {before after : List TickerEntry} {e : TickerEntry} (hnone : w.ticker.showing = none)
    (hz : w.tickerZone = some z) (hwaiting : w.ticker.waiting = before ++ e :: after)
    (hbefore : ∀ y ∈ before, ¬ y.eligible w.clock.game.state = true) (hmay : e.eligible w.clock.game.state = true) :
    (tickerTaking w).ticker = { w.ticker with
      waiting := before ++ after
      showing := some { entry := e, position := 32 * (z.desc.w.toNat : Int), lastPass := false, cancel := none } } := by
  have hfind : w.ticker.waiting.find? (fun e => e.eligible w.clock.game.state) = some e := by
    rw [hwaiting, List.find?_append, List.find?_eq_none.mpr hbefore, Option.none_or, List.find?_cons, hmay]
  have hout : e ∉ before := fun he => hbefore e he hmay
  rw [tickerTaking, hnone, hz]
  dsimp only
  rw [hfind, hwaiting]
  dsimp only
  rw [List.erase_append_right _ hout, List.erase_cons_head]

theorem tickerTaking_nothing (hnone : w.ticker.showing = none) (hz : w.tickerZone = some z)
    (h : ∀ e ∈ w.ticker.waiting, ¬ e.eligible w.clock.game.state = true) : tickerTaking w = w := by
  rw [tickerTaking, hnone, hz]
  dsimp only
  rw [List.find?_eq_none.mpr h]

/-- An entry that may not stay, or that a waiting urgent one displaces, is returned to the waiting ones. -/
theorem tickerCuts_returns {x : ShowingEntry} (hx : w.ticker.showing = some x)
    (hcut : ¬ x.entry.eligible w.clock.game.state = true ∨
      (x.entry.priority < 3 ∧ ∃ e ∈ w.ticker.waiting, e.priority = 3 ∧ e.eligible w.clock.game.state = true)) :
    tickerCuts w = returnShowing x w := by
  rw [tickerCuts, hx]
  refine if_pos ?_
  rw [Bool.or_eq_true, Bool.not_eq_true', Bool.and_eq_true, decide_eq_true_iff]
  refine hcut.imp Bool.eq_false_iff.mpr fun ⟨hlow, e, he, hurgent, hmay⟩ => ⟨hlow, ?_⟩
  exact List.any_eq_true.mpr ⟨e, he, Bool.and_eq_true_iff.mpr ⟨beq_iff_eq.mpr hurgent, hmay⟩⟩

end

/-- What the taking step leaves of a list of waiting entries with the wall free. -/
def TakenFrom (g : GameState) (z : ZoneRecord) (k : TickerUnit) (l : List TickerEntry) : Prop :=
  (∀ before e after, l = before ++ e :: after → (∀ y ∈ before, ¬ y.eligible g = true) → e.eligible g = true →
    k.waiting = before ++ after ∧
    k.showing = some { entry := e, position := 32 * (z.desc.w.toNat : Int), lastPass := false, cancel := none }) ∧
  ((∀ e ∈ l, ¬ e.eligible g = true) → k.waiting = l ∧ k.showing = none)

theorem tickerTaking_takenFrom {w : State} {z : ZoneRecord} (hnone : w.ticker.showing = none) (hz : w.tickerZone = some z) :
    TakenFrom w.clock.game.state z (tickerTaking w).ticker w.ticker.waiting ∧
      (tickerTaking w).ticker = { w.ticker with waiting := (tickerTaking w).ticker.waiting, showing := (tickerTaking w).ticker.showing } := by
  refine ⟨⟨fun before e after hwaiting hbefore hmay => ?_, fun h => ?_⟩, (tickerTaking_taken hnone).frame⟩
  · rw [tickerTaking_found hnone hz hwaiting hbefore hmay]
    exact ⟨rfl, rfl⟩
  · rw [tickerTaking_nothing hnone hz h]
    exact ⟨rfl, hnone⟩

/-! ### The ticker's frame work without an expiry, a cancel or a pass end -/

section

variable {t : State} {k : TickerUnit} {v : Word} {g : GameState} {r : FrameRecord} {z : ZoneRecord}

theorem tickerFrameWork_takes (hreads : TickerReads t k v g r) (hz : r.zoneOn .ticker = some z) (hnone : k.showing = none)
    (hfresh : ∀ e ∈ k.waiting, e.expired v = false) : TakenFrom g z (tickerFrameWork t).1.ticker k.waiting ∧
      (tickerFrameWork t).1.ticker =
        { k with waiting := (tickerFrameWork t).1.ticker.waiting, showing := (tickerFrameWork t).1.ticker.showing } := by
  obtain ⟨rfl, rfl, rfl, rfl⟩ := hreads
  have hcancels : tickerCancels t = t := tickerCancels_none fun y hy => nomatch hnone.symm.trans hy
  have hwork : (tickerFrameWork t).1 = tickerTaking t := by
    rw [tickerFrameWork_fst, hcancels, tickerExpiry_of_none_expired hfresh, expireShowing_none hnone, tickerAdvance_none hnone,
      tickerCuts_none hnone]
  rw [hwork]
  exact tickerTaking_takenFrom hnone hz

/-- The showing entry with its position advanced, if the ticker crawls. -/
theorem tickerAdvance_to {x : ShowingEntry} (hx : t.ticker.showing = some x) (hz : t.tickerZone = some z)
    (hwall : crawlZone t.composer.record z = true → 0 < x.position - t.ticker.speed + 16 * (x.entry.text.length : Int)) {p : Int}
    (hp : p = if crawlZone t.composer.record z = true then x.position - t.ticker.speed else x.position) :
    (tickerAdvance t).1 = setShowing (some { x with position := p }) t := by
  subst hp
  by_cases hcrawl : crawlZone t.composer.record z = true
  · rw [tickerAdvance_moves hx hz hcrawl (hwall hcrawl), if_pos hcrawl]
  · have hstill : ¬ ∃ z', t.tickerZone = some z' ∧ crawlZone t.composer.record z' = true := by
      rintro ⟨z', hz', hcrawl'⟩
      obtain rfl := Option.some.inj (hz.symm.trans hz')
      exact hcrawl hcrawl'
    rw [tickerAdvance_still hstill, if_neg hcrawl, setShowing, ← hx]

/-- An entry that is not displaced crawls on; one that is displaced rejoins the waiting ones, and another may be taken. -/
theorem tickerFrameWork_shows {x : ShowingEntry} (hreads : TickerReads t k v g r) (hz : r.zoneOn .ticker = some z)
    (hfresh : ∀ e ∈ k.waiting, e.expired v = false) (hx : k.showing = some x) (hcancel : x.cancel = none) (hpass : x.lastPass = false)
    (hexpired : x.entry.expired v = false)
    (hwall : crawlZone r z = true → 0 < x.position - k.speed + 16 * (x.entry.text.length : Int)) {p : Int}
    (hp : p = if crawlZone r z = true then x.position - k.speed else x.position) :
    (x.entry.eligible g = true → (3 ≤ x.entry.priority ∨ ∀ e ∈ k.waiting, e.priority = 3 → ¬ e.eligible g = true) →
      (tickerFrameWork t).1.ticker = { k with showing := some { x with position := p } }) ∧
    (¬ x.entry.eligible g = true ∨ (x.entry.priority < 3 ∧ ∃ e ∈ k.waiting, e.priority = 3 ∧ e.eligible g = true) →
      TakenFrom g z (tickerFrameWork t).1.ticker (insertWaiting k.nextOrder { x.entry with order := k.nextOrder } k.waiting) ∧
      (tickerFrameWork t).1.ticker = { k with
        waiting := (tickerFrameWork t).1.ticker.waiting
        showing := (tickerFrameWork t).1.ticker.showing
        nextOrder := k.nextOrder + 1 }) := by
  obtain ⟨rfl, rfl, rfl, rfl⟩ := hreads
  have hcancels : tickerCancels t = t := tickerCancels_none fun y hy => by
    cases hx.symm.trans hy
    exact hcancel
  have hwork : (tickerFrameWork t).1 = tickerTaking (tickerCuts (setShowing (some { x with position := p }) t)) := by
    rw [tickerFrameWork_fst, hcancels, tickerExpiry_of_none_expired hfresh, expireShowing_fresh hx hpass hexpired,
      tickerAdvance_to hx hz hwall hp]
  rw [hwork]
  refine ⟨fun hmay hurgent => ?_, fun hcut => ?_⟩
  · have hurgent' : 3 ≤ x.entry.priority ∨ ∀ e ∈ t.ticker.waiting, e.priority = 3 → e.eligible t.clock.game.state = false :=
      hurgent.imp_right fun h e he hprio => Bool.eq_false_iff.mpr (h e he hprio)
    rw [taking_of_stays (y := { x with position := p }) hmay hurgent']
    rfl
  · rw [tickerCuts_returns (w := setShowing (some { x with position := p }) t) rfl hcut]
    have htaken := tickerTaking_takenFrom
      (w := returnShowing { x with position := p } (setShowing (some { x with position := p }) t)) (z := z) rfl hz
    exact htaken

end

end Sys2Proof.Machine
end

section
/-! PROOFS. FRAME_END works the sources (R11, R104, R121-R127, R156, R159, R160). -/

namespace Sys2Proof.Machine

/-! ### The terms of the statement -/

section

variable {b : Bool} {s : State} {z : ZoneIx}

/-- A zone's showings end, in the figures of the frame record and of the showing. -/
theorem zoneEnds_iff (hmode : s.composer.record.mode = .normal) (hon : (s.composer.record.zones[z]).desc.isOn .sponsor = true) :
    s.ZoneEnds z ↔ ∀ h p, (s.rotation.zones[z]).showing = some h → s.rotation.spot h.spotId = some p →
      (s.composer.record.zones[z]).changed = true ∨ (s.readied z).stingPending = true ∨
        (h.sting = false ∧ ¬ ((p.spotClass = .runningOnly → s.clock.game.state = .running) ∧
          (p.spotClass = .stoppedOnly → s.clock.game.state ≠ .running))) ∨ p.withdrawing = true ∨ p.dwell ≤ h.countedFrames ∨
        (((s.composer.record.zones[z]).inLeadIn = false ∧
            p.minVisible * ((s.composer.record.zones[z]).desc.w.toNat * (s.composer.record.zones[z]).desc.h.toNat) ≤
              (s.composer.record.zones[z]).visible * 100) ∧ p.dwell ≤ h.countedFrames + 1) ∨ 4 * p.dwell ≤ h.framesOnAir + 1 := by
  have hplan : planEnds s.composer.record.zones[z] = (s.composer.record.zones[z]).changed := by
    rw [planEnds, hon, Bool.not_true, Bool.or_false]
  refine forall₂_congr fun h p => imp_congr_right fun _ => imp_congr_right fun _ => ?_
  rw [readyCause_ne_none, hplan, matches_iff, State.counts_normal hmode, Bool.and_eq_true, Bool.not_eq_true', decide_eq_true_iff]

/-- What is on air elsewhere when a zone selects, and which spots it may begin. -/
theorem FrameSelection.fits_iff {t : State} (h : FrameSelection b s z t) (i : Nat) : eligible t i = true ↔
    ∃ p, (frameEnd b s).1.rotation.spot i = some p ∧ p.withdrawing = false ∧
      ((p.spotClass = .runningOnly → s.clock.game.state = .running) ∧ (p.spotClass = .stoppedOnly → s.clock.game.state ≠ .running)) ∧
      ¬ ∃ y : ZoneIx, y ≠ z ∧ (y < z ∨ ¬ selects (rotationEnded b s) y = true) ∧
        ((frameEnd b s).1.rotation.zones[y]).shows i = true := by
  simp only [h.eligible_iff, matches_iff, Bool.not_eq_true, ← h.onAir_iff]

theorem FrameSelection.elsewhere_iff {t : State} (h : FrameSelection b s z t) (i : Nat) : t.rotation.onAir i = true ↔
    ∃ y : ZoneIx, y ≠ z ∧ (y < z ∨ ¬ selects (rotationEnded b s) y = true) ∧ ((frameEnd b s).1.rotation.zones[y]).shows i = true := by
  simp only [Bool.not_eq_true, h.onAir_iff]

/-- A zone that is no enabled SPONSOR zone of the frame record is left bare. -/
theorem frameEnd_zone_off (hmode : s.composer.record.mode = .normal)
    (hoff : ¬ (s.composer.record.zones[z]).desc.isOn .sponsor = true) : (frameEnd b s).1.rotation.zones[z] = .bare := by
  rw [frameEnd_zone]
  exact selectionStages_bare allZones (rotationEnded_zone_off hmode (Bool.eq_false_iff.mpr hoff))

/-- A showing that goes on has one frame more on air. -/
theorem frameEnd_zone_goesOn (hmode : s.composer.record.mode = .normal) (hdefined : s.rotation.ShowsDefined) (hends : ¬ s.ZoneEnds z) :
    ∃ h g, (s.rotation.zones[z]).showing = some h ∧ (frameEnd b s).1.rotation.zones[z] = { s.readied z with showing := some g } ∧
      g = { h with framesOnAir := h.framesOnAir + 1, countedFrames := g.countedFrames, credit := g.credit } := by
  obtain ⟨h, p, hh, hzone⟩ := rotationEnded_zone_goesOn (b := b) hmode hdefined hends
  refine ⟨h, s.accountedShowing z p h, hh, ?_, rfl⟩
  have hshowing : ((rotationEnded b s).rotation.zones[z]).showing = some (s.accountedShowing z p h) := by rw [hzone]
  rw [frameEnd_zone, selectionStages_zone_showing allZones hshowing, hzone]

end

/-! ### The ticker (R159, R160) -/

section

variable {b : Bool} {s : State} {z : ZoneRecord}

theorem frameEnd_ticker_takes (hz : s.tickerZone = some z) (hfresh : ∀ e ∈ s.ticker.waiting, e.expired s.clock.venue = false)
    (hnone : s.ticker.showing = none) : TakenFrom s.clock.game.state z (frameEnd b s).1.ticker s.ticker.waiting ∧
      (frameEnd b s).1.ticker =
        { s.ticker with waiting := (frameEnd b s).1.ticker.waiting, showing := (frameEnd b s).1.ticker.showing } := by
  have hstep := tickerStep_rotationWorked b s
  rw [hstep.ticker]
  exact tickerFrameWork_takes hstep.reads hz hnone hfresh

theorem frameEnd_ticker_shows {x : ShowingEntry} (hz : s.tickerZone = some z)
    (hfresh : ∀ e ∈ s.ticker.waiting, e.expired s.clock.venue = false) (hx : s.ticker.showing = some x) (hcancel : x.cancel = none)
    (hpass : x.lastPass = false) (hexpired : x.entry.expired s.clock.venue = false) {p : Int}
    (hp : p = if crawlZone s.composer.record z = true then x.position - s.ticker.speed else x.position)
    (hwall : crawlZone s.composer.record z = true → 0 < p + 16 * (x.entry.text.length : Int)) :
    (x.entry.eligible s.clock.game.state = true →
      (3 ≤ x.entry.priority ∨ ∀ e ∈ s.ticker.waiting, e.priority = 3 → ¬ e.eligible s.clock.game.state = true) →
      (frameEnd b s).1.ticker = { s.ticker with showing := some { x with position := p } }) ∧
    (¬ x.entry.eligible s.clock.game.state = true ∨
        (x.entry.priority < 3 ∧ ∃ e ∈ s.ticker.waiting, e.priority = 3 ∧ e.eligible s.clock.game.state = true) →
      TakenFrom s.clock.game.state z (frameEnd b s).1.ticker
        (insertWaiting s.ticker.nextOrder { x.entry with order := s.ticker.nextOrder } s.ticker.waiting) ∧
      (frameEnd b s).1.ticker = { s.ticker with
        waiting := (frameEnd b s).1.ticker.waiting
        showing := (frameEnd b s).1.ticker.showing
        nextOrder := s.ticker.nextOrder + 1 }) := by
  have hstep := tickerStep_rotationWorked b s
  rw [hstep.ticker]
  refine tickerFrameWork_shows hstep.reads hz hfresh hx hcancel hpass hexpired (fun hcrawl => ?_) hp
  have hwall' := hwall hcrawl
  rw [hp, if_pos hcrawl] at hwall'
  exact hwall'

end

/-- Settles O35, from what a FRAME_END leaves of each zone and spot and from the ticker's cuts and taking. -/
theorem frameEndWorksTheSources : Obligations.FrameEndWorksTheSources := by
  unfold Obligations.FrameEndWorksTheSources
  refine ⟨fun b s hrun hscan => ⟨_, exec_frameEnd b hrun hscan, frameEnd_eq b s⟩, ?_, ?_⟩
  · intro b s hrun hscan hmode hdefined record sponsor old suits counts ends selects
    have hsponsor : ∀ z, sponsor z ↔ (s.composer.record.zones[z]).desc.isOn .sponsor = true := fun z => isOn_sponsor_iff.symm
    have hends : ∀ z, sponsor z → (ends z ↔ s.ZoneEnds z) := fun z hz => (zoneEnds_iff hmode ((hsponsor z).mp hz)).symm
    have hselects : ∀ z, selects z ↔ Machine.selects (rotationEnded b s) z = true := fun z => by
      rw [selects_rotationEnded hmode hdefined, ← hsponsor z]
      exact and_congr_right (hends z)
    refine ⟨_, exec_frameEnd b hrun hscan, fun z hz => ?_, fun z hz hgoes => ?_, fun z hz => ?_, fun i => ?_⟩
    · exact frameEnd_zone_off hmode fun hon => hz ((hsponsor z).mpr hon)
    · exact frameEnd_zone_goesOn hmode hdefined fun h => hgoes ((hends z hz).mpr h)
    · obtain ⟨t, ht⟩ := exists_frameSelection hmode hdefined ((hselects z).mp hz)
      obtain ⟨hrotation, hsting, hpending⟩ := ht.kept
      intro x v n place id elsewhere fits owed begun
      have helsewhere : ∀ i, elsewhere i ↔ t.rotation.onAir i = true := fun i => by
        rw [ht.elsewhere_iff]
        simp only [elsewhere, hselects]
      have hfits : ∀ k, fits k ↔ eligible t ((s.readied z).visited k) = true := fun k => by
        rw [ht.fits_iff]
        simp only [fits, elsewhere, hselects]
        rfl
      have howed : ∀ k, owed k ↔ owedSpot t ((s.readied z).visited k) = true := fun k => (ht.owed_iff _).symm
      refine ⟨hrotation, hsting, hpending, fun i hp hi hoff hdef => ?_, fun hpass => ?_⟩
      · exact ht.sting hp hi (fun h => hoff ((helsewhere i).mpr h)) hdef
      · have hpasses := ht.passes (hpass.imp_right fun h i hi => (h i hi).imp_left (helsewhere i).mp)
        simp only [← hfits, ← howed] at hpasses
        exact hpasses
    · refine ⟨frameEnd_spot_none, fun p hp => ⟨frameEnd_spot_gone hmode hdefined hp, fun hstays => ?_⟩⟩
      simp only [hselects]
      exact frameEnd_spot_stays hp hstays
  · intro b s z hrun hscan hz hfresh may taken
    refine ⟨fun hnone => ⟨_, exec_frameEnd b hrun hscan, frameEnd_ticker_takes hz hfresh hnone⟩, ?_⟩
    intro x hx hcancel hpass hexpired seenWhole position hwall
    have hseen : seenWhole = crawlZone s.composer.record z := by
      rw [Bool.eq_iff_iff, crawlZone_iff]
      simp only [seenWhole, Bool.and_eq_true, decide_eq_true_iff, Bool.not_eq_true', and_assoc]
    have hposition : position = if crawlZone s.composer.record z = true then x.position - s.ticker.speed else x.position := by
      rw [← hseen]
    rw [hseen] at hwall
    obtain ⟨hstays, hcut⟩ := frameEnd_ticker_shows (b := b) hz hfresh hx hcancel hpass hexpired hposition hwall
    refine ⟨fun hmay hurgent => ⟨_, exec_frameEnd b hrun hscan, hstays hmay hurgent⟩, fun h => ?_⟩
    obtain ⟨before, after, hsplit, hbefore, hafter, hinsert⟩ :=
      insertWaiting_split { x.entry with order := s.ticker.nextOrder } s.ticker.waiting
    obtain ⟨htaken, hframe⟩ := hcut h
    have hinsert' : insertWaiting s.ticker.nextOrder { x.entry with order := s.ticker.nextOrder } s.ticker.waiting =
        before ++ { x.entry with order := s.ticker.nextOrder } :: after := hinsert
    rw [hinsert'] at htaken
    exact ⟨_, before, after, exec_frameEnd b hrun hscan, hsplit, hbefore, hafter, htaken, hframe⟩

end Sys2Proof.Machine
end

section
/-! PROOFS. Where each group of the status block stands, and its fields as the host reads them back (R185, R186, Table 11.8). -/

namespace Sys2Proof.Machine

/-! ### Groups of fields and their offsets -/

/-- A group of fields of the status block begins at an offset. -/
def StandsAt (s : State) (o : Nat) (g : List StatusField) : Prop :=
  ∃ before after, statusFields s = before ++ g ++ after ∧ fieldsSize before = o

section

variable {s : State} {o : Nat} {g h : List StatusField}

theorem StandsAt.head (hg : StandsAt s o (g ++ h)) : StandsAt s o g := by
  obtain ⟨before, after, heq, hsize⟩ := hg
  exact ⟨before, h ++ after, by rw [heq]; simp only [List.append_assoc], hsize⟩

theorem StandsAt.tail {n : Nat} (hg : StandsAt s o (g ++ h)) (hn : fieldsSize g = n) : StandsAt s (o + n) h := by
  obtain ⟨before, after, heq, hsize⟩ := hg
  refine ⟨before ++ g, after, by rw [heq]; simp only [List.append_assoc], ?_⟩
  rw [fieldsSize_append, hsize, hn]

/-- The k-th of groups of one size. -/
theorem StandsAt.group {α : Type} {f : α → List StatusField} {n k : Nat} {l : List α} {a : α} (hg : StandsAt s o (l.flatMap f))
    (hn : ∀ a, fieldsSize (f a) = n) (hk : l[k]? = some a) : StandsAt s (o + n * k) (f a) := by
  obtain ⟨hlt, hget⟩ := List.getElem?_eq_some_iff.mp hk
  have hsplit : l = l.take k ++ a :: l.drop (k + 1) := by
    rw [← hget, ← List.drop_eq_getElem_cons hlt, List.take_append_drop]
  rw [hsplit, List.flatMap_append, List.flatMap_cons] at hg
  refine (hg.tail ?_).head
  rw [fieldsSize_flatMap f n hn, List.length_take_of_le hlt.le, Nat.mul_comm]

/-- A field's bytes as they stand in the block. -/
theorem StandsAt.bytes {f : StatusField} (hg : StandsAt s o (f :: g)) :
    ((statusBytes s).drop o).take f.size = f.bytes s.timing.frameNumber.toNat o := by
  obtain ⟨before, after, heq, rfl⟩ := hg
  rw [statusBytes, heq, List.append_assoc, List.cons_append]
  exact fieldBytes_field _ before _ f

theorem StandsAt.rest {f : StatusField} (hg : StandsAt s o (f :: g)) : StandsAt s (o + f.size) g :=
  StandsAt.tail (g := [f]) hg (by simp)

end

/-- What the host reads of a group's fields from an offset on: each number, and the byte a field with unstated bits makes. -/
def Reads (s : State) : Nat → List StatusField → Prop
  | _, [] => True
  | o, .num n v :: rest => ofLeBytes (((statusBytes s).drop o).take n) = v % 256 ^ n ∧ Reads s (o + n) rest
  | o, .unstated n :: rest => Reads s (o + n) rest
  | o, .partly v mask :: rest =>
    ((statusBytes s).drop o).take 1 = [partlyFree s.timing.frameNumber.toNat o v mask] ∧ Reads s (o + 1) rest

theorem StandsAt.reads {s : State} : ∀ {g : List StatusField} {o : Nat}, StandsAt s o g → Reads s o g
  | [], _, _ => trivial
  | .num n v :: _, _, h => ⟨(congrArg ofLeBytes h.bytes).trans (ofLeBytes_leBytes n v), h.rest.reads⟩
  | .unstated _ :: _, _, h => h.rest.reads
  | .partly _ _ :: _, _, h => ⟨h.bytes, h.rest.reads⟩

/-! ### The groups of Table 11.8 -/

/-- Where each group stands. -/
structure StatusLayout (s : State) : Prop where
  head : StandsAt s 0x000 (.num 4 s.timing.frameNumber.toNat :: headFields s)
  clock : StandsAt s 0x020 (clockFields s)
  channels : StandsAt s 0x040 ((List.finRange 4).flatMap fun c => channelFields s.console.channels[c])
  score : StandsAt s 0x0C0 (scoreFields s.score)
  replay : StandsAt s 0x0D0 (replayFields s)
  slots : StandsAt s 0x100 ((List.range 64).flatMap (slotFields s))
  ticker : StandsAt s 0x300 (tickerFields s.ticker)
  sponsors : StandsAt s 0x310 ((List.range 4).flatMap (sponsorRecord s))
  log : StandsAt s 0x350 (logFields s.exposure)
  spots : StandsAt s 0x360 ((List.range 48).flatMap (spotFields s))
  zones : StandsAt s 0x660 (allZones.flatMap (zoneFields s))

theorem headFields_size (s : State) : fieldsSize (.num 4 s.timing.frameNumber.toNat :: headFields s) = 0x020 := by
  simp [headFields, StatusField.size]

theorem clockFields_size (s : State) : fieldsSize (clockFields s) = 0x020 := by
  simp [clockFields, markFields, StatusField.size]

theorem channels_size (s : State) : fieldsSize ((List.finRange 4).flatMap fun c => channelFields s.console.channels[c]) = 0x080 := by
  rw [fieldsSize_flatMap _ 32 fun c => channelFields_size _, List.length_finRange]

theorem scoreFields_size (u : ScoreUnit) : fieldsSize (scoreFields u) = 0x010 := rfl

theorem replayFields_size (s : State) : fieldsSize (replayFields s) = 0x030 := by
  simp [replayFields, StatusField.size]

theorem slots_size (s : State) : fieldsSize ((List.range 64).flatMap (slotFields s)) = 0x200 := by
  rw [fieldsSize_flatMap _ 8 (slotFields_size s), List.length_range]

theorem sponsors_size (s : State) : fieldsSize ((List.range 4).flatMap (sponsorRecord s)) = 0x040 := by
  rw [fieldsSize_flatMap _ 16 (sponsorRecord_size s), List.length_range]

theorem logFields_size (e : ExposureCounter) : fieldsSize (logFields e) = 0x010 := rfl

theorem spots_size (s : State) : fieldsSize ((List.range 48).flatMap (spotFields s)) = 0x300 := by
  rw [fieldsSize_flatMap _ 16 (spotFields_size s), List.length_range]

/-- The groups one after another. -/
theorem statusFields_groups (s : State) : statusFields s = (.num 4 s.timing.frameNumber.toNat :: headFields s) ++ (clockFields s ++
    (((List.finRange 4).flatMap fun c => channelFields s.console.channels[c]) ++ (scoreFields s.score ++ (replayFields s ++
      (((List.range 64).flatMap (slotFields s)) ++ (tickerFields s.ticker ++ (((List.range 4).flatMap (sponsorRecord s)) ++
        (logFields s.exposure ++ (((List.range 48).flatMap (spotFields s)) ++ allZones.flatMap (zoneFields s)))))))))) := by
  simp only [statusFields, List.append_assoc, List.nil_append, List.cons_append]

theorem standsAt_statusFields (s : State) : StandsAt s 0 (statusFields s) := ⟨[], [], (List.append_nil _).symm, rfl⟩

theorem statusLayout (s : State) : StatusLayout s := by
  have head := standsAt_statusFields s
  rw [statusFields_groups] at head
  have clock := head.tail (headFields_size s)
  have channels := clock.tail (clockFields_size s)
  have score := channels.tail (channels_size s)
  have replay := score.tail (scoreFields_size s.score)
  have slots := replay.tail (replayFields_size s)
  have ticker := slots.tail (slots_size s)
  have sponsors := ticker.tail (tickerFields_size s.ticker)
  have log := sponsors.tail (sponsors_size s)
  have spots := log.tail (logFields_size s.exposure)
  have zones := spots.tail (spots_size s)
  exact
    { head := head.head
      clock := clock.head
      channels := channels.head
      score := score.head
      replay := replay.head
      slots := slots.head
      ticker := ticker.head
      sponsors := sponsors.head
      log := log.head
      spots := spots.head
      zones := zones }

theorem StatusLayout.channel {s : State} (h : StatusLayout s) (n : Fin 4) :
    StandsAt s (0x040 + 32 * n.val) (channelFields s.console.channels[n]) :=
  h.channels.group (fun _ => channelFields_size _) (by simp)

theorem StatusLayout.slot {s : State} (h : StatusLayout s) {k : Nat} (hk : k < 64) : StandsAt s (0x100 + 8 * k) (slotFields s k) :=
  h.slots.group (slotFields_size s) (List.getElem?_range hk)

theorem StatusLayout.sponsor {s : State} (h : StatusLayout s) {j : Nat} (hj : j < 4) : StandsAt s (0x310 + 16 * j) (sponsorRecord s j) :=
  h.sponsors.group (sponsorRecord_size s) (List.getElem?_range hj)

theorem StatusLayout.spot {s : State} (h : StatusLayout s) {j : Nat} (hj : j < 48) : StandsAt s (0x360 + 16 * j) (spotFields s j) :=
  h.spots.group (spotFields_size s) (List.getElem?_range hj)

theorem allZones_getElem? (z : ZoneIx) : allZones[z.val]? = some z := by
  revert z
  decide

theorem StatusLayout.zone {s : State} (h : StatusLayout s) (z : ZoneIx) : StandsAt s (0x660 + 4 * z.val) (zoneFields s z) :=
  h.zones.group (fun _ => rfl) (allZones_getElem? z)

/-! ### Groups with parts that depend on the state -/

/-- A capture record as the host reads it. -/
theorem StandsAt.capture {s : State} {o : Nat} {r : Option CaptureRecord} (h : StandsAt s o (captureFields r)) :
    (r = none → ofLeBytes (((statusBytes s).drop o).take 14) = 0 % 256 ^ 14) ∧
    ∀ x, r = some x →
      ofLeBytes (((statusBytes s).drop o).take 4) = x.venue.toNat % 256 ^ 4 ∧
      ofLeBytes (((statusBytes s).drop (o + 4)).take 3) = x.gameValue % 256 ^ 3 ∧
      ofLeBytes (((statusBytes s).drop (o + 7)).take 1) = x.gameState.code % 256 ^ 1 ∧
      ofLeBytes (((statusBytes s).drop (o + 8)).take 3) = x.shotValue % 256 ^ 3 ∧
      ofLeBytes (((statusBytes s).drop (o + 11)).take 1) = x.shotState.code % 256 ^ 1 ∧
      ofLeBytes (((statusBytes s).drop (o + 12)).take 2) = x.sequence.toNat % 256 ^ 2 := by
  constructor
  · rintro rfl
    exact h.reads.1
  · rintro x rfl
    obtain ⟨venue, gameValue, gameState, shotValue, shotState, sequence, -⟩ := h.reads
    exact ⟨venue, gameValue, gameState, shotValue, shotState, sequence⟩

end Sys2Proof.Machine
end

section
/-! PROOFS. The status block as the host reads it (R185, R186, Table 11.8). -/

namespace Sys2Proof.Machine

/-- The bits of a byte above those that are free. -/
theorem partlyFree_div (frame o : Nat) (b : Bool) : ofLeBytes [partlyFree frame o (bitAt 2 b) 3] / 4 = if b = true then 1 else 0 := by
  have h : ∀ (b : Bool) (f : Byte), ((BitVec.ofNat 8 (bitAt 2 b) &&& ~~~3) ||| (f &&& 3)).toNat / 4 = if b = true then 1 else 0 := by
    decide
  exact h b (Config.statusFill frame o)

theorem statusBlock_channel {s : State} (n : Fin 4) :
    let c := s.console.channels[n]
    let o := 0x040 + 32 * n.val
    let shows (o n v : Nat) : Prop := ofLeBytes (((statusBytes s).drop o).take n) = v % 256 ^ n
    shows o 1 c.source.code ∧ (∀ l e, c.source = .line l e → shows (o + 1) 1 l.val ∧ shows (o + 2) 1 e.code) ∧
      shows (o + 3) 1 (bitAt 0 c.latest.isSome + bitAt 1 c.previous.isSome) ∧ StandsAt s (o + 4) (captureFields c.latest) ∧
      StandsAt s (o + 18) (captureFields c.previous) := by
  intro c o shows
  have hchannel := (statusLayout s).channel n
  rw [channelFields, List.append_assoc, List.append_assoc, List.append_assoc] at hchannel
  have hsource := StandsAt.tail (n := 1) hchannel rfl
  have hmarks := hsource.tail (sourceFields_size _)
  have hlatest := StandsAt.tail (n := 1) hmarks rfl
  have hprevious := hlatest.tail (captureFields_size _)
  refine ⟨hchannel.head.reads.1, fun l e he => ?_, hmarks.head.reads.1, hlatest.head, hprevious⟩
  rw [show (s.console.channels[n]).source = .line l e from he] at hsource
  obtain ⟨hline, hedge, -⟩ := hsource.head.reads
  exact ⟨hline, hedge⟩

theorem statusBlock_slot {s : State} {k : Nat} (hk : k < 64) :
    let shows (o n v : Nat) : Prop := ofLeBytes (((statusBytes s).drop o).take n) = v % 256 ^ n
    (s.intake.slots[k]? = none → shows (0x100 + 8 * k) 8 0) ∧
      ∀ x, s.intake.slots[k]? = some x →
        shows (0x100 + 8 * k) 1 x.state.code ∧ shows (0x101 + 8 * k) 1 x.pins ∧ shows (0x102 + 8 * k) 2 0 ∧
        ∀ f, x.state.frame = some f → shows (0x104 + 8 * k) 4 f.toNat := by
  intro shows
  have hslot := (statusLayout s).slot hk
  rw [slotFields] at hslot
  constructor
  · intro hnone
    rw [hnone] at hslot
    exact hslot.reads.1
  · intro x hx
    rw [hx] at hslot
    obtain ⟨hcode, hpins, hzero, hframe⟩ := hslot.reads
    rw [show 0x100 + 8 * k + 1 = 0x101 + 8 * k by omega] at hpins
    rw [show 0x100 + 8 * k + 1 + 1 = 0x102 + 8 * k by omega] at hzero
    rw [show 0x100 + 8 * k + 1 + 1 + 2 = 0x104 + 8 * k by omega] at hframe
    refine ⟨hcode, hpins, hzero, fun f hf => ?_⟩
    rw [slotFrameField, hf] at hframe
    exact hframe.1

theorem statusBlock_ticker (s : State) :
    let shows (o n v : Nat) : Prop := ofLeBytes (((statusBytes s).drop o).take n) = v % 256 ^ n
    (s.ticker.showing = none → shows 0x300 2 0) ∧
      (∀ x, s.ticker.showing = some x → shows 0x300 2 x.entry.tag ∧ shows 0x302 1 x.entry.priority ∧ shows 0x303 1 x.entry.repeats ∧
        shows 0x304 2 x.entry.passes ∧ shows 0x306 2 (BitVec.ofInt 16 x.position).toNat) ∧
      shows 0x308 1 s.ticker.waiting.length ∧ shows 0x309 1 s.ticker.freeChunks ∧ shows 0x30A 1 s.ticker.speed ∧
      shows 0x30B 1 (s.ticker.lastRemoved.elim 0 fun p => p.2.code) ∧ shows 0x30C 2 s.ticker.gap ∧
      ∀ p, s.ticker.lastRemoved = some p → shows 0x30E 2 p.1 := by
  intro shows
  have hticker := (statusLayout s).ticker
  rw [tickerFields] at hticker
  have hshowing := hticker.head
  have hrest := hticker.tail (n := 8) (by cases s.ticker.showing <;> rfl)
  obtain ⟨hlength, hchunks, hspeed, hreason, hgap, htag⟩ := hrest.reads
  refine ⟨fun hnone => ?_, fun x hx => ?_, hlength, hchunks, hspeed, hreason, hgap, fun p hp => ?_⟩
  · rw [hnone] at hshowing
    exact hshowing.reads.1
  · rw [hx] at hshowing
    obtain ⟨htag, hpriority, hrepeats, hpasses, hposition, -⟩ := hshowing.reads
    exact ⟨htag, hpriority, hrepeats, hpasses, hposition⟩
  · rw [hp] at htag
    exact htag.1

theorem statusBlock_sponsor {s : State} {j : Nat} (hj : j < 4) :
    let shows (o n v : Nat) : Prop := ofLeBytes (((statusBytes s).drop o).take n) = v % 256 ^ n
    let o := 0x310 + 16 * j
    let zones := allZones.filter fun z => (s.composer.record.zones[z]).desc.isOn .sponsor
    (zones[j]? = none → shows o 1 0xFF ∧ shows (o + 1) 15 0) ∧
    ∀ z, zones[j]? = some z →
      let x := s.rotation.zones[z]
      shows o 1 z.val ∧ shows (o + 1) 1 (x.showing.elim 0 fun h => h.spotId) ∧ shows (o + 3) 1 (BitVec.ofInt 8 x.cursor).toNat ∧
      shows (o + 4) 1 x.rotation.length ∧ shows (o + 5) 1 (x.sting.getD 0) ∧ shows (o + 14) 2 0 ∧
      (x.showing = none → ofLeBytes (((statusBytes s).drop (o + 2)).take 1) / 4 = if x.stingPending = true then 1 else 0) ∧
      ∀ h, x.showing = some h → shows (o + 2) 1 (bitAt 0 h.sting + bitAt 1 h.overrun + bitAt 2 x.stingPending) ∧
        shows (o + 6) 2 h.framesOnAir ∧ shows (o + 8) 2 h.countedFrames ∧ shows (o + 10) 4 h.credit := by
  intro shows o zones
  have hrecord := (statusLayout s).sponsor hj
  rw [sponsorRecord, show s.composer.record.sponsorZones = zones from rfl] at hrecord
  constructor
  · intro hnone
    rw [hnone] at hrecord
    obtain ⟨hnumber, hzero, -⟩ := hrecord.reads
    exact ⟨hnumber, hzero⟩
  · intro z hz x
    rw [hz] at hrecord
    have hfields : StandsAt s o (sponsorFields s z) := hrecord
    rw [sponsorFields] at hfields
    obtain ⟨hnumber, hspot, -⟩ := hfields.head.head.reads
    have hflags := StandsAt.tail (g := [.num 1 z.val, .num 1 (x.showing.elim 0 Showing.spotId)]) (n := 2)
      (hfields.head.head) rfl
    have hlist := hflags.rest
    rw [zoneFlags_size] at hlist
    obtain ⟨hcursor, hlength, hsting, -⟩ := hlist.reads
    have hcounts := hfields.head.tail (n := 6) (by
      have hsize := zoneFlags_size x
      simp only [fieldsSize_cons, fieldsSize_nil]
      rw [show (zoneFlags s.rotation.zones[z]).size = 1 from hsize]
      rfl)
    have hend := hfields.tail (n := 14) (by
      have hsize := zoneFlags_size x
      simp only [fieldsSize_append, fieldsSize_cons, fieldsSize_nil, showingCounts_size]
      rw [show (zoneFlags s.rotation.zones[z]).size = 1 from hsize]
      rfl)
    refine ⟨hnumber, hspot, hcursor, hlength, hsting, hend.reads.1, fun hnone => ?_, fun h hh => ?_⟩
    · rw [zoneFlags, show (s.rotation.zones[z]).showing = none from hnone] at hflags
      rw [show ((statusBytes s).drop (o + 2)).take 1 = _ from hflags.reads.1]
      exact partlyFree_div _ _ _
    · rw [zoneFlags, show (s.rotation.zones[z]).showing = some h from hh] at hflags
      rw [show (s.rotation.zones[z]).showing = some h from hh] at hcounts
      obtain ⟨hair, hcounted, hcredit, -⟩ := hcounts.reads
      exact ⟨hflags.reads.1, hair, hcounted, hcredit⟩

theorem statusBlock_spot {s : State} {j : Nat} (hj : j < 48) :
    let shows (o n v : Nat) : Prop := ofLeBytes (((statusBytes s).drop o).take n) = v % 256 ^ n
    let o := 0x360 + 16 * j
    (s.rotation.spots[j]? = none → shows o 16 0) ∧
    ∀ p, s.rotation.spots[j]? = some p → shows o 1 p.id ∧
      shows (o + 1) 1 (bitAt 0 p.saturated + bitAt 1 p.contractMet + bitAt 2 p.withdrawing) ∧ shows (o + 2) 2 p.showings ∧
      shows (o + 4) 2 p.contract ∧ shows (o + 6) 2 0 ∧ shows (o + 8) 4 p.delivered ∧ shows (o + 12) 4 0 := by
  intro shows o
  have hspot := (statusLayout s).spot hj
  rw [spotFields] at hspot
  constructor
  · intro hnone
    rw [hnone] at hspot
    exact hspot.reads.1
  · intro p hp
    rw [hp] at hspot
    obtain ⟨hid, hmarks, hshowings, hcontract, hzero, hdelivered, hzero', -⟩ := hspot.reads
    exact ⟨hid, hmarks, hshowings, hcontract, hzero, hdelivered, hzero'⟩

end Sys2Proof.Machine
end

section
/-! PROOFS. The frame record a FRAME_START builds, the pins it makes and the status write-back it begins (R6, R8, R12-R17, R21, R185). -/

namespace Sys2Proof.Machine

/-! ### Activity, marks and lead-ins (R6, R13, R14) -/

theorem zoneActive_iff (s : State) (d : ZoneDesc) : zoneActive s d = true ↔ d.enable = true ∧
    (d.source = .fill ∨ d.source = .slate ∨ d.source = .sponsor ∨ d.source = .scorebug ∨
      (d.source = .replay ∧ s.roller.state ≠ .idle) ∨ (d.source = .ticker ∧ s.ticker.showing ≠ none)) := by
  rw [zoneActive, Bool.and_eq_true]
  refine and_congr_right fun _ => ?_
  cases hd : d.source with
  | ticker => simp [sourceActive, Option.isSome_iff_ne_none]
  | _ => simp [sourceActive]

theorem marksChanged_iff (c : Composer) (z : ZoneIx) : c.marksChanged z = true ↔ c.applyRequest = true ∧
    ((c.live[z]).enable ≠ (c.staged[z]).enable ∨ (c.live[z]).source ≠ (c.staged[z]).source ∨ (c.live[z]).w ≠ (c.staged[z]).w ∨
      (c.live[z]).h ≠ (c.staged[z]).h ∨ (c.live[z]).param ≠ (c.staged[z]).param) := by
  simp only [Composer.marksChanged, ZoneDesc.changedTo, Bool.and_eq_true, Bool.or_eq_true, bne_iff_ne, or_assoc]

theorem marksResized_iff (c : Composer) (z : ZoneIx) : c.marksResized z = true ↔ c.applyRequest = true ∧ (c.live[z]).enable = true ∧
    (c.live[z]).source = .sponsor ∧ (c.staged[z]).enable = true ∧ (c.staged[z]).source = .sponsor ∧
      ((c.live[z]).w ≠ (c.staged[z]).w ∨ (c.live[z]).h ≠ (c.staged[z]).h) := by
  simp only [Composer.marksResized, ZoneDesc.resizedTo, ZoneDesc.isOn, Bool.and_eq_true, Bool.or_eq_true, bne_iff_ne, beq_iff_eq, and_assoc]

theorem nextLeadIn_eq (c : Composer) (z : ZoneIx) (active : Bool) : nextLeadIn c z active =
    if active = false then 0
    else if (c.record.zones[z]).active = false ∨ c.marksChanged z = true ∨ (c.record.mode ≠ .normal ∧ c.requestedMode = .normal) then
      (c.planNext[z]).leadIn.toNat
    else c.leadIn[z] - 1 := by
  simp only [nextLeadIn, Bool.not_eq_true', Bool.or_eq_true, returnsToNormal_iff, or_assoc]

/-! ### Draw states (R17) -/

theorem slotOf_eq_of_slot {n : Intake} (hn : n.frames.Nodup) {k : Nat} {x : SlotRecord} {f : Word} (hx : n.slots[k]? = some x)
    (hf : x.state.frame = some f) : n.slotOf f = some k := by
  have hat : n.frameAt k = some f := frameAt_eq_some.mpr ⟨x, hx, hf⟩
  cases hslot : n.slotOf f with
  | some j => rw [frames_nodup_iff.mp hn j k f (slotOf_eq_some hslot) hat]
  | none =>
    have hnone := List.find?_eq_none.mp (Option.map_eq_none_iff.mp hslot) (k, x) (mem_indexed.mpr hx)
    exact absurd (beq_iff_eq.mpr hf) hnone

theorem shown_of_slot {n : Intake} (hn : n.frames.Nodup) {k : Nat} {x : SlotRecord} {f : Word} (hx : n.slots[k]? = some x)
    (hf : x.state.frame = some f) : n.shown f = some ⟨f, k⟩ := by
  rw [Intake.shown, slotOf_eq_of_slot hn hx hf]
  rfl

section

variable {s : State} {z : ZoneIx} {d : ZoneDesc}

theorem drawState_fill {c : Colour} (hd : d.source = .fill) (hp : d.param = .colour c) : drawState s z d = .fill c := by
  rw [drawState, hd, hp]

theorem drawState_slate {base : Word} (hd : d.source = .slate) (hp : d.param = .base base) : drawState s z d = .slate base.toNat := by
  rw [drawState, hd, hp]

theorem drawState_sponsor_none (hd : d.source = .sponsor) (h : (s.rotation.zones[z]).showing = none) :
    drawState s z d = .sponsor none := by
  rw [drawState, hd]
  dsimp only
  rw [artOnAir, h]

theorem drawState_sponsor_some {h : Showing} {p : Spot} (hd : d.source = .sponsor) (hh : (s.rotation.zones[z]).showing = some h)
    (hp : s.rotation.spot h.spotId = some p) : drawState s z d = .sponsor (some { base := p.artBase, w := p.artW, h := p.artH }) := by
  rw [drawState, hd]
  dsimp only
  rw [artOnAir, hh]
  dsimp only
  rw [hp]
  rfl

theorem drawState_replay_eq (hd : d.source = .replay) : drawState s z d = .replay (sampleReplay s) := by
  rw [drawState, hd]

theorem sampleReplay_none (h : s.roller.showPlan = none) : sampleReplay s = none := by
  rw [sampleReplay, h]

theorem sampleReplay_some {p : ShowPlan} {k : Nat} {x : SlotRecord} (hn : s.intake.frames.Nodup) (hplan : s.roller.showPlan = some p)
    (hx : s.intake.slots[k]? = some x) (hf : x.state.frame = some p.a) :
    sampleReplay s = some { a := ⟨p.a, k⟩, b := p.b.bind s.intake.shown, w16 := p.w16 } := by
  rw [sampleReplay, hplan]
  dsimp only
  rw [shown_of_slot hn hx hf]
  rfl

theorem drawState_scorebug (hd : d.source = .scorebug) : drawState s z d = .scorebug (renderScorebug s.score s.clock) := by
  rw [drawState, hd]

theorem drawState_ticker {x : ShowingEntry} (hd : d.source = .ticker) (hx : s.ticker.showing = some x) :
    drawState s z d = .ticker { text := x.entry.text, position := x.position, priority := x.entry.priority } := by
  rw [drawState, hd]
  dsimp only
  rw [sampleTicker, hx]

end

/-! ### Pins (R21) -/

/-- The draw state of the only enabled zone of a kind. -/
theorem zoneOn_unique {r : FrameRecord} {kind : ZoneSource} {z : ZoneIx} (hz : (r.zones[z]).desc.isOn kind = true)
    (hunique : ∀ y : ZoneIx, y ≠ z → (r.zones[y]).desc.isOn kind = false) : r.zoneOn kind = some r.zones[z] := by
  cases hfind : r.zoneOn kind with
  | none =>
    have hnone := List.find?_eq_none.mp hfind r.zones[z] (List.mem_map.mpr ⟨z, mem_allZones z, rfl⟩)
    exact absurd hz hnone
  | some x =>
    obtain ⟨y, -, rfl⟩ := List.mem_map.mp (List.mem_of_find?_eq_some hfind)
    have hy := List.find?_some hfind
    by_cases hne : y = z
    · rw [hne]
    · exact Bool.noConfusion ((hunique y hne).symm.trans hy)

theorem recordSlots_of_zone {r : FrameRecord} {z : ZoneIx} {d : ReplayDraw} (hz : (r.zones[z]).desc.isOn .replay = true)
    (hunique : ∀ y : ZoneIx, y ≠ z → (r.zones[y]).desc.isOn .replay = false) (hd : (r.zones[z]).draw = some (.replay (some d))) :
    recordSlots r = d.a.slot :: (d.b.map fun b => b.slot).toList := by
  rw [recordSlots, zoneOn_unique hz hunique]
  dsimp only
  rw [hd]
  dsimp only
  rw [ReplayDraw.slots]
  cases d.b <;> rfl

theorem recordSlots_of_none {r : FrameRecord} (h : ∀ (z : ZoneIx) (d : ReplayDraw), (r.zones[z]).draw ≠ some (.replay (some d))) :
    recordSlots r = [] := by
  unfold recordSlots
  split
  · next x hx =>
    obtain ⟨z, -, rfl⟩ := List.mem_map.mp (List.mem_of_find?_eq_some hx)
    split
    · next d hd => exact absurd hd (h z d)
    · rfl
  · rfl

/-! ### The flags and the write-back -/

theorem composeFrame_flagged (s : State) (f : Flag) : (composeFrame s).flagged f =
    ((s.flagged f || (s.composer.applyRequest && decide (f = .planApplied))) ||
      (s.composer.requestedMode != s.composer.record.mode && decide (f = .modeChanged))) := by
  unfold composeFrame
  dsimp only
  rw [State.raiseIf_flagged, State.raiseIf_flagged]
  rfl

theorem statusWriteBack_flagged (s : State) (f : Flag) : (statusWriteBack s).flagged f = s.flagged f := by
  obtain ⟨_, _, _, e⟩ := statusWriteBack_frame s
  rw [e]
  rfl

theorem frameStart_flagged (s : State) (f : Flag) : (frameStart s).flagged f =
    ((s.flagged f || (s.composer.applyRequest && decide (f = .planApplied))) ||
      (s.composer.requestedMode != s.composer.record.mode && decide (f = .modeChanged))) := by
  rw [frameStart, statusWriteBack_flagged, ← composeFrame_flagged]
  rfl

theorem statusWriteBack_inFlight (s : State) : (statusWriteBack s).command.statusInFlight = true := by
  unfold statusWriteBack
  split
  · next h => exact h
  · rfl

/-- A state seen by the status block: it shows nothing of what the write-back itself changes. -/
theorem statusBytes_statusWriteBack (s : State) : statusBytes (statusWriteBack s) = statusBytes s := by
  obtain ⟨_, _, _, e⟩ := statusWriteBack_frame s
  rw [e]
  rfl

theorem statusWriteBack_idle {s : State} (h : s.command.statusInFlight = true) : statusWriteBack s = s := if_pos h

/-- With nothing waiting and room for 29 entries they join the queue. -/
theorem statusWriteBack_room {s : State} (h : s.command.statusInFlight = false) (hwait : s.memctl.waitCommand = [])
    (hroom : s.memctl.queue.length ≤ 35) : (statusWriteBack s).memctl.queue = s.memctl.queue ++ statusEntries s := by
  have hle : s.memctl.queue.length + (statusEntries s).length ≤ Config.queueCapacity := by
    rw [statusEntries_length, show Config.queueCapacity = 64 from rfl]
    omega
  rw [statusWriteBack, h, if_neg Bool.false_ne_true, offerAll_room _ _ hwait hle]

end Sys2Proof.Machine
end

section
/-! PROOFS. FRAME_START builds the frame record and the status block (R6, R8, R12-R17, R21, R185, R186). -/

namespace Sys2Proof.Machine

/-! ### The parts of the state at a FRAME_START -/

theorem frameStart_panel (s : State) : (frameStart s).panel = (beginScan (composeFrame s)).panel := by
  obtain ⟨_, _, _, e⟩ := statusWriteBack_frame (beginScan (composeFrame s))
  rw [frameStart, e]

theorem composeFrame_panel (s : State) : (composeFrame s).panel = s.panel := by
  obtain ⟨_, e⟩ := composeFrame_frame s
  rw [e]

theorem composeFrame_inFlight (s : State) : (beginScan (composeFrame s)).command.statusInFlight = s.command.statusInFlight := by
  obtain ⟨_, e⟩ := composeFrame_frame s
  rw [beginScan_command, e]

theorem composeFrame_memctl (s : State) : (beginScan (composeFrame s)).memctl = s.memctl := by
  obtain ⟨_, e⟩ := composeFrame_frame s
  rw [beginScan_memctl, e]

theorem composeFrame_timing (s : State) :
    (beginScan (composeFrame s)).timing = { frameNumber := s.timing.frameNumber + 1, blanking := false } := by
  obtain ⟨_, e⟩ := composeFrame_frame s
  rw [beginScan_timing, e]

theorem frameStart_timing (s : State) : (frameStart s).timing = { frameNumber := s.timing.frameNumber + 1, blanking := false } := by
  obtain ⟨_, _, _, _, _, e⟩ := frameStart_frame s
  rw [e]

theorem frameStart_lineBuffer (s : State) : (frameStart s).panel.lineBuffer <+: s.panel.lineBuffer := by
  rw [frameStart_panel, ← composeFrame_panel s]
  exact keepFetched_sub _ _ 0

theorem frameStart_inFlight (s : State) : (frameStart s).command.statusInFlight = true := by
  rw [frameStart]
  exact statusWriteBack_inFlight _

theorem frameStart_memctl_idle {s : State} (h : s.command.statusInFlight = true) : (frameStart s).memctl = s.memctl := by
  rw [frameStart, statusWriteBack_idle ((composeFrame_inFlight s).trans h), composeFrame_memctl]

theorem frameStart_queue {s : State} (h : s.command.statusInFlight = false) (hwait : s.memctl.waitCommand = [])
    (hroom : s.memctl.queue.length ≤ 35) : (frameStart s).memctl.queue = s.memctl.queue ++
      [{ offset := 0x4000, data := (statusBytes (frameStart s)).take 4 },
        { offset := 0x4004, data := ((statusBytes (frameStart s)).drop 4).take 60 }] ++
      ((List.range 25).map fun i => { offset := 0x4040 + 64 * i, data := ((statusBytes (frameStart s)).drop (64 + 64 * i)).take 64 }) ++
      [{ offset := 0x4680, data := ((statusBytes (frameStart s)).drop 0x680).take 32 },
        { offset := 0x4FFC, data := leBytes 4 (s.timing.frameNumber + 1).toNat }] := by
  have hqueue := statusWriteBack_room ((composeFrame_inFlight s).trans h) (by rw [composeFrame_memctl, hwait])
    (by rw [composeFrame_memctl]; exact hroom)
  have hoffset : ∀ i, statusBase + (64 + 64 * i) = 0x4040 + 64 * i := fun i => by rw [statusBase]; omega
  rw [composeFrame_memctl, statusEntries, ← statusBytes_statusWriteBack, composeFrame_timing, ← frameStart] at hqueue
  simp only [statusEntry, hoffset] at hqueue
  rw [hqueue]
  simp only [List.append_assoc]
  rfl

theorem frameStart_eq (s : State) : frameStart s = { s with
    timing := (frameStart s).timing
    composer := (frameStart s).composer
    intake := { s.intake with slots := (frameStart s).intake.slots }
    panel := { s.panel with lineBuffer := (frameStart s).panel.lineBuffer, fetchAt := (frameStart s).panel.fetchAt }
    command := { s.command with flags := (frameStart s).command.flags, statusInFlight := true }
    memctl := { s.memctl with queue := (frameStart s).memctl.queue, waitCommand := (frameStart s).memctl.waitCommand } } := by
  have hintake := frameStart_intake s
  have hpanel := frameStart_panel s
  have hlate : (beginScan (composeFrame s)).panel.late = s.panel.late := by rw [beginScan_late, composeFrame_panel]
  have hflight := frameStart_inFlight s
  obtain ⟨slots, hslots⟩ := repinned_frame (recordSlots (buildRecord s)) s.composer.pins s.intake
  rw [hslots] at hintake
  rw [← hpanel] at hlate
  obtain ⟨f, b, q, x, p, e⟩ := frameStart_frame s
  generalize frameStart s = u at hintake hlate hflight e ⊢
  subst e
  obtain ⟨buffer, fetchAt, late⟩ := p
  obtain rfl : late = s.panel.late := hlate
  obtain rfl : b = true := hflight
  dsimp only at hintake ⊢
  rw [hintake]

theorem frameStart_flagged_planApplied (s : State) :
    (frameStart s).flagged .planApplied = (s.flagged .planApplied || s.composer.applyRequest) := by
  simp [frameStart_flagged]

theorem frameStart_flagged_modeChanged (s : State) : (frameStart s).flagged .modeChanged =
    (s.flagged .modeChanged || decide (s.composer.requestedMode ≠ s.composer.record.mode)) := by
  rw [frameStart_flagged, Bool.eq_iff_iff]
  simp

theorem frameStart_flagged_other {s : State} {f : Flag} (happlied : f ≠ .planApplied) (hchanged : f ≠ .modeChanged) :
    (frameStart s).flagged f = s.flagged f := by
  simp [frameStart_flagged, happlied, hchanged]

theorem frameStart_slots_length (s : State) : (frameStart s).intake.slots.length = s.intake.slots.length := by
  rw [frameStart_intake]
  simpa using congrArg List.length (repinned_states (recordSlots (buildRecord s)) s.composer.pins s.intake)

/-- A slot keeps its state, and its pins are those before, with the new record's and without the old one's. -/
theorem frameStart_slot {s : State} {k : Nat} {x : SlotRecord} (hx : s.intake.slots[k]? = some x) :
    (frameStart s).intake.slots[k]? =
      some { state := x.state, pins := x.pins + (frameStart s).composer.pins.count k - s.composer.pins.count k } := by
  rw [frameStart_intake, repinned_slots, hx, frameStart_pins]
  rfl

section

variable {s : State} {z : ZoneIx}

/-- What a FRAME_START records of a zone. -/
theorem frameStart_zone_desc : ((frameStart s).composer.record.zones[z]).desc = s.composer.planNext[z] := by
  rw [frameStart_zone]
  rfl

theorem frameStart_zone_active : ((frameStart s).composer.record.zones[z]).active = zoneActive s s.composer.planNext[z] := by
  rw [frameStart_active, activity_zone]

theorem frameStart_zone_changed : ((frameStart s).composer.record.zones[z]).changed = s.composer.marksChanged z := by
  rw [frameStart_zone]
  rfl

theorem frameStart_zone_resized : ((frameStart s).composer.record.zones[z]).resized = s.composer.marksResized z := by
  rw [frameStart_zone]
  rfl

theorem frameStart_zone_inLeadIn :
    ((frameStart s).composer.record.zones[z]).inLeadIn = decide (0 < (frameStart s).composer.leadIn[z]) := by
  rw [frameStart_zone, frameStart_leadIn]
  rfl

theorem frameStart_zone_dormant (h : ((frameStart s).composer.record.zones[z]).active = false) :
    ((frameStart s).composer.record.zones[z]).draw = none := by
  rw [frameStart_zone_active] at h
  rw [frameStart_zone, zoneRecord, h]
  rfl

theorem frameStart_zone_draw (h : ((frameStart s).composer.record.zones[z]).active = true) :
    ((frameStart s).composer.record.zones[z]).draw = some (drawState s z s.composer.planNext[z]) := by
  rw [frameStart_zone_active] at h
  rw [frameStart_zone, zoneRecord, h]
  rfl

end

/-- Settles O24, from the record's zones, the pins and the write-back, and from the layout of the block. -/
theorem frameStartBuildsRecord : Obligations.FrameStartBuildsRecord := by
  unfold Obligations.FrameStartBuildsRecord
  refine ⟨fun s hrun hblank => ?_, fun s => ?_⟩
  · intro c plan
    have hrecord := frameStart_record s
    refine ⟨_, exec_frameStart hrun hblank, frameStart_timing s, ?_, ?_, ?_, ?_, ?_, ?_, ?_, fun z => ?_, fun z d hon hunique hd => ?_,
      fun hnone => ?_, frameStart_slots_length s, fun k x hx => frameStart_slot hx, ?_, ?_, fun f happlied hchanged => ?_,
      frameStart_lineBuffer s, frameStart_inFlight s, frameStart_memctl_idle, frameStart_queue, frameStart_eq s⟩
    · rw [frameStart_composer]
      rfl
    · rw [hrecord]
      rfl
    · rw [hrecord]
      rfl
    · rw [hrecord]
      rfl
    · rw [hrecord]
      rfl
    · rw [hrecord]
      rfl
    · rw [hrecord]
      rfl
    · intro old new d r
      have hdraw : r.active = true → r.draw = some (drawState s z d) := frameStart_zone_draw
      refine ⟨frameStart_zone_desc, ?_, ?_, ?_, ?_, frameStart_zone_inLeadIn, frameStart_zone_dormant, fun hactive colour hd hp => ?_,
        fun hactive base hd hp => ?_, fun hactive hd => ⟨fun h => ?_, fun h p hh hp => ?_⟩,
        fun hactive hd => ⟨fun h => ?_, fun p k x hplan hnodup hx hf => ?_⟩, fun hactive hd => ?_, fun hactive x hd hx => ?_⟩
      · exact (Bool.eq_iff_iff.mp frameStart_zone_active).trans (zoneActive_iff s d)
      · exact (Bool.eq_iff_iff.mp frameStart_zone_changed).trans (marksChanged_iff c z)
      · exact (Bool.eq_iff_iff.mp frameStart_zone_resized).trans (marksResized_iff c z)
      · rw [frameStart_leadIn, nextLeadIn_eq, ← frameStart_zone_active, ← frameStart_zone_changed]
        rfl
      · rw [hdraw hactive, drawState_fill hd hp]
      · rw [hdraw hactive, drawState_slate hd hp]
      · rw [hdraw hactive, drawState_sponsor_none hd h]
      · rw [hdraw hactive, drawState_sponsor_some hd hh hp]
      · rw [hdraw hactive, drawState_replay_eq hd, sampleReplay_none h]
      · rw [hdraw hactive, drawState_replay_eq hd, sampleReplay_some hnodup hplan hx hf]
        refine ⟨fun hb => by rw [hb]; rfl, fun g j y hb hy hg => ?_⟩
        rw [hb, Option.bind_some, shown_of_slot hnodup hy hg]
      · rw [hdraw hactive, drawState_scorebug hd]
      · rw [hdraw hactive, drawState_ticker hd hx]
    · rw [frameStart_pins, ← hrecord]
      refine recordSlots_of_zone ?_ (fun y hy => ?_) hd
      · rw [frameStart_zone_desc]
        exact hon
      · rw [frameStart_zone_desc]
        exact hunique y hy
    · rw [frameStart_pins, ← hrecord]
      exact recordSlots_of_none hnone
    · rw [frameStart_flagged_planApplied]
    · rw [frameStart_flagged_modeChanged]
    · exact frameStart_flagged_other happlied hchanged
  · intro shows bit
    have hl := statusLayout s
    refine ⟨statusBytes_length s, ?_, ?_, fun n => ?_, ?_, ?_, fun k hk => statusBlock_slot hk, statusBlock_ticker s,
      fun j hj => statusBlock_sponsor hj, ?_, fun j hj => statusBlock_spot hj, fun z => ?_, ?_⟩
    · obtain ⟨frame, causes, mode, w, h, flags, mask, number, venue, taken, refused, -⟩ := hl.head.reads
      exact ⟨frame, causes, mode, w, h, flags, mask, number, venue, taken, refused⟩
    · obtain ⟨value, limit, state, mark0, acts0, mark1, acts1, shotValue, shotState, preset, follows, timer, settings, zero, periodTime,
        shotTime, -⟩ := hl.clock.reads
      exact ⟨value, limit, state, mark0, acts0, mark1, acts1, shotValue, shotState, preset, follows, timer, settings, zero, periodTime,
        shotTime⟩
    · obtain ⟨source, line, marks, latest, previous⟩ := statusBlock_channel (s := s) n
      exact ⟨source, line, marks, latest.capture, previous.capture⟩
    · obtain ⟨home, guest, f2, f3, f4, f5, f6, f7, settings, flash, homeFlash, guestFlash, zero, -⟩ := hl.score.reads
      exact ⟨home, guest, f2, f3, f4, f5, f6, f7, settings, flash, homeFlash, guestFlash, zero⟩
    · obtain ⟨state, ended, direction, plan, a, pInt, speed, gap, starved, slot, ring, held, count, zero, completions, zero', -⟩ :=
        hl.replay.reads
      exact ⟨state, ended, direction, plan, a, pInt, speed, gap, starved, slot, ring, held, count, zero, completions, zero'⟩
    · obtain ⟨next, readMark, missed, zero, -⟩ := hl.log.reads
      exact ⟨next, readMark, missed, zero⟩
    · obtain ⟨visible, marks, leadIn, -⟩ := (hl.zone z).reads
      exact ⟨visible, marks, leadIn⟩
    · exact ⟨rfl, rfl, rfl, rfl, rfl, rfl, rfl, rfl, rfl, rfl⟩

end Sys2Proof.Machine
end

section
/-! PROOFS. What a pixel of the wall shows, and what an underrun changes of it (R18-R20, R22, R23, R57). -/

namespace Sys2Proof.Machine

/-! ### The colour a pixel source gives (R18, R57) -/

/-- The colour a pixel source gives in a state. -/
def State.colourOf (s : State) : PixelSource → Colour
  | .solid c => c
  | .image a reversed => if reversed then reverseColour (scanColour s a) else scanColour s a
  | .blend a b w => blendColour w (scanColour s a) (scanColour s b)

theorem pixel_late {s : State} {px py : Nat} (h : (px / 32, py / 32) ∈ s.panel.late) :
    s.pixel px py = lateColour s.composer.record (px / 32) (py / 32) :=
  if_pos (List.contains_iff_mem.mpr h)

theorem pixel_drawn {s : State} {px py : Nat} (h : (px / 32, py / 32) ∉ s.panel.late) : s.pixel px py = s.colourOf (s.source px py) := by
  rw [State.pixel, if_neg fun hc => h (List.contains_iff_mem.mp hc)]
  cases s.source px py <;> rfl

theorem scanByte_unfetched {s : State} {a : Nat} (h : ∀ b ∈ s.panel.lineBuffer, a < b.addr ∨ b.addr + b.bytes.length ≤ a) :
    scanByte s a = s.memByte a := by
  have hnone : (s.panel.lineBuffer.find? fun b => decide (b.addr ≤ a) && decide (a < b.addr + b.bytes.length)) = none := by
    refine List.find?_eq_none.mpr fun b hb hin => ?_
    rw [Bool.and_eq_true, decide_eq_true_iff, decide_eq_true_iff] at hin
    have hout := h b hb
    omega
  rw [scanByte, hnone]

/-! ### Underruns (R22) -/

theorem exec_underrun {s : State} {cx cy : Nat} (hrun : s.phase = .running) (hscan : s.timing.blanking = false)
    (h : s.cellUnserved cx cy = true) : exec (.underrun cx cy) s = .next (underrunCell cx cy s) :=
  if_pos ⟨hrun, hscan, h⟩

theorem underrunCell_pixel_late {s : State} {cx cy px py : Nat} (hx : px / 32 = cx) (hy : py / 32 = cy) :
    (underrunCell cx cy s).pixel px py = lateColour s.composer.record cx cy := by
  subst hx hy
  exact pixel_late (s := underrunCell (px / 32) (py / 32) s) List.mem_cons_self

/-- A pixel of another cell is drawn as before. -/
theorem underrunCell_pixel_other {s : State} {cx cy px py : Nat} (h : (px / 32, py / 32) ≠ (cx, cy)) :
    (underrunCell cx cy s).pixel px py = s.pixel px py := by
  have hlate : (underrunCell cx cy s).panel.late = (cx, cy) :: s.panel.late := rfl
  by_cases hin : (px / 32, py / 32) ∈ s.panel.late
  · rw [pixel_late hin, pixel_late (s := underrunCell cx cy s) (by rw [hlate]; exact List.mem_cons_of_mem _ hin)]
    rfl
  · rw [pixel_drawn hin, pixel_drawn (s := underrunCell cx cy s) (by rw [hlate, List.mem_cons, not_or]; exact ⟨h, hin⟩)]
    rfl

/-! ### Sources (R19, R20, Tables 1.3 and 1.6) -/

section

variable {s : State} {px py : Nat}

theorem colourOf_slatePixel (otherwise : Colour) : s.colourOf (slatePixel s.composer.record otherwise px py) =
    s.composer.record.slate.elim otherwise fun base => scanColour s (imageAddr base.toNat s.composer.record.w px py) := by
  rw [slatePixel]
  cases s.composer.record.slate <;> rfl

theorem source_slateOnly (h : s.composer.record.mode = .slateOnly) :
    s.source px py = slatePixel s.composer.record black px py := by
  rw [State.source, pixelSource, h]

theorem source_ownerless (h : s.composer.record.mode = .normal) (hnone : s.composer.record.owner (px / 32) (py / 32) = none) :
    s.source px py = slatePixel s.composer.record black px py := by
  rw [State.source, pixelSource, h]
  dsimp only
  rw [hnone]

/-- A pixel of the wall as its owner's own pixel. -/
theorem source_owned {z : ZoneIx} (h : s.composer.record.mode = .normal)
    (hz : s.composer.record.owner (px / 32) (py / 32) = some z) : s.source px py =
      if (s.composer.record.zones[z]).inLeadIn = true then .solid (s.composer.record.zones[z]).desc.guard
      else drawnPixel s.intake.ring s.composer.record s.composer.record.zones[z]
        (px - 32 * (s.composer.record.zones[z]).desc.x.toNat) (py - 32 * (s.composer.record.zones[z]).desc.y.toNat) px py := by
  rw [State.source, pixelSource, h]
  dsimp only
  rw [hz]

theorem colourOf_zoneImage (guard : Colour) (base iw ih zx zy : Nat) : s.colourOf (zoneImage guard base iw ih zx zy) =
    if zx / 32 < iw ∧ zy / 32 < ih then scanColour s (imageAddr base iw zx zy) else guard := by
  unfold zoneImage
  split <;> rfl

end

/-! ### The zones' kinds (R19) -/

section

variable {ring : Option RingDecl} {r : FrameRecord} {z : ZoneRecord} {zx zy px py : Nat}

theorem drawnPixel_fill {c : Colour} (h : z.draw = some (.fill c)) : drawnPixel ring r z zx zy px py = .solid c := by
  rw [drawnPixel, h]

theorem drawnPixel_slate {base : Nat} (h : z.draw = some (.slate base)) :
    drawnPixel ring r z zx zy px py = zoneImage z.desc.guard base z.desc.w.toNat z.desc.h.toNat zx zy := by
  rw [drawnPixel, h]

theorem drawnPixel_art {a : ArtImage} (h : z.draw = some (.sponsor (some a))) :
    drawnPixel ring r z zx zy px py = zoneImage z.desc.guard a.base a.w a.h zx zy := by
  rw [drawnPixel, h]

theorem drawnPixel_noArt (h : z.draw = some (.sponsor none)) :
    drawnPixel ring r z zx zy px py = slatePixel r z.desc.guard px py := by
  rw [drawnPixel, h]

theorem drawnPixel_noReplay (h : z.draw = some (.replay none)) : drawnPixel ring r z zx zy px py = .solid z.desc.guard := by
  rw [drawnPixel, h]

theorem drawnPixel_replay {d : ReplayDraw} {g : RingDecl} (h : z.draw = some (.replay (some d))) (hring : ring = some g) :
    drawnPixel ring r z zx zy px py = replayPixel z.desc.guard g d zx zy := by
  rw [drawnPixel, h, hring]

theorem drawnPixel_scorebug {m : ScorebugImage} {f : Word} (h : z.draw = some (.scorebug m)) (hfont : r.font = some f) :
    drawnPixel ring r z zx zy px py = scorebugPixel f.toNat m zx zy := by
  rw [drawnPixel, h]
  dsimp only
  rw [hfont]

theorem drawnPixel_scorebug_fontless {m : ScorebugImage} (h : z.draw = some (.scorebug m)) (hfont : r.font = none) :
    drawnPixel ring r z zx zy px py = .solid z.desc.guard := by
  rw [drawnPixel, h]
  dsimp only
  rw [hfont]

theorem drawnPixel_ticker {t : TickerDraw} {f : Word} (h : z.draw = some (.ticker t)) (hfont : r.font = some f) :
    drawnPixel ring r z zx zy px py = tickerPixel f.toNat t zx zy := by
  rw [drawnPixel, h]
  dsimp only
  rw [hfont]

theorem drawnPixel_ticker_fontless {t : TickerDraw} (h : z.draw = some (.ticker t)) (hfont : r.font = none) :
    drawnPixel ring r z zx zy px py = .solid z.desc.guard := by
  rw [drawnPixel, h]
  dsimp only
  rw [hfont]

end

/-! ### Replay, scorebug and ticker (R19, R57) -/

theorem replayPixel_outside {guard : Colour} {g : RingDecl} {d : ReplayDraw} {zx zy : Nat} (h : ¬ (zx / 32 < g.w ∧ zy / 32 < g.h)) :
    replayPixel guard g d zx zy = .solid guard := if_neg h

theorem replayPixel_single {guard : Colour} {g : RingDecl} {d : ReplayDraw} {zx zy : Nat} (h : zx / 32 < g.w ∧ zy / 32 < g.h)
    (hb : d.b = none) : replayPixel guard g d zx zy = .image (imageAddr (g.slotBase d.a.slot) g.w zx zy) false := by
  rw [replayPixel, if_pos h, hb]

theorem replayPixel_blend {guard : Colour} {g : RingDecl} {d : ReplayDraw} {b : ShownFrame} {zx zy : Nat}
    (h : zx / 32 < g.w ∧ zy / 32 < g.h) (hb : d.b = some b) : replayPixel guard g d zx zy =
      .blend (imageAddr (g.slotBase d.a.slot) g.w zx zy) (imageAddr (g.slotBase b.slot) g.w zx zy) d.w16 := by
  rw [replayPixel, if_pos h, hb]

theorem scorebugPixel_blank {font : Nat} {m : ScorebugImage} {zx zy : Nat} {i : Fin 96} (hi : i.val = 32 * (zy / 32) + zx / 16)
    (h : m[i] = none) : scorebugPixel font m zx zy = .solid black := by
  have hget : m[zy / 32 * 32 + zx / 16]? = some none := by
    rw [Nat.mul_comm, ← hi, ← h]
    exact Vector.getElem?_eq_getElem i.isLt
  rw [scorebugPixel, hget]
  rfl

theorem scorebugPixel_glyph {font : Nat} {m : ScorebugImage} {zx zy : Nat} {i : Fin 96} {g : ScoreGlyph}
    (hi : i.val = 32 * (zy / 32) + zx / 16) (h : m[i] = some g) :
    scorebugPixel font m zx zy = .image (glyphAddr font g.code (zx % 16) (zy % 32)) g.reversed := by
  have hget : m[zy / 32 * 32 + zx / 16]? = some (some g) := by
    rw [Nat.mul_comm, ← hi, ← h]
    exact Vector.getElem?_eq_getElem i.isLt
  rw [scorebugPixel, hget]
  rfl

theorem tickerPixel_glyph {font : Nat} {t : TickerDraw} {zx zy n column : Nat} {c : Byte} (hc : t.text[n]? = some c)
    (hcolumn : column < 16) (hx : (zx : Int) = t.position + 16 * n + column) :
    tickerPixel font t zx zy = .image (glyphAddr font c column (zy % 32)) (t.priority == 3) := by
  have hoff : ((zx : Int) - t.position).toNat = 16 * n + column := by omega
  have hdiv : (16 * n + column) / 16 = n := by omega
  have hmod : (16 * n + column) % 16 = column := by omega
  rw [tickerPixel, if_pos (by omega : t.position ≤ (zx : Int))]
  dsimp only
  rw [hoff, hdiv, hmod, hc]

theorem tickerPixel_outside {font : Nat} {t : TickerDraw} {zx zy : Nat}
    (h : (zx : Int) < t.position ∨ t.position + 16 * (t.text.length : Int) ≤ zx) : tickerPixel font t zx zy = .solid black := by
  unfold tickerPixel
  split
  · next hle =>
    dsimp only
    rw [List.getElem?_eq_none (by omega : t.text.length ≤ ((zx : Int) - t.position).toNat / 16)]
  · rfl

/-! ### The panel link (R23) -/

theorem linkSends_off {s : State} (h : s.phase ≠ .running) : s.linkSends = .nothing := if_pos (bne_iff_ne.mpr h)

theorem linkSends_blanking {s : State} (hrun : s.phase = .running) (h : s.timing.blanking = true) : s.linkSends = .marker := by
  rw [State.linkSends, hrun, h]
  rfl

theorem linkSends_scan {s : State} (hrun : s.phase = .running) (h : s.timing.blanking = false) :
    s.linkSends = .lines s.panelFrame := by
  rw [State.linkSends, hrun, h]
  rfl

theorem panelFrame_getElem? {s : State} {y : Nat} (h : y < 32 * s.composer.record.h) : s.panelFrame[y]? = some (s.panelLine y) := by
  rw [State.panelFrame, List.getElem?_map, List.getElem?_range h, Option.map_some]

end Sys2Proof.Machine
end

section
/-! PROOFS. The rendering of the scorebug and the clocks' texts (R85, R86, R106-R108, Tables 4.9, 4.10 and 6.3). -/

namespace Sys2Proof.Machine

/-! ### Decimal numbers (R108) -/

theorem digitChar_of_lt {n : Nat} (h : n < 10) : digitChar n = BitVec.ofNat 8 (0x30 + n) := by
  rw [digitChar, Nat.mod_eq_of_lt h]

theorem decimal_length_pos (v : Nat) : 0 < (decimal v).length := by
  unfold decimal
  split
  · exact Nat.one_pos
  · split <;> exact Nat.succ_pos _

theorem decimal_length_le_iff {v k : Nat} (hv : v < 1000) : (decimal v).length ≤ k ↔ 0 < k ∧ v < 10 ^ k := by
  unfold decimal
  split
  · next h =>
    refine ⟨fun hk => ⟨hk, h.trans_le ?_⟩, fun hk => hk.1⟩
    exact Nat.le_self_pow (Nat.one_le_iff_ne_zero.mp hk) 10
  · next h =>
    have hone : ¬ v < 10 ^ 1 := h
    split
    · next h' =>
      refine ⟨fun hk => ⟨Nat.lt_of_lt_of_le Nat.two_pos hk, lt_of_lt_of_le (b := 10 ^ 2) h' ?_⟩, fun ⟨hpos, hlt⟩ => ?_⟩
      · exact Nat.pow_le_pow_right (by omega) hk
      · by_contra hk
        obtain rfl : k = 1 := by
          rw [List.length_cons, List.length_singleton] at hk
          omega
        exact hone hlt
    · next h' =>
      have htwo : ¬ v < 10 ^ 2 := h'
      refine ⟨fun hk => ⟨Nat.lt_of_lt_of_le (Nat.succ_pos 2) hk, lt_of_lt_of_le (b := 10 ^ 3) hv ?_⟩, fun ⟨hpos, hlt⟩ => ?_⟩
      · exact Nat.pow_le_pow_right (by omega) hk
      · by_contra hk
        have hcases : k = 1 ∨ k = 2 := by
          rw [List.length_cons, List.length_cons, List.length_singleton] at hk
          omega
        rcases hcases with rfl | rfl
        · exact hone hlt
        · exact htwo hlt

theorem decimal_length_le (v : Nat) : (decimal v).length ≤ 3 := by
  unfold decimal
  split
  · exact Nat.le_of_ble_eq_true rfl
  · split <;> exact Nat.le_of_ble_eq_true rfl

/-- The digit of weight 10^i stands i places before the last. -/
theorem decimal_digit {v i : Nat} (hi : i < (decimal v).length) :
    (decimal v)[(decimal v).length - 1 - i]? = some (digitChar (v / 10 ^ i)) := by
  have hthree := decimal_length_le v
  revert hi
  unfold decimal
  split
  · intro hi
    obtain rfl : i = 0 := Nat.lt_one_iff.mp hi
    rw [Nat.pow_zero, Nat.div_one]
    rfl
  · split
    · intro hi
      have hcases : i = 0 ∨ i = 1 := by
        rw [List.length_cons, List.length_singleton] at hi
        omega
      rcases hcases with rfl | rfl
      · rw [Nat.pow_zero, Nat.div_one]
        rfl
      · rfl
    · intro hi
      have hcases : i = 0 ∨ i = 1 ∨ i = 2 := by
        rw [List.length_cons, List.length_cons, List.length_singleton] at hi
        omega
      rcases hcases with rfl | rfl | rfl
      · rw [Nat.pow_zero, Nat.div_one]
        rfl
      · rfl
      · rfl

/-! ### What a run of characters places -/

theorem glyphAt_index {t : ScoreText} {i : Nat} :
    t.glyphAt t.row (t.start + i) = (t.chars[i]?).map fun c => { code := c, reversed := t.reversed } := by
  rw [ScoreText.glyphAt, if_pos ⟨rfl, Nat.le_add_right _ _⟩, Nat.add_sub_cancel_left]

theorem glyphAt_outside {t : ScoreText} {row pos : Nat} (h : t.row ≠ row ∨ pos < t.start ∨ t.start + t.chars.length ≤ pos) :
    t.glyphAt row pos = none := by
  unfold ScoreText.glyphAt
  split
  · rw [List.getElem?_eq_none (by omega), Option.map_none]
  · rfl

/-- A number right-aligned in its places. -/
theorem placedNumber_glyphAt {row start places v i : Nat} {reversed : Bool} (hv : v < 10 ^ places) (hthree : places ≤ 3)
    (hi : i < places) : (placedNumber row start places v reversed).glyphAt row (start + places - 1 - i) =
      if i = 0 ∨ 10 ^ i ≤ v then some { code := BitVec.ofNat 8 (0x30 + v / 10 ^ i % 10), reversed := reversed } else none := by
  have hlt : v < 1000 := hv.trans_le (Nat.pow_le_pow_right (by omega) hthree)
  have hfits : (decimal v).length ≤ places := (decimal_length_le_iff hlt).mpr ⟨by omega, hv⟩
  have hpos := decimal_length_pos v
  have hshown : i < (decimal v).length ↔ i = 0 ∨ 10 ^ i ≤ v := by
    rw [← Nat.not_le, decimal_length_le_iff hlt]
    omega
  by_cases h : i < (decimal v).length
  · rw [if_pos (hshown.mp h)]
    have hplace : start + places - 1 - i =
        (placedNumber row start places v reversed).start + ((decimal v).length - 1 - i) := by
      rw [placedNumber]
      dsimp only
      omega
    rw [hplace]
    refine (glyphAt_index (t := placedNumber row start places v reversed)).trans ?_
    have hdigit : (placedNumber row start places v reversed).chars[(decimal v).length - 1 - i]? = some (digitChar (v / 10 ^ i)) :=
      decimal_digit h
    rw [hdigit]
    rfl
  · rw [if_neg fun hs => h (hshown.mpr hs)]
    refine glyphAt_outside (.inr (.inl ?_))
    rw [placedNumber]
    dsimp only
    omega

theorem shownChar_glyphAt (row pos : Nat) (shown : Bool) (c : Byte) : (shownChar row pos shown c).glyphAt row pos =
    if shown = true then some { code := c, reversed := false } else none := by
  have h := glyphAt_index (t := shownChar row pos shown c) (i := 0)
  refine h.trans ?_
  cases shown <;> rfl

/-! ### The places of Table 6.3 -/

/-- Positions of one row of the scorebug. -/
structure ScoreRegion where
  row : Nat
  start : Nat
  stop : Nat

/-- Whether a position of a row lies in a region. -/
def ScoreRegion.has (g : ScoreRegion) (row pos : Nat) : Bool := row == g.row && decide (g.start ≤ pos) && decide (pos < g.stop)

theorem ScoreRegion.has_iff {g : ScoreRegion} {row pos : Nat} : g.has row pos = true ↔ row = g.row ∧ g.start ≤ pos ∧ pos < g.stop := by
  rw [ScoreRegion.has, Bool.and_eq_true, Bool.and_eq_true, beq_iff_eq, decide_eq_true_iff, decide_eq_true_iff, and_assoc]

/-- Where each of the texts of a scorebug may place characters, in the order of `scorebugTexts`. -/
def scorebugRegions : List ScoreRegion :=
  [⟨0, 2, 5⟩, ⟨0, 16, 17⟩, ⟨0, 27, 30⟩, ⟨1, 0, 32⟩, ⟨2, 1, 2⟩, ⟨2, 3, 5⟩, ⟨2, 6, 7⟩, ⟨2, 12, 13⟩, ⟨2, 13, 18⟩, ⟨2, 19, 20⟩, ⟨2, 25, 26⟩,
    ⟨2, 27, 29⟩, ⟨2, 30, 31⟩]

/-- A text keeps to a region. -/
def ScoreText.Within (t : ScoreText) (g : ScoreRegion) : Prop :=
  t.row = g.row ∧ g.start ≤ t.start ∧ t.start + t.chars.length ≤ g.stop

theorem ScoreText.Within.glyphAt_none {t : ScoreText} {g : ScoreRegion} (h : t.Within g) {row pos : Nat} (hout : g.has row pos = false) :
    t.glyphAt row pos = none := by
  obtain ⟨hrow, hstart, hstop⟩ := h
  refine glyphAt_outside ?_
  have hout' : ¬ (row = g.row ∧ g.start ≤ pos ∧ pos < g.stop) := fun hin => Bool.noConfusion (hout.symm.trans (ScoreRegion.has_iff.mpr hin))
  omega

theorem placedNumber_within {row start places v : Nat} {reversed : Bool} (hv : v < 10 ^ places) (hpos : 0 < places) (hthree : places ≤ 3) :
    (placedNumber row start places v reversed).Within ⟨row, start, start + places⟩ := by
  have hlt : v < 1000 := hv.trans_le (Nat.pow_le_pow_right (by omega) hthree)
  have hfits : (decimal v).length ≤ places := (decimal_length_le_iff hlt).mpr ⟨hpos, hv⟩
  refine ⟨rfl, ?_, ?_⟩
  · rw [placedNumber]
    dsimp only
    omega
  · rw [placedNumber]
    dsimp only
    omega

theorem shownChar_within (row pos : Nat) (shown : Bool) (c : Byte) : (shownChar row pos shown c).Within ⟨row, pos, pos + 1⟩ := by
  refine ⟨rfl, Nat.le_refl pos, ?_⟩
  cases shown
  · exact Nat.le_succ pos
  · exact Nat.le_refl (pos + 1)

theorem minutesSeconds_length (sec : Nat) : (minutesSeconds sec).length ≤ 6 := by
  rw [minutesSeconds, List.length_append]
  exact Nat.add_le_add_right (decimal_length_le _) 3

theorem secondsTenths_length (t : Nat) : (secondsTenths t).length ≤ 5 := by
  rw [secondsTenths, List.length_append]
  exact Nat.add_le_add_right (decimal_length_le _) 2

theorem gameText_length (g : GameClock) : g.text.length ≤ 6 := by
  unfold GameClock.text
  split
  · exact minutesSeconds_length _
  · split
    · exact minutesSeconds_length _
    · exact (secondsTenths_length _).trans (Nat.le_succ 5)

theorem shotText_length (c : ClockUnit) : (c.shotText.getD []).length ≤ 3 := by
  unfold ClockUnit.shotText
  split
  · exact Nat.zero_le 3
  · split
    · exact Nat.zero_le 3
    · split
      · exact decimal_length_le _
      · next hlow =>
        rw [Option.getD_some, secondsTenths, List.length_append]
        have hone : (decimal (c.shot.value / 100 / 10)).length ≤ 1 :=
          (decimal_length_le_iff (by omega)).mpr ⟨Nat.one_pos, by omega⟩
        exact Nat.add_le_add_right hone 2

theorem scorebugTexts_within (u : ScoreUnit) (c : ClockUnit) (h : ∀ f : Fin 10, u.fields[f] ≤ fieldMax f) :
    List.Forall₂ ScoreText.Within (scorebugTexts u c) scorebugRegions := by
  have hgame := gameText_length c.game
  have hshot := shotText_length c
  have hlt : ∀ {f : Fin 10} {n : Nat}, fieldMax f < n → u.fields[f] < n := fun {f _} hn => (h f).trans_lt hn
  have hgameWithin : (centredText 1 c.game.text).Within ⟨1, 0, 32⟩ := by
    refine ⟨rfl, Nat.zero_le _, ?_⟩
    rw [centredText]
    dsimp only
    omega
  have hshotWithin : (centredText 2 (c.shotText.getD [])).Within ⟨2, 13, 18⟩ := by
    refine ⟨rfl, ?_, ?_⟩
    · rw [centredText]
      dsimp only
      omega
    · rw [centredText]
      dsimp only
      omega
  refine .cons (placedNumber_within (hlt (f := 0) ?_) ?_ ?_) <| .cons (placedNumber_within (hlt (f := 2) ?_) ?_ ?_) <|
    .cons (placedNumber_within (hlt (f := 1) ?_) ?_ ?_) <| .cons hgameWithin <| .cons (placedNumber_within (hlt (f := 4) ?_) ?_ ?_) <|
    .cons (placedNumber_within (hlt (f := 6) ?_) ?_ ?_) <| .cons (shownChar_within _ _ _ _) <| .cons (shownChar_within _ _ _ _) <|
    .cons hshotWithin <| .cons (shownChar_within _ _ _ _) <| .cons (shownChar_within _ _ _ _) <|
    .cons (placedNumber_within (hlt (f := 7) ?_) ?_ ?_) <| .cons (placedNumber_within (hlt (f := 5) ?_) ?_ ?_) .nil
  all_goals decide

theorem scorebugRegions_disjoint :
    scorebugRegions.Pairwise fun g h => g.row ≠ h.row ∨ g.stop ≤ h.start ∨ h.stop ≤ g.start := by decide

theorem scorebugRegions_onWall : ∀ g ∈ scorebugRegions, g.row < 3 ∧ g.stop ≤ 32 := by decide

/-! ### The glyph positions -/

/-- What a rendering holds at a row and position. -/
def scoreCell (u : ScoreUnit) (c : ClockUnit) (row pos : Nat) : Option ScoreGlyph := ((renderScorebug u c)[32 * row + pos]?).bind id

theorem scoreCell_eq (u : ScoreUnit) (c : ClockUnit) {row pos : Nat} (hrow : row < 3) (hpos : pos < 32) :
    scoreCell u c row pos = (scorebugTexts u c).findSome? fun t => t.glyphAt row pos := by
  have hdiv : (32 * row + pos) / 32 = row := by omega
  have hmod : (32 * row + pos) % 32 = pos := by omega
  have hlt : 32 * row + pos < 96 := by omega
  rw [scoreCell, renderScorebug, Vector.getElem?_ofFn, dif_pos hlt, Option.bind_some, hdiv, hmod]
  rfl

/-- Of several texts only one places something at a position. -/
theorem findSome?_of_only {α β : Type} {f : α → Option β} {l : List α} {a : α} (ha : a ∈ l) (h : ∀ b ∈ l, f b = none ∨ f b = f a) :
    l.findSome? f = f a := by
  cases hfind : l.findSome? f with
  | none => exact (List.findSome?_eq_none_iff.mp hfind a ha).symm
  | some y =>
    obtain ⟨b, hb, hy⟩ := List.exists_of_findSome?_eq_some hfind
    rcases h b hb with hnone | hsame
    · cases hnone.symm.trans hy
    · exact hy.symm.trans hsame

section

variable {u : ScoreUnit} {c : ClockUnit}

/-- In a text's region the rendering holds what the text places. -/
theorem scoreCell_text (h : ∀ f : Fin 10, u.fields[f] ≤ fieldMax f) (i : Nat) {t : ScoreText} {g : ScoreRegion} {row pos : Nat}
    (ht : (scorebugTexts u c)[i]? = some t) (hg : scorebugRegions[i]? = some g) (hin : g.has row pos = true) :
    scoreCell u c row pos = t.glyphAt row pos := by
  have hmem := List.mem_of_getElem? hg
  obtain ⟨hrow, hstop⟩ := scorebugRegions_onWall g hmem
  obtain ⟨rfl, hlow, hhigh⟩ := ScoreRegion.has_iff.mp hin
  rw [scoreCell_eq u c hrow (by omega)]
  refine findSome?_of_only (f := fun t => t.glyphAt g.row pos) (List.mem_of_getElem? ht) fun t' ht' => ?_
  obtain ⟨j, hj⟩ := List.mem_iff_getElem?.mp ht'
  by_cases hij : j = i
  · subst hij
    exact .inr (by rw [Option.some.inj (hj.symm.trans ht)])
  · refine .inl ?_
    obtain ⟨hlength, hwithin⟩ := List.forall₂_iff_get.mp (scorebugTexts_within u c h)
    obtain ⟨hjlt, rfl⟩ := List.getElem?_eq_some_iff.mp hj
    obtain ⟨hilt, rfl⟩ := List.getElem?_eq_some_iff.mp hg
    have hjlt' : j < scorebugRegions.length := hlength ▸ hjlt
    refine (hwithin j hjlt hjlt').glyphAt_none ?_
    rw [← Bool.not_eq_true, ScoreRegion.has_iff]
    rintro ⟨hsame, hlow', hhigh'⟩
    have hdisjoint := List.pairwise_iff_getElem.mp scorebugRegions_disjoint
    rw [List.get_eq_getElem] at hsame hlow' hhigh'
    dsimp only at hsame hlow' hhigh'
    rcases Nat.lt_or_gt_of_ne hij with hlt | hlt
    · rcases hdisjoint j i hjlt' hilt hlt with hrows | hstops | hstops
      · exact hrows hsame.symm
      · omega
      · omega
    · rcases hdisjoint i j hilt hjlt' hlt with hrows | hstops | hstops
      · exact hrows hsame
      · omega
      · omega

/-- Outside every region the rendering is blank. -/
theorem scoreCell_blank (h : ∀ f : Fin 10, u.fields[f] ≤ fieldMax f) {row pos : Nat} (hrow : row < 3) (hpos : pos < 32)
    (hout : ∀ g ∈ scorebugRegions, g.has row pos = false) : scoreCell u c row pos = none := by
  rw [scoreCell_eq u c hrow hpos, List.findSome?_eq_none_iff]
  intro t ht
  obtain ⟨j, hj⟩ := List.mem_iff_getElem?.mp ht
  obtain ⟨hlength, hwithin⟩ := List.forall₂_iff_get.mp (scorebugTexts_within u c h)
  obtain ⟨hjlt, rfl⟩ := List.getElem?_eq_some_iff.mp hj
  have hjlt' : j < scorebugRegions.length := hlength ▸ hjlt
  exact (hwithin j hjlt hjlt').glyphAt_none (hout _ (List.get_mem _ _))

/-- A number field, right-aligned without leading zeros. -/
theorem scoreCell_number (h : ∀ f : Fin 10, u.fields[f] ≤ fieldMax f) (k : Nat) {row start places v i : Nat} {reversed : Bool}
    (ht : (scorebugTexts u c)[k]? = some (placedNumber row start places v reversed))
    (hg : scorebugRegions[k]? = some ⟨row, start, start + places⟩) (hv : v < 10 ^ places) (hthree : places ≤ 3) (hi : i < places) :
    scoreCell u c row (start + places - 1 - i) =
      if i = 0 ∨ 10 ^ i ≤ v then some { code := BitVec.ofNat 8 (0x30 + v / 10 ^ i % 10), reversed := reversed } else none := by
  rw [scoreCell_text h k ht hg (ScoreRegion.has_iff.mpr ⟨rfl, ?_, ?_⟩), placedNumber_glyphAt hv hthree hi]
  · dsimp only
    omega
  · dsimp only
    omega

/-- A character shown on a condition. -/
theorem scoreCell_mark (h : ∀ f : Fin 10, u.fields[f] ≤ fieldMax f) (k : Nat) {row pos n m : Nat} {code : Byte}
    (ht : (scorebugTexts u c)[k]? = some (shownChar row pos (n == m) code)) (hg : scorebugRegions[k]? = some ⟨row, pos, pos + 1⟩) :
    (n = m → scoreCell u c row pos = some { code := code, reversed := false }) ∧ (¬ n = m → scoreCell u c row pos = none) := by
  have hcell : scoreCell u c row pos = if (n == m) = true then some { code := code, reversed := false } else none := by
    rw [scoreCell_text h k ht hg (ScoreRegion.has_iff.mpr ⟨rfl, Nat.le_refl pos, Nat.lt_succ_self pos⟩), shownChar_glyphAt]
  exact ⟨fun hon => by rw [hcell, if_pos (beq_iff_eq.mpr hon)], fun hoff => by rw [hcell, if_neg fun e => hoff (beq_iff_eq.mp e)]⟩

/-- A centred text: its characters from the middle, and blanks beside them. -/
theorem scoreCell_centred (h : ∀ f : Fin 10, u.fields[f] ≤ fieldMax f) (k : Nat) {row : Nat} {l : List Byte} {g : ScoreRegion}
    (ht : (scorebugTexts u c)[k]? = some (centredText row l)) (hg : scorebugRegions[k]? = some g) (hwithin : (centredText row l).Within g) :
    (∀ (i : Nat) (b : Byte), l[i]? = some b → scoreCell u c row ((32 - l.length) / 2 + i) = some { code := b, reversed := false }) ∧
      ∀ pos, g.start ≤ pos → pos < g.stop → pos < (32 - l.length) / 2 ∨ (32 - l.length) / 2 + l.length ≤ pos →
        scoreCell u c row pos = none := by
  obtain ⟨hrow, hstart, hstop⟩ := hwithin
  have hrow' : row = g.row := hrow
  refine ⟨fun i b hb => ?_, fun pos hlow hhigh hout => ?_⟩
  · have hi := (List.getElem?_eq_some_iff.mp hb).1
    rw [scoreCell_text h k ht hg (ScoreRegion.has_iff.mpr ⟨hrow', ?_, ?_⟩)]
    · refine (glyphAt_index (t := centredText row l)).trans ?_
      have hchar : (centredText row l).chars[i]? = some b := hb
      rw [hchar]
      rfl
    · exact hstart.trans (Nat.le_add_right _ i)
    · exact (Nat.add_lt_add_left hi _).trans_le hstop
  · rw [scoreCell_text h k ht hg (ScoreRegion.has_iff.mpr ⟨hrow', hlow, hhigh⟩)]
    exact glyphAt_outside (.inr hout)

end

/-! ### The clocks' texts (R85, R86) -/

/-- A number below 100, without leading zeros. -/
def plainNumber (n : Nat) : List Byte :=
  if n < 10 then [BitVec.ofNat 8 (0x30 + n)] else [BitVec.ofNat 8 (0x30 + n / 10), BitVec.ofNat 8 (0x30 + n % 10)]

theorem decimal_plain {n : Nat} (h : n < 100) : decimal n = plainNumber n := by
  unfold decimal plainNumber
  rw [if_pos h]
  split
  · next hn => rw [digitChar_of_lt hn]
  · rw [digitChar_of_lt (by omega), digitChar]

theorem minutesSeconds_plain {sec : Nat} (h : sec < 6000) : minutesSeconds sec =
    plainNumber (sec / 60) ++ [0x3A, BitVec.ofNat 8 (0x30 + sec % 60 / 10), BitVec.ofNat 8 (0x30 + sec % 60 % 10)] := by
  rw [minutesSeconds, decimal_plain (by omega), digitChar_of_lt (by omega : sec % 60 / 10 < 10), digitChar]

theorem secondsTenths_plain {n : Nat} (h : n < 1000) :
    secondsTenths n = plainNumber (n / 10) ++ [0x2E, BitVec.ofNat 8 (0x30 + n % 10)] := by
  rw [secondsTenths, decimal_plain (by omega), digitChar]

theorem ceilSeconds_eq {ms sec : Nat} (hlow : ms ≤ 1000 * sec) (hhigh : 1000 * sec < ms + 1000) : ceilSeconds ms = sec := by
  rw [ceilSeconds]
  omega

section

variable {g : GameClock}

theorem gameText_up (h : g.direction = .up) : g.text = minutesSeconds (g.value / 1000) := by
  rw [GameClock.text, h]

theorem gameText_down_whole (h : g.direction = .down) (hwhole : 60000 ≤ g.value ∨ g.tenths = false) :
    g.text = minutesSeconds (ceilSeconds g.value) := by
  rw [GameClock.text, h]
  exact if_pos hwhole

theorem gameText_down_tenths (h : g.direction = .down) (hlow : g.value < 60000) (htenths : g.tenths = true) :
    g.text = secondsTenths (g.value / 100) := by
  rw [GameClock.text, h]
  refine if_neg fun hwhole => ?_
  rcases hwhole with hle | hoff
  · omega
  · exact Bool.noConfusion (htenths.symm.trans hoff)

end

section

variable {c : ClockUnit}

theorem shotText_blank (h : c.shot.state = .blank ∨ (c.game.direction = .down ∧ c.game.value < c.shot.value)) : c.shotText = none := by
  unfold ClockUnit.shotText
  split
  · rfl
  · next hstate => exact if_pos (h.resolve_left hstate)

theorem shotText_shown (h : ¬ (c.shot.state = .blank ∨ (c.game.direction = .down ∧ c.game.value < c.shot.value))) : c.shotText =
    if 5000 ≤ c.shot.value then some (decimal (ceilSeconds c.shot.value)) else some (secondsTenths (c.shot.value / 100)) := by
  obtain ⟨hstate, hgame⟩ := not_or.mp h
  rw [ClockUnit.shotText, if_neg hstate, if_neg hgame]

end

end Sys2Proof.Machine
end

section
/-! PROOFS. What the wall shows, late cells and all (R18-R20, R22, R23, R57, R85, R86, R106-R108). -/

namespace Sys2Proof.Machine

/-! ### A pixel that is not late, by its owner (Tables 1.3 and 1.6) -/

/-- A pixel of the wall is owned by a zone and is not late. -/
structure OwnedPixel (s : State) (px py : Nat) (z : ZoneIx) : Prop where
  drawn : (px / 32, py / 32) ∉ s.panel.late
  mode : s.composer.record.mode = .normal
  owner : s.composer.record.owner (px / 32) (py / 32) = some z

section

variable {s : State} {px py : Nat} {z : ZoneIx}

theorem OwnedPixel.inLeadIn (h : OwnedPixel s px py z) (hlead : (s.composer.record.zones[z]).inLeadIn = true) :
    s.pixel px py = (s.composer.record.zones[z]).desc.guard := by
  rw [pixel_drawn h.drawn, source_owned h.mode h.owner, if_pos hlead]
  rfl

theorem OwnedPixel.shown (h : OwnedPixel s px py z) (hlead : (s.composer.record.zones[z]).inLeadIn = false) {src : PixelSource}
    (hsrc : drawnPixel s.intake.ring s.composer.record s.composer.record.zones[z]
      (px - 32 * (s.composer.record.zones[z]).desc.x.toNat) (py - 32 * (s.composer.record.zones[z]).desc.y.toNat) px py = src) :
    s.pixel px py = s.colourOf src := by
  rw [pixel_drawn h.drawn, source_owned h.mode h.owner, hlead, if_neg Bool.false_ne_true, hsrc]

end

/-- The replay's pixel, inside and outside the frames. -/
theorem colourOf_replayPixel (s : State) (guard : Colour) (g : RingDecl) (d : ReplayDraw) (zx zy : Nat) :
    (¬ (zx / 32 < g.w ∧ zy / 32 < g.h) → s.colourOf (replayPixel guard g d zx zy) = guard) ∧
    (zx / 32 < g.w ∧ zy / 32 < g.h →
      (d.b = none → s.colourOf (replayPixel guard g d zx zy) = scanColour s (imageAddr (g.slotBase d.a.slot) g.w zx zy)) ∧
      ∀ b, d.b = some b → s.colourOf (replayPixel guard g d zx zy) =
        blendColour d.w16 (scanColour s (imageAddr (g.slotBase d.a.slot) g.w zx zy))
          (scanColour s (imageAddr (g.slotBase b.slot) g.w zx zy))) := by
  refine ⟨fun hout => ?_, fun hin => ⟨fun hb => ?_, fun b hb => ?_⟩⟩
  · rw [replayPixel_outside hout]
    rfl
  · rw [replayPixel_single hin hb]
    rfl
  · rw [replayPixel_blend hin hb]
    rfl

/-- An image pixel's colour, reversed or not. -/
theorem colourOf_image (s : State) (a : Nat) (reversed : Bool) :
    s.colourOf (.image a reversed) = if reversed = true then reverseColour (scanColour s a) else scanColour s a := rfl

/-- Settles O27, from what a pixel's source draws, the places of the scorebug's texts and the clocks' texts. -/
theorem underrunSendsGuardColour : Obligations.UnderrunSendsGuardColour := by
  unfold Obligations.UnderrunSendsGuardColour
  refine ⟨fun s cx cy hrun hscan hunserved => ?_, fun s px py hdrawn => ?_, fun u c h => ?_, ?_, fun s => ?_⟩
  · refine ⟨_, exec_underrun hrun hscan hunserved, State.raise_flagged _ _, fun px py hx hy => ?_,
      fun px py hother => underrunCell_pixel_other hother, rfl⟩
    rw [underrunCell_pixel_late hx hy, lateColour]
    cases s.composer.record.owner cx cy <;> rfl
  · intro r reverse image glyph blend slate
    refine ⟨fun a ha => scanByte_unfetched ha, fun hmode => ?_, fun hmode => ?_, fun hmode => ?_, fun hmode hnone => ?_,
      fun z hmode hz => ?_⟩
    · rw [pixel_drawn hdrawn, State.source, pixelSource, show s.composer.record.mode = .black from hmode]
      rfl
    · rw [pixel_drawn hdrawn, State.source, pixelSource, show s.composer.record.mode = .white from hmode]
      rfl
    · rw [pixel_drawn hdrawn, source_slateOnly hmode, colourOf_slatePixel]
      rfl
    · rw [pixel_drawn hdrawn, source_ownerless hmode hnone, colourOf_slatePixel]
      rfl
    · intro v guard x y
      have howned : OwnedPixel s px py z := ⟨hdrawn, hmode, hz⟩
      refine ⟨howned.inLeadIn, fun c hlead hd => ?_, fun base hlead hd => ?_, fun a hlead hd => ?_, fun hlead hd => ?_,
        fun hlead hd => ?_, fun d g hlead hd hring => ?_, fun m f i hlead hd hfont hi => ⟨fun hblank => ?_, fun g hg => ?_⟩,
        fun t f hlead hd hfont => ⟨fun n c column hc hcolumn hx => ?_, fun hout => ?_⟩, fun m hlead hd hfont => ?_,
        fun t hlead hd hfont => ?_⟩
      · rw [howned.shown hlead (drawnPixel_fill hd)]
        rfl
      · rw [howned.shown hlead (drawnPixel_slate hd), colourOf_zoneImage]
        rfl
      · rw [howned.shown hlead (drawnPixel_art hd), colourOf_zoneImage]
        rfl
      · rw [howned.shown hlead (drawnPixel_noArt hd), colourOf_slatePixel]
        rfl
      · rw [howned.shown hlead (drawnPixel_noReplay hd)]
        rfl
      · rw [howned.shown hlead (drawnPixel_replay hd hring)]
        exact colourOf_replayPixel s guard g d x y
      · rw [howned.shown hlead ((drawnPixel_scorebug hd hfont).trans (scorebugPixel_blank hi hblank))]
        rfl
      · rw [howned.shown hlead ((drawnPixel_scorebug hd hfont).trans (scorebugPixel_glyph hi hg)), colourOf_image]
        rfl
      · rw [howned.shown hlead ((drawnPixel_ticker hd hfont).trans (tickerPixel_glyph hc hcolumn hx)), colourOf_image]
        simp only [beq_iff_eq]
        rfl
      · rw [howned.shown hlead ((drawnPixel_ticker hd hfont).trans (tickerPixel_outside hout))]
        rfl
      · rw [howned.shown hlead (drawnPixel_scorebug_fontless hd hfont)]
        rfl
      · rw [howned.shown hlead (drawnPixel_ticker_fontless hd hfont)]
        rfl
  · intro shot cell flash number mark centred
    have hlt : ∀ (f : Fin 10) (n : Nat), fieldMax f < n → u.fields[f] < n := fun f _ hn => (h f).trans_lt hn
    have hflash : ∀ n, flash n = flashReversed n := fun n => by
      rw [Bool.eq_iff_iff, flashReversed, Bool.and_eq_true, decide_eq_true_iff, decide_eq_true_iff, beq_iff_eq]
    obtain ⟨hlength, hwithin⟩ := List.forall₂_iff_get.mp (scorebugTexts_within u c h)
    have hgame := scoreCell_centred h 3 rfl rfl (hwithin 3 (by rw [hlength]; decide) (by decide))
    have hshot := scoreCell_centred h 8 rfl rfl (hwithin 8 (by rw [hlength]; decide) (by decide))
    refine ⟨fun i hi => ?_, fun i hi => ?_, fun i hi => ?_, hgame.1, fun i hi => ?_, fun i hi => ?_, ?_, ?_, hshot.1, ?_, ?_,
      fun i hi => ?_, fun i hi => ?_, fun pos hpos hout => ?_, fun pos hpos => hgame.2 pos (Nat.zero_le pos) hpos,
      fun pos hlow hhigh => hshot.2 pos hlow (Nat.lt_succ_of_le hhigh), fun pos hpos hout => ?_⟩
    · rw [hflash]
      exact scoreCell_number h 0 rfl rfl (hlt 0 1000 (by decide)) (Nat.le_refl 3) hi
    · exact scoreCell_number h 1 rfl rfl (hlt 2 10 (by decide)) (by decide) hi
    · rw [hflash]
      exact scoreCell_number h 2 rfl rfl (hlt 1 1000 (by decide)) (Nat.le_refl 3) hi
    · exact scoreCell_number h 4 rfl rfl (hlt 4 10 (by decide)) (by decide) hi
    · exact scoreCell_number h 5 rfl rfl (hlt 6 100 (by decide)) (by decide) hi
    · exact scoreCell_mark h 6 rfl rfl
    · exact scoreCell_mark h 7 rfl rfl
    · exact scoreCell_mark h 9 rfl rfl
    · exact scoreCell_mark h 10 rfl rfl
    · exact scoreCell_number h 11 rfl rfl (hlt 7 100 (by decide)) (by decide) hi
    · exact scoreCell_number h 12 rfl rfl (hlt 5 10 (by decide)) (by decide) hi
    · have houtside : ∀ pos < 32, pos ∉ [2, 3, 4, 16, 27, 28, 29] → ∀ g ∈ scorebugRegions, g.has 0 pos = false := by decide
      exact scoreCell_blank h (by decide) hpos (houtside pos hpos hout)
    · have houtside : ∀ pos < 32, pos ∉ [1, 3, 4, 6, 12, 13, 14, 15, 16, 17, 19, 25, 27, 28, 30] →
          ∀ g ∈ scorebugRegions, g.has 2 pos = false := by decide
      exact scoreCell_blank h (by decide) hpos (houtside pos hpos hout)
  · intro digit plain minutes tenths
    refine ⟨fun g hg => ⟨fun hup => ?_, fun sec hdown hwhole hlow hhigh => ?_, fun hdown hlow htenths => ?_⟩, fun c hc => ?_⟩
    · rw [gameText_up hup, minutesSeconds_plain (by omega)]
      rfl
    · rw [gameText_down_whole hdown hwhole, ceilSeconds_eq hlow hhigh, minutesSeconds_plain (by omega)]
      rfl
    · rw [gameText_down_tenths hdown hlow htenths, secondsTenths_plain (by omega)]
      rfl
    · intro blank
      refine ⟨shotText_blank, fun sec hshown hle hlow hhigh => ?_, fun hshown hlow => ?_⟩
      · rw [shotText_shown hshown, if_pos hle, ceilSeconds_eq hlow hhigh, decimal_plain (by omega)]
        rfl
      · rw [shotText_shown hshown, if_neg (by omega), secondsTenths_plain (by omega)]
        rfl
  · refine ⟨linkSends_off, linkSends_blanking, fun hrun hscan => ⟨_, linkSends_scan hrun hscan, ?_, fun y hy => ?_⟩⟩
    · rw [State.panelFrame, List.length_map, List.length_range]
    · refine ⟨_, panelFrame_getElem? hy, ?_, fun x hx => ?_⟩
      · rw [List.length_map, List.length_range]
      · rw [List.getElem?_map, List.getElem?_range hx, Option.map_some]

end Sys2Proof.Machine
end
